-- ==== Sys2Proof/Word.lean ====
section
/-! DEFINITION. The words and numbers the manual uses: bytes, belt positions, tags, and the numbering of stations, gates and destinations (spec 00, Conventions). -/

namespace Sys2Proof

/-- A byte of a frame (R157). -/
abbrev Byte := BitVec 8

/-- A belt position or a distance taken modulo 2^24 (spec 00, Positions). -/
abbrev Pos := BitVec 24

/-- The tag of a capture, 0..4095 (R21). -/
abbrev Tag := BitVec 12

/-- The window count s and the pattern codes are 16-bit numbers (R3, R38). -/
abbrev Word16 := BitVec 16

/-- S0 to S5. -/
abbrev Station := Fin 6

/-- G0 to G11, in belt order. -/
abbrev GateId := Fin 12

/-- D0 to D23: D(2g) is the left side of gate g, D(2g+1) the right side. -/
abbrev DestId := Fin 24

/-- The fourteen item classes by their codes (spec 00, Item classes). -/
abbrev ItemClass := Fin 14

/-- Class code 13. -/
abbrev ItemClass.unknown : ItemClass := 13

end Sys2Proof
end

