-- ==== Sys2Proof/Syntax.lean ====
section
/-! DEFINITION. The commands: one constructor of Instr for each row of spec/opcode_table.json, with the port, gate, destination, entry or bytes the event is about. -/

namespace Sys2Proof

/-- The two parties that send requests (R157, table of ports). -/
inductive Sender where
  | station (s : Station)
  | site
deriving DecidableEq, Repr

/-- The eight ports: six stations, the site (6) and the identifier (7). -/
inductive Port where
  | sender (q : Sender)
  | identifier
deriving DecidableEq, Repr

/-- A gate's side, written 0 for left and 1 for right (spec 00). -/
inductive Side where
  | left
  | right
deriving DecidableEq, Repr

/-- What a port's line delivers: a byte, or a byte whose stop bit is not found (R158). -/
inductive LineItem where
  | byte (b : Byte)
  | lineError
deriving DecidableEq, Repr

/-- How other blocks name a map entry: by its tag, or the token by the TEST flag (R52). -/
inductive EntryRef where
  | tag (t : Tag)
  | token
deriving DecidableEq, Repr

/-- The commands of the block, one constructor for each row of spec/opcode_table.json in the table's order.
A frame command is a good frame of its kind, with its port, frame tag and payload bytes (R157, R162). -/
inductive Instr where
  /-- POWER_ON_RESET (R178). -/
  | powerOnReset
  /-- RESET_PIN (R178). -/
  | resetPin
  /-- RESET_RELEASE (R178). -/
  | resetRelease
  /-- ENCODER_PULSE (R1). -/
  | encoderPulse
  /-- SPEED_WINDOW_END (R3). -/
  | speedWindowEnd
  /-- RUN_GUARD_ELAPSED (R6). -/
  | runGuardElapsed
  /-- IDLE_EXPIRY (R9). -/
  | idleExpiry
  /-- INFEED_EYE_CHANGE (R9): the level the eye goes to. -/
  | infeedEyeChange (blocked : Bool)
  /-- INFEED_WAKE (R10). -/
  | infeedWake
  /-- STOP_CHAIN_OPEN (R12). -/
  | stopChainOpen
  /-- TAIL_FULL_INPUT_CHANGE (R13): the level the input goes to. -/
  | tailFullInputChange (asserted : Bool)
  /-- TAIL_FULL_ASSERTED (R13). -/
  | tailFullAsserted
  /-- TAIL_FULL_CLEARED (R13). -/
  | tailFullCleared
  /-- READ_EYE_BLOCK (R19). -/
  | readEyeBlock
  /-- READ_EYE_CLEAR (R24). -/
  | readEyeClear
  /-- CAPTURE_COMMIT (R21). -/
  | captureCommit
  /-- LENGTH_CLAMP (R25). -/
  | lengthClamp
  /-- CLEAR_WAIT_END (R26). -/
  | clearWaitEnd
  /-- ITEM_REPORT (R30). -/
  | itemReport (port : Port) (tag : Byte) (payload : List Byte)
  /-- ID_WINDOW_EXPIRY (R34), of the entry with this tag. -/
  | idWindowExpiry (entry : Tag)
  /-- IDENTIFIER_SILENT (R35). -/
  | identifierSilent
  /-- ARMING (R121), of the entry named. -/
  | arming (entry : EntryRef)
  /-- FIRE_TARGET (R125), of the head of the gate's fire queue. -/
  | fireTarget (gate : GateId)
  /-- TAIL_ARRIVAL (R60), of the entry with this tag. -/
  | tailArrival (entry : Tag)
  /-- GATE_DRIVE_OFF (R126). -/
  | gateDriveOff (gate : GateId)
  /-- GATE_CYCLE_END (R126). -/
  | gateCycleEnd (gate : GateId)
  /-- EXTENDED_SWITCH_CHANGE (R150): the level the switch goes to. -/
  | extendedSwitchChange (gate : GateId) (side : Side) (extended : Bool)
  /-- ACTUATOR_CHECK_DEADLINE (R150). -/
  | actuatorCheckDeadline (gate : GateId)
  /-- CONFIRM_EYE_CHANGE (R141): the level the eye goes to. -/
  | confirmEyeChange (dest : DestId) (blocked : Bool)
  /-- CONFIRM_EYE_SIGHTING (R141). -/
  | confirmEyeSighting (dest : DestId)
  /-- CONFIRM_EYE_CLEAR_SETTLED (R141). -/
  | confirmEyeClearSettled (dest : DestId)
  /-- CONFIRM_WINDOW_EXPIRY (R144), of the record with this tag. -/
  | confirmWindowExpiry (dest : DestId) (record : Tag)
  /-- CHUTE_BLOCK (R148). -/
  | chuteBlock (dest : DestId)
  /-- CHUTE_BLOCK_CLEAR (R149). -/
  | chuteBlockClear (dest : DestId)
  /-- RACK_SENSOR_CHANGE (R108): the level the sensor goes to. -/
  | rackSensorChange (dest : DestId) (asserted : Bool)
  /-- RACK_SENSOR_SETTLED (R108). -/
  | rackSensorSettled (dest : DestId)
  /-- BAD_FRAME (R159): what the line delivers up to the end of the bad frame (log 7). -/
  | badFrame (port : Port) (line : List LineItem)
  /-- FRAME_GAP_TIMEOUT (R159). -/
  | frameGapTimeout (port : Port)
  /-- UNKNOWN_KIND (R162): a good frame of a kind not taken on its port. -/
  | unknownKind (port : Port) (kind : Byte) (tag : Byte) (payload : List Byte)
  /-- FRAME_SENT (R164), of the port's transmitter. -/
  | frameSent (port : Sender)
  /-- LINK_SILENCE_1000 (R168). -/
  | linkSilence1000 (port : Sender)
  /-- LINK_LAPSE (R169). -/
  | linkLapse (port : Sender)
  /-- DEST_STATE_REFRESH (R115). -/
  | destStateRefresh
  /-- HELLO (R167). -/
  | hello (port : Port) (tag : Byte) (payload : List Byte)
  /-- GOODBYE (R170). -/
  | goodbye (port : Port) (tag : Byte) (payload : List Byte)
  /-- CLAIM (R100). -/
  | claim (port : Port) (tag : Byte) (payload : List Byte)
  /-- RELEASE (R105). -/
  | release (port : Port) (tag : Byte) (payload : List Byte)
  /-- OPEN (R101). -/
  | openDest (port : Port) (tag : Byte) (payload : List Byte)
  /-- CLOSE (R102). -/
  | closeDest (port : Port) (tag : Byte) (payload : List Byte)
  /-- SET-SLOTS (R103). -/
  | setSlots (port : Port) (tag : Byte) (payload : List Byte)
  /-- CLEAR-FULL (R104). -/
  | clearFull (port : Port) (tag : Byte) (payload : List Byte)
  /-- QUERY-DEST (R115). -/
  | queryDest (port : Port) (tag : Byte) (payload : List Byte)
  /-- FORCE-RELEASE (R106). -/
  | forceRelease (port : Port) (tag : Byte) (payload : List Byte)
  /-- WRITE-ROUTE (R73, R74). -/
  | writeRoute (port : Port) (tag : Byte) (payload : List Byte)
  /-- READ-ROUTE (R76). -/
  | readRoute (port : Port) (tag : Byte) (payload : List Byte)
  /-- SET-LIST (R74). -/
  | setList (port : Port) (tag : Byte) (payload : List Byte)
  /-- REGISTER-PATTERN (R41). -/
  | registerPattern (port : Port) (tag : Byte) (payload : List Byte)
  /-- DROP-PATTERN (R47). -/
  | dropPattern (port : Port) (tag : Byte) (payload : List Byte)
  /-- CLEAR-PATTERNS (R48). -/
  | clearPatterns (port : Port) (tag : Byte) (payload : List Byte)
  /-- SET-BELT (R180). -/
  | setBelt (port : Port) (tag : Byte) (payload : List Byte)
  /-- SET-GATE (R181). -/
  | setGate (port : Port) (tag : Byte) (payload : List Byte)
  /-- SET-DEST (R182). -/
  | setDest (port : Port) (tag : Byte) (payload : List Byte)
  /-- COMMISSION (R183). -/
  | commission (port : Port) (tag : Byte) (payload : List Byte)
  /-- START (R7). -/
  | start (port : Port) (tag : Byte) (payload : List Byte)
  /-- STOP (R8). -/
  | stop (port : Port) (tag : Byte) (payload : List Byte)
  /-- RESUME (R15). -/
  | resume (port : Port) (tag : Byte) (payload : List Byte)
  /-- RESTART (R187). -/
  | restart (port : Port) (tag : Byte) (payload : List Byte)
  /-- TEST-FIRE (R133). -/
  | testFire (port : Port) (tag : Byte) (payload : List Byte)
  /-- READ-TEST (R186). -/
  | readTest (port : Port) (tag : Byte) (payload : List Byte)
  /-- TAKE-GATE-OUT (R130). -/
  | takeGateOut (port : Port) (tag : Byte) (payload : List Byte)
  /-- RETURN-GATE (R132). -/
  | returnGate (port : Port) (tag : Byte) (payload : List Byte)
  /-- READ-FAULT (R186). -/
  | readFault (port : Port) (tag : Byte) (payload : List Byte)
  /-- READ-MAP (R68). -/
  | readMap (port : Port) (tag : Byte) (payload : List Byte)
  /-- SNAPSHOT (R189). -/
  | snapshot (port : Port) (tag : Byte) (payload : List Byte)
  /-- SNAPSHOT-CLEAR (R189). -/
  | snapshotClear (port : Port) (tag : Byte) (payload : List Byte)
  /-- READ-SNAPSHOT (R190). -/
  | readSnapshot (port : Port) (tag : Byte) (payload : List Byte)
  /-- READ-CONDITIONS (R193). -/
  | readConditions (port : Port) (tag : Byte) (payload : List Byte)
  /-- SET-ENABLES (R192). -/
  | setEnables (port : Port) (tag : Byte) (payload : List Byte)
  /-- STOP_CHAIN_CLOSE (R12). -/
  | stopChainClose
deriving DecidableEq, Repr

end Sys2Proof
end

