-- ==== Sys2Proof/Config.lean ====
section
/-! DEFINITION. The free values: constants with no body, for what the manual leaves open. Nothing can be proved of the value of one of them. -/

namespace Sys2Proof

/-- The bytes sent for a field that is absent and for which R161 gives no code (log 12). -/
opaque Config.freeByte (draw : Nat) : Byte

/-- The window count after a pulse past 65,535, which R3 does not state (log 17). -/
opaque Config.freeWord (draw : Nat) : Word16

/-- Which side is recorded where both switches read extended when a watch begins (R151, log 20): true for right. -/
opaque Config.freeSide (draw : Nat) : Bool

/-- Which of several due events the part takes first, where R2 gives no order (log 2). -/
opaque Config.freeOrder (draw : Nat) : Nat

/-- The byte a part sends for yes: R161 says only that it is not 00h (log 13). -/
opaque Config.yesCode : Byte

end Sys2Proof
end

