-- ==== Sys2Proof/Machine/State.lean ====
section
/-! DEFINITION. The state of the part, block by block (spec 00, Functional overview), as plain data, with the values after reset (R178). -/

namespace Sys2Proof.Machine

/-! ### Belt unit (spec 01) -/

/-- The five belt states (1.3). -/
inductive BeltState where
  | unconfigured
  | stopped
  | running
  | idleStopped
  | halted
deriving DecidableEq, Repr

/-- The halt cause set (R11). -/
structure Causes where
  stopChain : Bool := false
  encoderLoss : Bool := false
  tailFull : Bool := false
deriving DecidableEq, Repr

/-- The belt unit's state (table at the head of spec 01). -/
structure Belt where
  /-- Belt position P (R1). -/
  p : Pos := 0
  /-- Window count s (R3). -/
  windowCount : Word16 := 0
  /-- Speed estimate V (R4). -/
  v : Nat := 0
  /-- OVERSPEED level (R5). -/
  overspeed : Bool := false
  /-- Clean-window count (R5). -/
  cleanWindows : Nat := 0
  /-- Belt state (R6). -/
  state : BeltState := .unconfigured
  /-- Halt cause set (R11). -/
  causes : Causes := {}
  /-- Tail-full level, true for ASSERTED (R13). -/
  tailFull : Bool := false
  /-- Zero-window count (R14). -/
  zeroWindows : Nat := 0
  /-- Run guard: the ms since entry to RUNNING, or none when elapsed (R6). -/
  runGuard : Option Nat := none
  /-- Idle timer in ms (R9). -/
  idleMs : Nat := 0
  /-- Motor run output (R6). -/
  motor : Bool := false
  /-- Time into the present 50 ms window (R3). -/
  windowMs : Nat := 0
  /-- How long the infeed eye has been blocked, up to 50 ms (R10). -/
  infeedMs : Nat := 0
  /-- How long the tail-full input has held its level, up to 2000 ms, from COMMISSION on (R13). -/
  tailMs : Nat := 0
deriving DecidableEq, Repr

/-! ### Input pins (spec 00, External connections) -/

/-- The levels at the inputs. A reset does not set them. -/
structure Pins where
  /-- Read-point eye, true for blocked. -/
  readEye : Bool := false
  /-- Infeed eye, true for blocked. -/
  infeedEye : Bool := false
  /-- Stop chain, true for open. -/
  chainOpen : Bool := false
  /-- Tail-full input, true for asserted. -/
  tailFull : Bool := false
  /-- Gate extended switches, left, true for extended. -/
  extLeft : Vector Bool 12 := Vector.replicate 12 false
  /-- Gate extended switches, right. -/
  extRight : Vector Bool 12 := Vector.replicate 12 false
  /-- Chute confirm eyes, true for blocked. -/
  confirmEyes : Vector Bool 24 := Vector.replicate 24 false
  /-- Rack sensors, true for asserted. -/
  racks : Vector Bool 24 := Vector.replicate 24 false
deriving DecidableEq, Repr

/-! ### Read-point unit (spec 02) -/

/-- The capture states with what each holds (2.1): READY, OPEN, COMMITTED, CLEAR_WAIT. -/
inductive Capture where
  | ready
  | opened (r : Pos)
  | committed (r : Pos) (tag : Tag) (entryMade : Bool)
  | clearWait (since : Option Pos)
deriving DecidableEq, Repr

/-- The read-point unit's state. -/
structure ReadPoint where
  capture : Capture := .ready
  /-- Tag of the last committed capture (R21). -/
  tagCounter : Tag := 0
  /-- READ_EYE_BLOCKED level (R25). -/
  eyeBlocked : Bool := false
deriving DecidableEq, Repr

/-- The identity matcher's state (2.4). -/
structure Matcher where
  /-- Identifier silence timer, 0..2000 ms of running belt (R35). -/
  silenceMs : Nat := 0
  /-- IDENTIFIER_SILENT level (R35). -/
  silent : Bool := false
deriving DecidableEq, Repr

/-! ### Pattern table (spec 03) -/

/-- One pattern table entry (3.1). -/
structure PatternEntry where
  code : Word16
  owner : Station
  locked : Bool
deriving DecidableEq, Repr

/-! ### Transit map (spec 04) -/

/-- The owner value an item carries: O0..O5 or NONE. -/
inductive ItemOwner where
  | outlet (s : Station)
  | nobody
deriving DecidableEq, Repr

/-- Where an entry goes: D0..D23 or the tail T. -/
inductive Target where
  | gateDest (d : DestId)
  | tail
deriving DecidableEq, Repr

/-- Entry states (4.3). -/
inductive EntryState where
  | pending
  | routed
  | armed
  | toTail
  | suspect
deriving DecidableEq, Repr

/-- One transit map entry (4.1). The TEST flag is the absence of the tag, LENGTH_OPEN the absence of the length. -/
structure Entry where
  tag : Option Tag
  /-- Capture position R. -/
  r : Pos
  length : Option Nat
  cls : Option ItemClass := none
  owner : Option ItemOwner := none
  pattern : Option Word16 := none
  broken : Bool := false
  confidence : Option Nat := none
  dest : Option Target := none
  attempts : Nat := 0
  /-- Fire position F. -/
  fireAt : Option Pos := none
  late : Bool := false
  clampedLength : Bool := false
  state : EntryState
deriving DecidableEq, Repr

/-! ### Route unit (spec 05) -/

/-- The 98 cells, class by class and within a class O0..O5 then NONE, and the two site lists (R72). -/
structure Routes where
  cells : Vector (List DestId) 98 := Vector.replicate 98 []
  overflow : List DestId := []
  breakage : List DestId := []
deriving DecidableEq, Repr

/-! ### Destination table, slot credit and chute monitor, per destination (spec 05, 06, 08) -/

/-- Destination states (6.2). -/
inductive DestState where
  | unclaimed
  | closed
  | opened
  | draining
  | releasing
deriving DecidableEq, Repr

/-- Rack sensor modes (R108). -/
inductive RackMode where
  | level
  | edge
deriving DecidableEq, Repr

/-- EDGE re-arm states (R108). -/
inductive Rearm where
  | armed
  | waitingForClear
deriving DecidableEq, Repr

/-- Confirm eye states (R141). -/
inductive EyeState where
  | clear
  | blocking
  | seen
  | clearing
deriving DecidableEq, Repr

/-- The five hold conditions (6.3). -/
structure Holds where
  full : Bool := false
  blocked : Bool := false
  silent : Bool := false
  gateOut : Bool := false
  orphaned : Bool := false
deriving DecidableEq, Repr

/-- One awaiting-confirm record (8.1). Its destination is the queue it stands in, and its window expiry is held as the ms left. -/
structure Awaiting where
  tag : Tag
  cls : ItemClass
  owner : ItemOwner
  leftMs : Nat
deriving DecidableEq, Repr

/-- What the destination table, the route unit and the chute monitor hold for one destination. -/
structure Dest where
  configured : Bool := false
  /-- Accepted class set, bit n for class n. -/
  classes : BitVec 14 := 0
  /-- Claim eligibility, bit s for station Ss and bit 6 for SITE. -/
  eligible : BitVec 7 := 0
  mode : RackMode := .level
  /-- The owner, none for UNCLAIMED. -/
  owner : Option Sender := none
  state : DestState := .unclaimed
  holds : Holds := {}
  rearm : Rearm := .armed
  /-- How long the rack sensor has held its level, up to 50 ms (R108). -/
  rackMs : Nat := 0
  /-- Free slots F_d (R78). -/
  free : Nat := 0
  /-- Reserved count R_d (R79). -/
  reserved : Nat := 0
  /-- margin_d (R81). -/
  margin : Nat := 1
  /-- Awaiting-confirm queue, oldest first (R139). -/
  awaiting : List Awaiting := []
  eye : EyeState := .clear
  /-- The 20 ms filter of BLOCKING and CLEARING (R141). -/
  eyeMs : Nat := 0
  /-- Block timer (R148). -/
  blockMs : Nat := 0
  /-- Clear timer (R149). -/
  clearMs : Nat := 0
  /-- Consecutive-miss count (R145). -/
  misses : Nat := 0
deriving DecidableEq, Repr

/-! ### Gate timers and the gates' part of the chute monitor (spec 07, 08) -/

/-- Service states (7.5). -/
inductive Service where
  | inService
  | outOfService
deriving DecidableEq, Repr

/-- A cycle in progress (R126): the side fired and the ms left to the end and to the drive going off. -/
structure Cycle where
  side : Side
  endIn : Nat
  offIn : Nat
deriving DecidableEq, Repr

/-- An actuator check in progress (R150): the side, the ms left to the deadline, and whether the token waits on it. -/
structure ActuatorCheck where
  side : Side
  leftMs : Nat
  forToken : Bool
deriving DecidableEq, Repr

/-- Causes of the fault record (8.7). -/
inductive FaultCause where
  | noneSinceReset
  | actuatorNoExtend
  | extendUncommanded
  | takenOut
deriving DecidableEq, Repr

/-- A gate's fault record (R153). -/
structure FaultRecord where
  cause : FaultCause := .noneSinceReset
  side : Option Side := none
  count : Nat := 0
  p : Option Pos := none
deriving DecidableEq, Repr

/-- A gate record (table at the head of spec 07) with its actuator checks and fault record. -/
structure Gate where
  configured : Bool := false
  /-- D_g. -/
  d : Nat := 2000
  /-- A_g. -/
  a : Nat := 400
  /-- L_g. -/
  l : Nat := 60
  /-- T_g. -/
  t : Nat := 250
  /-- C_g. -/
  c : Nat := 600
  service : Service := .inService
  /-- The motion: none for IDLE, a cycle for CYCLING. -/
  cycle : Option Cycle := none
  driveLeft : Bool := false
  driveRight : Bool := false
  lastFired : Option Pos := none
  /-- Fire queue, in fire order (R122). -/
  queue : List EntryRef := []
  /-- Actuator checks in progress, oldest first (R150; log 34). -/
  checks : List ActuatorCheck := []
  fault : FaultRecord := {}
deriving DecidableEq, Repr

/-- Results of a test token (R135). -/
inductive TestResult where
  | nothing
  | pending
  | pass
  | actuatorFault
  | conflict
  | aborted
deriving DecidableEq, Repr

/-- The test result record (R135). LATE, which has no absent value, is no after reset (log 40). -/
structure TestRecord where
  gate : Option GateId := none
  side : Option Side := none
  result : TestResult := .nothing
  late : Bool := false
  fireAt : Option Pos := none
deriving DecidableEq, Repr

/-! ### Link controller (spec 09) -/

/-- Reply statuses (9.2). -/
inductive Status where
  | done
  | doneClamped
  | doneTruncated
  | lockLimit
  | notReady
  | notActive
  | notOwner
  | notEligible
  | state
  | busy
  | conflict
  | argument
  | unknownKind
  | badConfig
deriving DecidableEq, Repr

/-- A reply waiting to be sent (R163). -/
structure Reply where
  tag : Byte
  kind : Byte
  status : Status
  result : List Byte
deriving DecidableEq, Repr

/-- A frame the part sends, less sync, length and check (R157). -/
structure Frame where
  kind : Byte
  tag : Byte
  payload : List Byte
deriving DecidableEq, Repr

/-- A frame on the line, with the whole ms it still takes. -/
structure Sending where
  frame : Frame
  leftMs : Nat
deriving DecidableEq, Repr

/-- Link states (9.4). -/
inductive LinkState where
  | down
  | align
  | active
  | quiet
  | lapsed
deriving DecidableEq, Repr

/-- The link of a station or site port (9.3, 9.4). -/
structure Link where
  state : LinkState := .down
  /-- HELLO count (R167). -/
  hellos : Nat := 0
  /-- Silence timer, 0..4000 ms (R165). -/
  silenceMs : Nat := 0
  /-- Reply queue, oldest first (R163). -/
  replies : List Reply := []
  /-- The transmitter: none when free (R164). -/
  sending : Option Sending := none
deriving DecidableEq, Repr

/-- An item of the DEST-STATE list (9.6): a pending mark, or a final notice with its fixed contents. -/
inductive DestItem where
  | mark (d : DestId)
  | lastNotice (d : DestId) (payload : List Byte)
deriving DecidableEq, Repr

/-- A notice in the notice places (9.6). -/
inductive Notice where
  | arrival (d : DestId) (tag : Tag) (cls : ItemClass) (owner : ItemOwner) (confirmed : Bool)
  | evicted (code : Word16) (entries : Nat)
deriving DecidableEq, Repr

/-- The notice queue of a station port (9.6). -/
structure NoticeQueue where
  /-- DEST-STATE list, oldest first. -/
  dests : List DestItem := []
  /-- Notice places, oldest first. -/
  places : List Notice := []
  /-- Notice sequence (R176). -/
  seq : Byte := 0
deriving DecidableEq, Repr

/-- A port's receiver (R159): none in HUNT, otherwise the bytes kept since the sync, from which LENGTH, BODY and CHECK follow.
The gap timer is none while the gap rule does not apply. -/
structure Receiver where
  kept : Option (List Byte) := none
  gapMs : Option Nat := none
deriving DecidableEq, Repr

/-! ### Site settings and counter bank (spec 10, 11) -/

/-- The settings of SET-BELT (R180). -/
structure Settings where
  /-- D_T. -/
  dT : Nat := 3000
  /-- W. -/
  w : Nat := 800
  /-- Idle time in s. -/
  idleTime : Nat := 180
  /-- Confidence threshold. -/
  threshold : Nat := 60
  /-- Chute block time B in ms. -/
  b : Nat := 3000
deriving DecidableEq, Repr

/-- The counter bank (table at the head of spec 11). Condition bits are numbered as in 11.2. -/
structure Bank where
  live : Vector Nat 178 := Vector.replicate 178 0
  snapshot : Vector Nat 178 := Vector.replicate 178 0
  levels : BitVec 13 := 0
  latches : BitVec 13 := 0
  enables : BitVec 13 := 0
  globalEnable : Bool := false
  attn : Bool := false
deriving DecidableEq, Repr

/-! ### The whole part -/

/-- The state of the part. -/
structure State where
  belt : Belt := {}
  pins : Pins := {}
  reader : ReadPoint := {}
  matcher : Matcher := {}
  /-- Pattern table in recency order, least recent first (R39). -/
  patterns : List PatternEntry := []
  /-- Transit map in map order, oldest first (R51). -/
  map : List Entry := []
  routes : Routes := {}
  dests : Vector Dest 24 := Vector.replicate 24 {}
  gates : Vector Gate 12 := Vector.replicate 12 {}
  test : TestRecord := {}
  /-- Receivers of ports 0..7. -/
  receivers : Vector Receiver 8 := Vector.replicate 8 {}
  /-- Links of ports 0..6. -/
  links : Vector Link 7 := Vector.replicate 7 {}
  /-- Notice queues of ports 0..5. -/
  notices : Vector NoticeQueue 6 := Vector.replicate 6 {}
  settings : Settings := {}
  bank : Bank := {}
  /-- Time into the 1000 ms refresh grid (R115). -/
  refreshMs : Nat := 0
  /-- Power-on reset or the RESET pin is in force (R178). -/
  inReset : Bool := false
  /-- How many free values have been used (the model's own, log 12). -/
  draws : Nat := 0
  /-- How many free orders have been used (the model's own, log 2). -/
  orders : Nat := 0
  /-- The commands that wait, first in first out. -/
  pending : List Instr := []
deriving DecidableEq, Repr

/-- Why a step stops with a fault: the spec names no behaviour that stops the part, so there is no reason. -/
inductive Fault where
deriving DecidableEq, Repr

/-- Why a command has no meaning. -/
inductive Refusal where
  /-- A command of the table without a meaning yet: raised only by an arm of exec, and safe. -/
  | notModelled (mnemonic : String)
deriving DecidableEq, Repr

/-- The part right after the release of reset, with every input at rest (R178; log 5): the field defaults above are the reset values. -/
def State.reset : State := {}

end Sys2Proof.Machine
end

