-- ==== Sys2Proof/Machine/Kinds.lean ====
section
/-! DEFINITION. The kinds of frames the part takes: their codes, the ports they are taken on, the lengths of their payloads (9.2), and which site requests wait for COMMISSION (10.2). -/

namespace Sys2Proof.Machine

/-- The kinds of the kinds table that some party outside the part sends (9.2). -/
inductive Kind where
  | hello
  | goodbye
  | claim
  | release
  | openDest
  | closeDest
  | setSlots
  | clearFull
  | queryDest
  | forceRelease
  | writeRoute
  | readRoute
  | setList
  | registerPattern
  | dropPattern
  | clearPatterns
  | setBelt
  | setGate
  | setDest
  | commission
  | start
  | stop
  | resume
  | restart
  | testFire
  | readTest
  | takeGateOut
  | returnGate
  | readFault
  | readMap
  | snapshot
  | snapshotClear
  | readSnapshot
  | readConditions
  | setEnables
  | itemReport
deriving DecidableEq, Repr

/-- The kind codes (9.2, Kinds). -/
def Kind.code : Kind → Byte
  | .hello => 0x01#8
  | .goodbye => 0x02#8
  | .claim => 0x10#8
  | .release => 0x11#8
  | .openDest => 0x12#8
  | .closeDest => 0x13#8
  | .setSlots => 0x14#8
  | .clearFull => 0x15#8
  | .queryDest => 0x16#8
  | .forceRelease => 0x17#8
  | .writeRoute => 0x20#8
  | .readRoute => 0x21#8
  | .setList => 0x22#8
  | .registerPattern => 0x28#8
  | .dropPattern => 0x29#8
  | .clearPatterns => 0x2A#8
  | .setBelt => 0x40#8
  | .setGate => 0x41#8
  | .setDest => 0x42#8
  | .commission => 0x43#8
  | .start => 0x48#8
  | .stop => 0x49#8
  | .resume => 0x4A#8
  | .restart => 0x4B#8
  | .testFire => 0x50#8
  | .readTest => 0x51#8
  | .takeGateOut => 0x52#8
  | .returnGate => 0x53#8
  | .readFault => 0x54#8
  | .readMap => 0x58#8
  | .snapshot => 0x60#8
  | .snapshotClear => 0x61#8
  | .readSnapshot => 0x62#8
  | .readConditions => 0x63#8
  | .setEnables => 0x64#8
  | .itemReport => 0xA0#8

/-- Every kind, in the order of the kinds table. -/
def Kind.all : List Kind :=
  [.hello, .goodbye, .claim, .release, .openDest, .closeDest, .setSlots, .clearFull, .queryDest,
   .forceRelease, .writeRoute, .readRoute, .setList, .registerPattern, .dropPattern, .clearPatterns,
   .setBelt, .setGate, .setDest, .commission, .start, .stop, .resume, .restart, .testFire, .readTest,
   .takeGateOut, .returnGate, .readFault, .readMap, .snapshot, .snapshotClear, .readSnapshot,
   .readConditions, .setEnables, .itemReport]

/-- The kind a code names, if some party sends it. -/
def Kind.ofCode (b : Byte) : Option Kind := Kind.all.find? (fun k => k.code == b)

/-- The codes the part itself puts in its frames (9.2, Kinds). -/
def replyCode : Byte := 0x80#8

/-- DEST-STATE. -/
def destStateCode : Byte := 0x90#8

/-- ARRIVAL. -/
def arrivalCode : Byte := 0x91#8

/-- PATTERN-EVICTED. -/
def patternEvictedCode : Byte := 0x92#8

/-- Kinds that stations and the site both send (9.2, Kinds). -/
def Kind.fromStations : Kind → Bool
  | .hello | .goodbye | .claim | .release | .openDest | .closeDest | .setSlots | .clearFull
  | .queryDest | .writeRoute | .readRoute | .registerPattern | .dropPattern => true
  | .forceRelease | .setList | .clearPatterns | .setBelt | .setGate | .setDest | .commission
  | .start | .stop | .resume | .restart | .testFire | .readTest | .takeGateOut | .returnGate
  | .readFault | .readMap | .snapshot | .snapshotClear | .readSnapshot | .readConditions
  | .setEnables | .itemReport => false

/-- Whether a kind is taken on a sender's port (9.2, Kinds, last column; R162). REGISTER-PATTERN and DROP-PATTERN are taken on the site port, to be answered NOT_OWNER. -/
def Kind.takenFrom (k : Kind) : Sender → Bool
  | .station _ => k.fromStations
  | .site => k != .itemReport

/-- The number a payload byte holds; bytes past the end read 0 and are not read after the length check. -/
def byteAt (pl : List Byte) (i : Nat) : Nat := (pl.getD i 0).toNat

/-- A two-byte number, most significant byte first (R157). -/
def wordAt (pl : List Byte) (i : Nat) : Nat := 256 * byteAt pl i + byteAt pl (i + 1)

/-- The yes / no encoding: 00h no, any other value yes. -/
def yesAt (pl : List Byte) (i : Nat) : Bool := byteAt pl i != 0

/-- Whether a payload has the length its layout gives for the kind and port; for a route write, whether the count k equals the bytes that follow it (R173). HELLO and GOODBYE meet no length check. -/
def Kind.payloadFits (k : Kind) (q : Sender) (pl : List Byte) : Bool :=
  match k with
  | .hello | .goodbye => true
  | .claim | .release | .closeDest | .clearFull | .queryDest | .forceRelease => pl.length == 1
  | .openDest | .setSlots => pl.length == 2
  | .writeRoute =>
    match q with
    | .station _ => decide (2 ≤ pl.length) && byteAt pl 1 + 2 == pl.length
    | .site => decide (3 ≤ pl.length) && byteAt pl 2 + 3 == pl.length
  | .readRoute =>
    match q with
    | .station _ => pl.length == 1
    | .site => pl.length == 3
  | .setList => decide (2 ≤ pl.length) && byteAt pl 1 + 2 == pl.length
  | .registerPattern => pl.length == 3
  | .dropPattern => pl.length == 2
  | .clearPatterns => pl.length == 1
  | .setBelt => pl.length == 9
  | .setGate => pl.length == 11
  | .setDest => pl.length == 7
  | .testFire => pl.length == 2
  | .takeGateOut | .returnGate | .readFault | .readMap | .readSnapshot => pl.length == 1
  | .setEnables => pl.length == 3
  | .commission | .start | .stop | .resume | .restart | .readTest | .snapshot | .snapshotClear
  | .readConditions => pl.length == 0
  | .itemReport => pl.length == 6

/-- Site requests answered NOT_READY while the belt is UNCONFIGURED (table of 10.2, R179). -/
def Kind.waitsForCommission : Kind → Bool
  | .claim | .release | .openDest | .closeDest | .setSlots | .clearFull | .forceRelease
  | .clearPatterns | .start | .stop | .resume | .restart | .testFire | .takeGateOut | .returnGate
  | .readMap => true
  | .hello | .goodbye | .queryDest | .writeRoute | .readRoute | .setList | .registerPattern
  | .dropPattern | .setBelt | .setGate | .setDest | .commission | .readTest | .readFault
  | .snapshot | .snapshotClear | .readSnapshot | .readConditions | .setEnables | .itemReport => false

end Sys2Proof.Machine
end

