-- ==== Sys2Proof/Machine/Access.lean ====
section
/-! DEFINITION. The named reads and updates of single records of the state, the numbering of gates, sides, destinations and ports, positions (R2), and the live counters (R188). Every later meaning goes through these. -/

namespace Sys2Proof.Machine

/-! ### Numbering (spec 00, Names of physical units) -/

/-- Every station, gate, destination and sender, in number order. -/
def allStations : List Station := [0, 1, 2, 3, 4, 5]

/-- G0 to G11. -/
def allGates : List GateId := [0, 1, 2, 3, 4, 5, 6, 7, 8, 9, 10, 11]

/-- D0 to D23. -/
def allDests : List DestId :=
  [0, 1, 2, 3, 4, 5, 6, 7, 8, 9, 10, 11, 12, 13, 14, 15, 16, 17, 18, 19, 20, 21, 22, 23]

/-- Ports 0 to 6. -/
def allSenders : List Sender := allStations.map .station ++ [.site]

/-- Ports 0 to 7. -/
def allPorts : List Port := allSenders.map .sender ++ [.identifier]

/-- The gate of a destination. -/
def destGate (d : DestId) : GateId := ⟨d.val / 2, by omega⟩

/-- The side of a destination: D(2g) left, D(2g+1) right. -/
def destSide (d : DestId) : Side := if d.val % 2 = 0 then .left else .right

/-- The destination on a side of a gate. -/
def gateDest (g : GateId) : Side → DestId
  | .left => ⟨2 * g.val, by omega⟩
  | .right => ⟨2 * g.val + 1, by omega⟩

/-- A side as 0 or 1. -/
def Side.number : Side → Nat
  | .left => 0
  | .right => 1

/-- The port number of a sender, 0..6. -/
def Sender.index : Sender → Fin 7
  | .station s => ⟨s.val, by omega⟩
  | .site => 6

/-- The port number, 0..7. -/
def Port.index : Port → Fin 8
  | .sender q => ⟨(Sender.index q).val, by omega⟩
  | .identifier => 7

/-- A number that names one of n things, if it is in range. -/
def inRange? (n : Nat) (i : Nat) : Option (Fin n) := if h : i < n then some ⟨i, h⟩ else none

/-! ### Positions -/

/-- P has reached X: (P − X) mod 2^24 is less than 2^23 (spec 00, R2). -/
def reached (p x : Pos) : Bool := decide ((p - x).toNat < 8388608)

/-- A distance as a position difference. -/
def dist (n : Nat) : Pos := BitVec.ofNat 24 n

/-! ### Reads and updates of one record -/

/-- The record of destination d. -/
def State.dest (s : State) (d : DestId) : Dest := s.dests[d]

/-- The record of gate g. -/
def State.gate (s : State) (g : GateId) : Gate := s.gates[g]

/-- The link of a sender's port. -/
def State.link (s : State) (q : Sender) : Link := s.links[Sender.index q]

/-- The receiver of a port. -/
def State.receiver (s : State) (p : Port) : Receiver := s.receivers[Port.index p]

/-- The notice queue of a station's port. -/
def State.noticeQueue (s : State) (st : Station) : NoticeQueue := s.notices[st]

/-- Change the record of destination d. -/
def State.modDest (s : State) (d : DestId) (f : Dest → Dest) : State :=
  { s with dests := s.dests.set d (f (s.dest d)) }

/-- Change the record of gate g. -/
def State.modGate (s : State) (g : GateId) (f : Gate → Gate) : State :=
  { s with gates := s.gates.set g (f (s.gate g)) }

/-- Change the link of a sender's port. -/
def State.modLink (s : State) (q : Sender) (f : Link → Link) : State :=
  { s with links := s.links.set (Sender.index q) (f (s.link q)) }

/-- Change the receiver of a port. -/
def State.modReceiver (s : State) (p : Port) (f : Receiver → Receiver) : State :=
  { s with receivers := s.receivers.set (Port.index p) (f (s.receiver p)) }

/-- Change the notice queue of a station's port. -/
def State.modNotices (s : State) (st : Station) (f : NoticeQueue → NoticeQueue) : State :=
  { s with notices := s.notices.set st (f (s.noticeQueue st)) }

/-- Change the belt unit. -/
def State.modBelt (s : State) (f : Belt → Belt) : State := { s with belt := f s.belt }

/-- Change the input pins. -/
def State.modPins (s : State) (f : Pins → Pins) : State := { s with pins := f s.pins }

/-- Change the read-point unit. -/
def State.modReader (s : State) (f : ReadPoint → ReadPoint) : State := { s with reader := f s.reader }

/-- Replace the transit map's list of entries. -/
def State.withMap (s : State) (m : List Entry) : State := { s with map := m }

/-- Change the test result record. -/
def State.modTest (s : State) (f : TestRecord → TestRecord) : State := { s with test := f s.test }

/-- Change the counter bank. -/
def State.modBank (s : State) (f : Bank → Bank) : State := { s with bank := f s.bank }

/-- Apply a change for each member of a list, in the list's order. -/
def forEach {α : Type} (l : List α) (f : α → State → State) (s : State) : State :=
  l.foldl (fun acc x => f x acc) s

/-- Change every record of a table alike. -/
def mapTable {α : Type} {n : Nat} (f : α → α) (v : Vector α n) : Vector α n :=
  ⟨(v.toList.map f).toArray, by simp⟩

/-- The extended switch of a side of a gate, true for extended. -/
def State.switchExtended (s : State) (g : GateId) : Side → Bool
  | .left => s.pins.extLeft[g]
  | .right => s.pins.extRight[g]

/-- The confirm eye of a destination, true for blocked. -/
def State.confirmEye (s : State) (d : DestId) : Bool := s.pins.confirmEyes[d]

/-- The rack sensor of a destination, true for asserted. -/
def State.rackSensor (s : State) (d : DestId) : Bool := s.pins.racks[d]

/-! ### Live counters (11.1) -/

/-- The ten global counters, in the order of snapshot group 0. -/
inductive GlobalCounter where
  | captures
  | reportsMatched
  | reportUnmatched
  | idLost
  | idExpired
  | mapOverrun
  | reroutes
  | tailArrivals
  | suspectDiscards
  | encoderLosses
deriving DecidableEq, Repr

/-- The four counters of a gate. -/
inductive GateCounter where
  | fires
  | lateFires
  | missedFires
  | spacingConflicts
deriving DecidableEq, Repr

/-- The four counters of a destination. -/
inductive DestCounter where
  | assigned
  | arrived
  | misses
  | strays
deriving DecidableEq, Repr

/-- The three counters of a port. -/
inductive PortCounter where
  | framesGood
  | framesBad
  | noticesDropped
deriving DecidableEq, Repr

/-- One of the 178 counters (11.1). -/
inductive Counter where
  | ofPart (c : GlobalCounter)
  | ofGate (g : GateId) (c : GateCounter)
  | ofDest (d : DestId) (c : DestCounter)
  | ofPort (p : Port) (c : PortCounter)
deriving DecidableEq, Repr

/-- Place of a global counter in its group (9.2, groups of READ-SNAPSHOT). -/
def GlobalCounter.place : GlobalCounter → Fin 10
  | .captures => 0
  | .reportsMatched => 1
  | .reportUnmatched => 2
  | .idLost => 3
  | .idExpired => 4
  | .mapOverrun => 5
  | .reroutes => 6
  | .tailArrivals => 7
  | .suspectDiscards => 8
  | .encoderLosses => 9

/-- Place of a gate counter in its group. -/
def GateCounter.place : GateCounter → Fin 4
  | .fires => 0
  | .lateFires => 1
  | .missedFires => 2
  | .spacingConflicts => 3

/-- Place of a destination counter in its group. -/
def DestCounter.place : DestCounter → Fin 4
  | .assigned => 0
  | .arrived => 1
  | .misses => 2
  | .strays => 3

/-- Place of a port counter in its group. -/
def PortCounter.place : PortCounter → Fin 3
  | .framesGood => 0
  | .framesBad => 1
  | .noticesDropped => 2

/-- The place of a counter among the 178: the groups of READ-SNAPSHOT one after another. -/
def Counter.index : Counter → Fin 178
  | .ofPart c => ⟨c.place.val, by omega⟩
  | .ofGate g c => ⟨10 + 4 * g.val + c.place.val, by omega⟩
  | .ofDest d c => ⟨58 + 4 * d.val + c.place.val, by omega⟩
  | .ofPort p c => ⟨154 + 3 * (Port.index p).val + c.place.val, by omega⟩

/-- A live counter's value. -/
def State.counter (s : State) (c : Counter) : Nat := s.bank.live[c.index]

/-- Raise a counter by one, up to 65,535 (R188). -/
def State.raise (s : State) (c : Counter) : State :=
  s.modBank fun b => { b with live := b.live.set c.index (min (b.live[c.index] + 1) 65535) }

/-- Raise a global counter. -/
def State.raisePart (s : State) (c : GlobalCounter) : State := s.raise (.ofPart c)

/-- Raise a gate's counter. -/
def State.raiseGate (s : State) (g : GateId) (c : GateCounter) : State := s.raise (.ofGate g c)

/-- Raise a destination's counter. -/
def State.raiseDest (s : State) (d : DestId) (c : DestCounter) : State := s.raise (.ofDest d c)

/-- Raise a port's counter. -/
def State.raisePort (s : State) (p : Port) (c : PortCounter) : State := s.raise (.ofPort p c)

end Sys2Proof.Machine
end

