-- ==== Sys2Proof/Machine/Flags.lean ====
section
/-! DEFINITION. The condition levels, their change latches and ATTN (R191, R192; table of 11.2). -/

namespace Sys2Proof.Machine

/-- A set of bits as a number, bit 0 first. -/
def packBits : List Bool → Nat
  | [] => 0
  | b :: bs => b.toNat + 2 * packBits bs

/-- HALTED: the belt state is HALTED (R6). -/
def levelHalted (s : State) : Bool := s.belt.state == .halted

/-- MAP_NEAR_FULL: set as the entry count rises to 56, cleared as it falls to 55 (R53). -/
def levelMapNearFull (s : State) : Bool := decide (56 ≤ s.map.length)

/-- GATE_FAULT: any gate is OUT_OF_SERVICE (R129). -/
def levelGateFault (s : State) : Bool := allGates.any fun g => (s.gate g).service == .outOfService

/-- DEST_BLOCKED: any destination carries BLOCKED (R107). -/
def levelDestBlocked (s : State) : Bool := allDests.any fun d => (s.dest d).holds.blocked

/-- DEST_SILENT: any destination carries SILENT (R107). -/
def levelDestSilent (s : State) : Bool := allDests.any fun d => (s.dest d).holds.silent

/-- LINK_LAPSED: any station link or the site link is LAPSED (R169). -/
def levelLinkLapsed (s : State) : Bool := allSenders.any fun q => (s.link q).state == .lapsed

/-- COUNTER_SATURATED: any live counter stands at 65,535 (R188). -/
def levelCounterSaturated (s : State) : Bool := s.bank.live.toList.any fun n => n == 65535

/-- The thirteen levels as the owning blocks hold them, bit by bit as in 11.2. TEST_DONE has no level. -/
def condLevels (s : State) : BitVec 13 :=
  BitVec.ofNat 13 (packBits
    [s.belt.causes.encoderLoss, levelHalted s, s.belt.tailFull, s.belt.overspeed,
     levelMapNearFull s, s.matcher.silent, s.reader.eyeBlocked, levelGateFault s,
     levelDestBlocked s, levelDestSilent s, levelLinkLapsed s, levelCounterSaturated s, false])

/-- The TEST_DONE bit. -/
def testDoneBit : BitVec 13 := 0x1000#13

/-- ATTN is asserted while the global enable is on and some condition has both its latch and its enable (R192). -/
def attnOf (b : Bank) : Bool := b.globalEnable && (b.latches &&& b.enables) != 0

/-- The counter bank follows the levels: each level that changed sets its latch (R191), and ATTN is re-evaluated (R192). -/
def syncConditions (s : State) : State :=
  let now := condLevels s
  s.modBank fun b =>
    let b' := { b with levels := now, latches := b.latches ||| (b.levels ^^^ now) }
    { b' with attn := attnOf b' }

/-- A token leaves the map with a result: the TEST_DONE latch is set (R135, R191). -/
def latchTestDone (s : State) : State := s.modBank fun b => { b with latches := b.latches ||| testDoneBit }

end Sys2Proof.Machine
end

