-- ==== Sys2Proof/Machine/Operands.lean ====
section
/-! DEFINITION. The encodings of payload fields, the layouts of results and notices, and the frame envelope with its CRC-8 (9.1, 9.2: R157, R160, R161). -/

namespace Sys2Proof.Machine

/-! ### Numbers and fields -/

/-- One byte of a payload. -/
def byteOf (n : Nat) : Byte := BitVec.ofNat 8 n

/-- A two-byte number, most significant byte first (R157). -/
def wordBytes (n : Nat) : List Byte := [byteOf (n / 256), byteOf n]

/-- A position in three bytes (R161). -/
def posBytes (p : Pos) : List Byte :=
  [byteOf (p.toNat / 65536), byteOf (p.toNat / 256), byteOf p.toNat]

/-- The byte the part sends for yes: not 00h, and otherwise the part's own (log 13). -/
def yesByte : Byte := if Config.yesCode = 0 then 1 else Config.yesCode

/-- The yes / no encoding. -/
def boolByte (b : Bool) : Byte := if b then yesByte else 0

/-- The code of a field that is absent. -/
def absentByte : Byte := 0xFF#8

/-- An optional field of one byte, FFh when absent. -/
def optByte {α : Type} (f : α → Nat) : Option α → Byte
  | some a => byteOf (f a)
  | none => absentByte

/-- Bytes of an absent field for which no code is given: free values (log 12). -/
def freeBytes (s : State) (n : Nat) : List Byte :=
  (List.range n).map fun i => Config.freeByte (s.draws + i)

/-- The state after n free values have been used. -/
def State.drew (s : State) (n : Nat) : State := { s with draws := s.draws + n }

/-- destination: 0..23, 24 for T. -/
def Target.number : Target → Nat
  | .gateDest d => d.val
  | .tail => 24

/-- item owner: 0..5, 6 for NONE. -/
def ItemOwner.number : ItemOwner → Nat
  | .outlet s => s.val
  | .nobody => 6

/-- destination owner: 0..5, 6 SITE, 7 UNCLAIMED. -/
def ownerNumber : Option Sender → Nat
  | some q => (Sender.index q).val
  | none => 7

/-- destination state. -/
def DestState.number : DestState → Nat
  | .unclaimed => 0
  | .closed => 1
  | .opened => 2
  | .draining => 3
  | .releasing => 4

/-- hold set: bit 0 FULL, 1 BLOCKED, 2 SILENT, 3 GATE_OUT, 4 ORPHANED. -/
def Holds.number (h : Holds) : Nat := packBits [h.full, h.blocked, h.silent, h.gateOut, h.orphaned]

/-- entry state. -/
def EntryState.number : EntryState → Nat
  | .pending => 0
  | .routed => 1
  | .armed => 2
  | .toTail => 3
  | .suspect => 4

/-- belt state. -/
def BeltState.number : BeltState → Nat
  | .unconfigured => 0
  | .stopped => 1
  | .running => 2
  | .idleStopped => 3
  | .halted => 4

/-- halt cause set: bit 0 STOP_CHAIN, 1 ENCODER_LOSS, 2 TAIL_FULL. -/
def Causes.number (c : Causes) : Nat := packBits [c.stopChain, c.encoderLoss, c.tailFull]

/-- link state. -/
def LinkState.number : LinkState → Nat
  | .down => 0
  | .align => 1
  | .active => 2
  | .quiet => 3
  | .lapsed => 4

/-- Status codes (9.2, Reply). -/
def Status.code : Status → Byte
  | .done => 0x00#8
  | .doneClamped => 0x01#8
  | .doneTruncated => 0x02#8
  | .lockLimit => 0x03#8
  | .notReady => 0x10#8
  | .notActive => 0x11#8
  | .notOwner => 0x12#8
  | .notEligible => 0x13#8
  | .state => 0x14#8
  | .busy => 0x15#8
  | .conflict => 0x16#8
  | .argument => 0x17#8
  | .unknownKind => 0x18#8
  | .badConfig => 0x19#8

/-- rack mode: 0 LEVEL, 1 EDGE. -/
def RackMode.number : RackMode → Nat
  | .level => 0
  | .edge => 1

/-- service state: 0 IN_SERVICE, 1 OUT_OF_SERVICE. -/
def Service.number : Service → Nat
  | .inService => 0
  | .outOfService => 1

/-- test result. -/
def TestResult.number : TestResult → Nat
  | .nothing => 0
  | .pending => 1
  | .pass => 2
  | .actuatorFault => 3
  | .conflict => 4
  | .aborted => 5

/-- fault cause. -/
def FaultCause.number : FaultCause → Nat
  | .noneSinceReset => 0
  | .actuatorNoExtend => 1
  | .extendUncommanded => 2
  | .takenOut => 3

/-! ### Results -/

/-- The destination record of a reply: owner; state; hold set; F_d; R_d; margin_d (R99, R114). -/
def recordBytes (r : Dest) : List Byte :=
  [byteOf (ownerNumber r.owner), byteOf r.state.number, byteOf r.holds.number, byteOf r.free,
   byteOf r.reserved, byteOf r.margin]

/-- The result of QUERY-DEST: the record, the class set and the claim eligibility (R115). -/
def queryBytes (r : Dest) : List Byte :=
  recordBytes r ++ wordBytes r.classes.toNat ++ [byteOf r.eligible.toNat]

/-- The result of SET-DEST: record; configured; class set; claim eligibility; rack mode. -/
def setDestBytes (r : Dest) : List Byte :=
  recordBytes r ++ [boolByte r.configured] ++ wordBytes r.classes.toNat
    ++ [byteOf r.eligible.toNat, byteOf r.mode.number]

/-- The result of SET-GATE: the fields as stored, service state and motion. -/
def setGateBytes (g : GateId) (r : Gate) : List Byte :=
  [byteOf g.val, boolByte r.configured] ++ wordBytes r.d ++ wordBytes r.a ++ [byteOf r.l]
    ++ wordBytes r.t ++ wordBytes r.c ++ [byteOf r.service.number, byteOf r.cycle.isSome.toNat]

/-- The result of SET-BELT: the five values as stored. -/
def setBeltBytes (t : Settings) : List Byte :=
  wordBytes t.dT ++ wordBytes t.w ++ wordBytes t.idleTime ++ [byteOf t.threshold] ++ wordBytes t.b

/-- The result of START, STOP, RESUME and RESTART: belt state; halt cause set. -/
def beltBytes (b : Belt) : List Byte := [byteOf b.state.number, byteOf b.causes.number]

/-- A list of destinations: count; members. -/
def listBytes (l : List Byte) : List Byte := byteOf l.length :: l

/-- Destinations as payload bytes. -/
def destBytes (l : List DestId) : List Byte := l.map fun d => byteOf d.val

/-- The result of READ-TEST (R135); the bytes of an absent F are free (log 12). -/
def testBytes (s : State) : List Byte :=
  [optByte (fun g => g.val) s.test.gate, optByte Side.number s.test.side,
   byteOf s.test.result.number, boolByte s.test.late, boolByte s.test.fireAt.isSome]
    ++ (match s.test.fireAt with
        | some f => posBytes f
        | none => freeBytes s 3)

/-- The result of READ-FAULT (R153); the bytes of an absent P are free (log 12). -/
def faultBytes (s : State) (f : FaultRecord) : List Byte :=
  [byteOf f.cause.number, optByte Side.number f.side, byteOf f.count]
    ++ (match f.p with
        | some p => posBytes p
        | none => freeBytes s 3)

/-- entry flags: bit 0 TEST, 1 LATE, 2 CLAMPED_LENGTH, 3 LENGTH_OPEN, 4 fire position present. -/
def entryFlags (e : Entry) : Nat :=
  packBits [e.tag.isNone, e.late, e.clampedLength, e.length.isNone, e.fireAt.isSome]

/-- The fields of an entry in READ-MAP (9.2); an absent length or F is free bytes (log 12), the length's two drawn first. -/
def entryBytes (s : State) (e : Entry) : List Byte :=
  (match e.tag with
   | some t => wordBytes t.toNat
   | none => [absentByte, absentByte])
    ++ [optByte (fun t : Tag => t.toNat % 16) e.tag]
    ++ posBytes e.r
    ++ (match e.length with
        | some n => wordBytes n
        | none => freeBytes s 2)
    ++ [optByte Fin.val e.cls, optByte ItemOwner.number e.owner]
    ++ wordBytes ((e.pattern.map BitVec.toNat).getD 0)
    ++ [boolByte e.broken, optByte id e.confidence, optByte Target.number e.dest, byteOf e.attempts]
    ++ (match e.fireAt with
        | some f => posBytes f
        | none => freeBytes (s.drew 2) 3)
    ++ [byteOf (entryFlags e), byteOf e.state.number]

/-- How many entries a station holds. -/
def patternCount (st : Station) (l : List PatternEntry) : Nat := (l.filter fun e => e.owner == st).length

/-- How many locked entries a station holds (R38). -/
def lockedCount (st : Station) (l : List PatternEntry) : Nat :=
  (l.filter fun e => e.owner == st && e.locked).length

/-- The two counts of a reply to REGISTER-PATTERN or DROP-PATTERN (R38, 9.2). -/
def patternCounts (st : Station) (s : State) : List Byte :=
  [byteOf (patternCount st s.patterns), byteOf (lockedCount st s.patterns)]

/-! ### Lists of a request (R75) -/

/-- Repeats of an earlier member are dropped, the first keeps its place (R75). -/
def dropRepeats : List Byte → List Byte
  | [] => []
  | b :: bs => b :: (dropRepeats bs).filter fun x => x != b

/-- The kept list of a request's list (R75). -/
def keptList (l : List Byte) : List Byte := (dropRepeats l).take 4

/-- The members in a WRITE-ROUTE: behind class and count from a station, behind class, item owner and count from the site. -/
def routeMembers (q : Sender) (pl : List Byte) : List Byte :=
  match q with
  | .station _ => pl.drop 2
  | .site => pl.drop 3

/-- The members in a SET-LIST: behind selector and count. -/
def listMembers (pl : List Byte) : List Byte := pl.drop 2

/-! ### Notices -/

/-- DEST-STATE payload for a destination whose record is r. -/
def destStateBytes (d : DestId) (r : Dest) : List Byte := byteOf d.val :: recordBytes r

/-- ARRIVAL and PATTERN-EVICTED frames less their tag: kind and payload. -/
def noticeFrame : Notice → Byte × List Byte
  | .arrival d t c o confirmed =>
    (arrivalCode, [byteOf d.val] ++ wordBytes t.toNat ++ [byteOf c.val, byteOf o.number,
      if confirmed then 0 else 1])
  | .evicted code n => (patternEvictedCode, wordBytes code.toNat ++ [byteOf n])

/-! ### The envelope (R157, R160) -/

/-- One step of the check on a value below 256: shifted left by one bit within 8 bits, with 07h exclusive-ored if the bit shifted out was 1 (R160). 107h takes that bit away and brings 07h in. -/
def crcShift (c : Nat) : Nat := (2 * c) ^^^ (0x107 * (c / 128))

/-- The running check value after one more byte (R160). -/
def crcByte (c : Nat) (b : Byte) : Nat :=
  crcShift (crcShift (crcShift (crcShift (crcShift (crcShift (crcShift (crcShift (c ^^^ b.toNat))))))))

/-- The CRC-8 of the bytes covered (R160). -/
def crc8 (l : List Byte) : Byte := byteOf (l.foldl crcByte 0)

/-- The sync byte. -/
def syncByte : Byte := 0xC3#8

/-- The bytes the check covers: length, kind, frame tag and payload. -/
def Frame.covered (f : Frame) : List Byte :=
  byteOf (f.payload.length + 2) :: f.kind :: f.tag :: f.payload

/-- A frame as bytes on the line (R157). -/
def Frame.lineBytes (f : Frame) : List Byte := syncByte :: f.covered ++ [crc8 f.covered]

/-- The whole ms a frame takes on the line at 115,200 bit/s with ten bits a byte, rounded up (9.1, log 10). -/
def Frame.lineMs (f : Frame) : Nat := (100 * (f.payload.length + 5) + 1151) / 1152

/-- A reply as a frame (9.2, Reply). -/
def Reply.frame (r : Reply) : Frame := ⟨replyCode, r.tag, r.kind :: r.status.code :: r.result⟩

end Sys2Proof.Machine
end

