-- ==== Sys2Proof/Machine/Ops.lean ====
section
/-! DEFINITION. The shared operations of the blocks: notices (R174 to R176), changes of a destination record, transit-map entries (R51, R52), the test token's end (R135), belt state changes (R6, R11), and how an event ends. -/

namespace Sys2Proof.Machine

/-- The outcome of a command. -/
abbrev Result := Host.Outcome State Fault Refusal

/-! ### Notices (9.6) -/

/-- The station's link is ACTIVE or QUIET, so that offers are taken (R174). -/
def hears (s : State) (st : Station) : Bool :=
  (s.link (.station st)).state == .active || (s.link (.station st)).state == .quiet

/-- A pending mark for d joins the newest end, unless one is there (R174). -/
def addMark (d : DestId) (l : List DestItem) : List DestItem :=
  if l.contains (.mark d) then l else l ++ [.mark d]

/-- Whether an item is a final notice for d. -/
def DestItem.isLast (d : DestId) : DestItem → Bool
  | .mark _ => false
  | .lastNotice d' _ => d' == d

/-- A final notice for d: an earlier one goes, a pending mark becomes it in its place, otherwise it joins the newest end (R175). -/
def addLastNotice (d : DestId) (payload : List Byte) (l : List DestItem) : List DestItem :=
  let l' := l.filter fun i => !i.isLast d
  if l'.contains (.mark d) then l'.map fun i => if i = .mark d then .lastNotice d payload else i
  else l' ++ [.lastNotice d payload]

/-- Offer a DEST-STATE notice for d to its owner: SITE and UNCLAIMED receive none (R114, R174). -/
def offerDest (d : DestId) (s : State) : State :=
  match (s.dest d).owner with
  | some (.station st) =>
    if hears s st then s.modNotices st fun n => { n with dests := addMark d n.dests } else s
  | some .site => s
  | none => s

/-- Offer the last DEST-STATE for d, with the record as the release left it, to the former owner (R175). -/
def offerLastDest (d : DestId) (former : Option Sender) (s : State) : State :=
  match former with
  | some (.station st) =>
    if hears s st then
      s.modNotices st fun n => { n with dests := addLastNotice d (destStateBytes d (s.dest d)) n.dests }
    else s
  | some .site => s
  | none => s

/-- Offer an ARRIVAL or PATTERN-EVICTED notice to a station: at 16 held places it is discarded and counted (R174). -/
def offerNotice (st : Station) (n : Notice) (s : State) : State :=
  if hears s st then
    if (s.noticeQueue st).places.length < 16 then
      s.modNotices st fun q => { q with places := q.places ++ [n] }
    else s.raisePort (.sender (.station st)) .noticesDropped
  else s

/-! ### Destination records -/

/-- The two records agree in all that a DEST-STATE notice is offered for: state, owner, holds and F_d (R114). -/
def sameVisible (a b : Dest) : Bool :=
  a.state == b.state && a.owner == b.owner && a.holds == b.holds && a.free == b.free

/-- Change a destination record, and offer DEST-STATE to its owner where R114 asks for it. -/
def changeDest (d : DestId) (f : Dest → Dest) (s : State) : State :=
  let s' := s.modDest d f
  if sameVisible (s.dest d) (s'.dest d) then s' else offerDest d s'

/-- R_d falls by one; a DRAINING destination whose R_d is then 0 enters CLOSED (R79, R102). -/
def unreserve (d : DestId) (s : State) : State :=
  let s' := s.modDest d fun r => { r with reserved := r.reserved - 1 }
  if (s'.dest d).state = .draining ∧ (s'.dest d).reserved = 0 then
    changeDest d (fun r => { r with state := .closed }) s'
  else s'

/-- The record of a destination that is released: SILENT, ORPHANED and a latched FULL are cleared, and in EDGE mode the re-arm state follows the input (R105, R106; log 18). Where SILENT is cleared the consecutive-miss count is 0 (R145). -/
def releasedRecord (rackAsserted : Bool) (r : Dest) : Dest :=
  { r with
    owner := none
    state := .unclaimed
    free := 0
    holds := { r.holds with
      silent := false
      orphaned := false
      full := if r.mode = .edge then false else r.holds.full }
    rearm := if r.mode = .edge then (if rackAsserted then .waitingForClear else .armed) else r.rearm
    misses := if r.holds.silent then 0 else r.misses }

/-- A destination leaves its owner: the record of a release, and the last notice to the former owner (R105, R106, R175). -/
def completeRelease (d : DestId) (s : State) : State :=
  offerLastDest d (s.dest d).owner (s.modDest d (releasedRecord (s.rackSensor d)))

/-- Clearing of SILENT with the consecutive-miss count set to 0 (R109, R145), and of a latched FULL in EDGE mode (R108). The re-arm state and the filter stand, so an armed sensor whose assertion is under 50 ms old latches again at its 50 ms (log 41). -/
def clearedRecord (clearLatch : Bool) (r : Dest) : Dest :=
  { r with
    holds := { r.holds with
      silent := false
      full := if clearLatch ∧ r.mode = .edge then false else r.holds.full }
    misses := 0 }

/-! ### Transit-map entries -/

/-- How other blocks name an entry (R52). -/
def Entry.ref (e : Entry) : EntryRef :=
  match e.tag with
  | some t => .tag t
  | none => .token

/-- The TEST flag. -/
def Entry.isTest (e : Entry) : Bool := e.tag.isNone

/-- The sequence number, tag mod 16 (R21). -/
def Entry.seq? (e : Entry) : Option Nat := e.tag.map fun t => t.toNat % 16

/-- The entry named, if it is in the map. -/
def State.find (s : State) (r : EntryRef) : Option Entry := s.map.find? fun e => e.ref == r

/-- Change the entry named, in its place. -/
def updateEntry (r : EntryRef) (f : Entry → Entry) : List Entry → List Entry
  | [] => []
  | e :: es => if e.ref = r then f e :: es else e :: updateEntry r f es

/-- Remove the entry named; the others close up (R51). -/
def eraseEntry (r : EntryRef) : List Entry → List Entry
  | [] => []
  | e :: es => if e.ref = r then es else e :: eraseEntry r es

/-- Change the entry named; nothing if it is not in the map (R52). -/
def State.modEntry (s : State) (r : EntryRef) (f : Entry → Entry) : State :=
  s.withMap (updateEntry r f s.map)

/-- The entry named leaves the map. -/
def State.dropEntry (s : State) (r : EntryRef) : State := s.withMap (eraseEntry r s.map)

/-- The gate an entry is bound for. -/
def Entry.gate? (e : Entry) : Option GateId :=
  match e.dest with
  | some (.gateDest d) => some (destGate d)
  | some .tail => none
  | none => none

/-- An entry leaves the fire queue of a gate, if it is in it. -/
def leaveQueue (g : GateId) (r : EntryRef) (s : State) : State :=
  s.modGate g fun x => { x with queue := x.queue.filter fun q => q != r }

/-- The test token leaves the map with a result: it leaves its fire queue if it is in it, the result is written and the TEST_DONE latch set (R67, R135). -/
def endToken (result : TestResult) (s : State) : State :=
  match s.find .token with
  | none => s
  | some e =>
    let s1 := match e.gate? with
      | some g => leaveQueue g .token s
      | none => s
    latchTestDone ((s1.dropEntry .token).modTest fun t => { t with result := result })

/-! ### Belt state changes -/

/-- Entry to RUNNING: motor on, idle timer 0, zero-window count 0, the run guard starts (R6), and the identifier silence timer is 0 (R35). -/
def enterRunning (s : State) : State :=
  { s with
    belt := { s.belt with
      state := .running
      motor := true
      idleMs := 0
      zeroWindows := 0
      runGuard := some 0 }
    matcher := { s.matcher with silenceMs := 0 } }

/-- Exit from RUNNING or a move between standing states: motor off, run guard elapsed (R6). The window count s stands, so the window in which the belt leaves RUNNING samples the pulses it has counted (log 38). -/
def standStill (b : BeltState) (s : State) : State :=
  s.modBelt fun x => { x with state := b, motor := false, runGuard := none }

/-- Record a halt cause (R11): entry to HALTED sets the idle timer to 0; nothing is recorded in STOPPED and UNCONFIGURED. -/
def recordCause (add : Causes → Causes) (s : State) : State :=
  match s.belt.state with
  | .running | .idleStopped =>
    (standStill .halted s).modBelt fun x => { x with causes := add x.causes, idleMs := 0 }
  | .halted => s.modBelt fun x => { x with causes := add x.causes }
  | .stopped | .unconfigured => s

/-- The belt state waits for its RUNNING-only work: the belt is RUNNING. -/
def State.isRunning (s : State) : Bool := s.belt.state == .running

/-- The site has commissioned the belt: it has left UNCONFIGURED (R173). -/
def State.commissioned (s : State) : Bool := s.belt.state != .unconfigured

/-! ### How an event ends -/

/-- The idle timer returns to 0 while the map holds an entry or either eye is blocked (R9). Every event ends with it, and so does each good frame of an event that takes several (log 42). -/
def settleIdle (s : State) : State :=
  if !s.map.isEmpty || s.pins.readEye || s.pins.infeedEye then s.modBelt fun b => { b with idleMs := 0 }
  else s

/-- Put a frame on a port's line. -/
def sendFrame (f : Frame) (k : Link) : Link := { k with sending := some ⟨f, f.lineMs⟩ }

/-- The frame of a DEST-STATE item, formed as it is taken (R176). -/
def destItemFrame (s : State) (seq : Byte) : DestItem → Frame
  | .mark d => ⟨destStateCode, seq, destStateBytes d (s.dest d)⟩
  | .lastNotice _ payload => ⟨destStateCode, seq, payload⟩

/-- A free station transmitter takes the oldest DEST-STATE item, or else the oldest notice, while the link is ACTIVE or QUIET; each takes the next sequence number (R164, R176). -/
def takeNotice (st : Station) (s : State) : State :=
  if hears s st then
    let q := s.noticeQueue st
    match q.dests, q.places with
    | i :: rest, _ =>
      (s.modLink (.station st) (sendFrame (destItemFrame s q.seq i))).modNotices st
        fun n => { n with dests := rest, seq := n.seq + 1 }
    | [], n :: rest =>
      (s.modLink (.station st) (sendFrame ⟨(noticeFrame n).1, q.seq, (noticeFrame n).2⟩)).modNotices st
        fun m => { m with places := rest, seq := m.seq + 1 }
    | [], [] => s
  else s

/-- A free transmitter takes the oldest reply, or else a notice; a busy one takes nothing (R164). -/
def fillTransmitter (q : Sender) (s : State) : State :=
  match (s.link q).sending with
  | some _ => s
  | none =>
    match (s.link q).replies with
    | r :: rest => s.modLink q fun k => sendFrame r.frame { k with replies := rest }
    | [] =>
      match q with
      | .station st => takeNotice st s
      | .site => s

/-- Every event ends with the conditions followed (R191, R192), the idle timer's conditions applied (R9) and the free transmitters filled (R164; log 11). -/
def settle (s : State) : State :=
  forEach allSenders fillTransmitter (settleIdle (syncConditions s))

/-- An event of the part: nothing happens while reset is in force (R178; log 6). -/
def event (f : State → State) (s : State) : Result :=
  .next (if s.inReset then s else settle (f s))

/-- A change of an input: the level is followed in reset too, and acts only outside it (log 6). -/
def inputEvent (pin act : State → State) (s : State) : Result :=
  .next (if s.inReset then pin s else settle (act (pin s)))

end Sys2Proof.Machine
end

