-- ==== Sys2Proof/Machine/Requests.lean ====
section
/-! DEFINITION. How a good frame is taken: classification, admission and the reply (R162, R163, R165, R168, R173, R179). -/

namespace Sys2Proof.Machine

/-- What an owning block makes of a request: the state after, the status and the result (R162). -/
structure Answer where
  state : State
  status : Status
  result : List Byte

/-- A request refused with no result and no change. -/
def refuse (status : Status) (s : State) : Answer := ⟨s, status, []⟩

/-- A frame ends as bad on a port: FRAMES_BAD rises, and in ALIGN the HELLO count returns to 0 (R159, R167). -/
def badOnPort (p : Port) (s : State) : State :=
  let s1 := s.raisePort p .framesBad
  match p with
  | .identifier => s1
  | .sender q => s1.modLink q fun k => if k.state = .align then { k with hellos := 0 } else k

/-- A good frame on a sender's port: FRAMES_GOOD rises, the silence timer returns to 0, and QUIET returns to ACTIVE before the request is handed on (R162, R165, R168). -/
def goodOnPort (q : Sender) (s : State) : State :=
  syncConditions ((s.raisePort (.sender q) .framesGood).modLink q fun k =>
    { k with silenceMs := 0, state := if k.state = .quiet then .active else k.state })

/-- HELLO and GOODBYE meet no admission check (R173). -/
def Kind.isTraining (k : Kind) : Bool := k == .hello || k == .goodbye

/-- The admission checks in order, the first that fails giving the status (R173; R179 for the site). -/
def admission (k : Kind) (q : Sender) (pl : List Byte) (s : State) : Option Status :=
  if k.isTraining then none
  else if (s.link q).state ≠ .active ∧ (s.link q).state ≠ .quiet then some .notActive
  else
    match q with
    | .station _ =>
      if !s.commissioned then some .notReady
      else if !k.payloadFits q pl then some .argument
      else none
    | .site =>
      if !k.payloadFits q pl then some .argument
      else if k.waitsForCommission && !s.commissioned then some .notReady
      else none

/-- The reply joins the newest end of the port's reply queue in the event in which the request is taken (R163). -/
def queueReply (q : Sender) (tag kind : Byte) (a : Answer) : State :=
  a.state.modLink q fun k => { k with replies := k.replies ++ [⟨tag, kind, a.status, a.result⟩] }

/-- A good frame on a sender's port: dropped as bad where 8 replies wait, otherwise counted good and answered (R162, R163). -/
def takeOnPort (q : Sender) (tag kind : Byte) (serve : State → Answer) (s : State) : State :=
  if 8 ≤ (s.link q).replies.length then badOnPort (.sender q) s
  else queueReply q tag kind (serve (goodOnPort q s))

/-- The result of a reply that an admission check gives. Each reply to REGISTER-PATTERN and DROP-PATTERN carries the two counts of the station that asked (R38). A reply to WRITE-ROUTE and SET-LIST whose payload has its length carries the list as it would have been stored (R75; log 16). The others have none (log 28). -/
def turnedAwayResult (k : Kind) (q : Sender) (pl : List Byte) (s : State) : List Byte :=
  if k = .registerPattern ∨ k = .dropPattern then
    match q with
    | .station st => patternCounts st s
    | .site => []
  else if k.payloadFits q pl then
    if k = .writeRoute then listBytes (keptList (routeMembers q pl))
    else if k = .setList then listBytes (keptList (listMembers pl))
    else []
  else []

/-- A request that an admission check turns away, with no change (R173). -/
def turnAway (k : Kind) (q : Sender) (pl : List Byte) (status : Status) (s : State) : Answer :=
  ⟨s, status, turnedAwayResult k q pl s⟩

/-- A request of a kind of the table: UNKNOWN_KIND where the port does not take the kind, else the admission checks, else its owning block. -/
def serveKind (k : Kind) (handle : Sender → List Byte → State → Answer) (q : Sender) (pl : List Byte)
    (s : State) : Answer :=
  if k.takenFrom q then
    match admission k q pl s with
    | some status => turnAway k q pl status s
    | none => handle q pl s
  else refuse .unknownKind s

/-- The receiver of a port returns to HUNT (R159). -/
def hunt (p : Port) (s : State) : State := s.modReceiver p fun _ => {}

/-- A good frame of a kind of the table, other than an ITEM-REPORT of the identifier: dropped as bad on the identifier port (R162). -/
def takeRequest (k : Kind) (handle : Sender → List Byte → State → Answer) (p : Port) (tag : Byte)
    (pl : List Byte) (s : State) : State :=
  match p with
  | .identifier => badOnPort p s
  | .sender q => takeOnPort q tag k.code (serveKind k handle q pl) s

/-- A good frame whose kind is not in the table of the kinds some party sends (R162). -/
def takeUnknown (p : Port) (kind tag : Byte) (s : State) : State :=
  match p with
  | .identifier => badOnPort p s
  | .sender q => takeOnPort q tag kind (refuse .unknownKind) s

/-- The event of a request frame: its receiver is back in HUNT and the frame is taken (log 8). -/
def frameEvent (k : Kind) (handle : Sender → List Byte → State → Answer) (p : Port) (tag : Byte)
    (pl : List Byte) (s : State) : Result :=
  event (fun s => takeRequest k handle p tag pl (hunt p s)) s

end Sys2Proof.Machine
end

