-- ==== Sys2Proof/Machine/Counters.lean ====
section
/-! DEFINITION. The requests of the counter bank (spec 11). -/

namespace Sys2Proof.Machine

/-- SNAPSHOT (R189). -/
def handleSnapshot (_ : Sender) (_ : List Byte) (s : State) : Answer :=
  ⟨s.modBank fun b => { b with snapshot := b.live }, .done, []⟩

/-- SNAPSHOT-CLEAR (R189). -/
def handleSnapshotClear (_ : Sender) (_ : List Byte) (s : State) : Answer :=
  ⟨s.modBank fun b => { b with snapshot := b.live, live := Vector.replicate 178 0 }, .done, []⟩

/-- The first counter and the number of counters of a snapshot group (R190). -/
def groupSpan (group : Nat) : Option (Nat × Nat) :=
  if group = 0 then some (0, 10)
  else if group ≤ 12 then some (10 + 4 * (group - 1), 4)
  else if group ≤ 36 then some (58 + 4 * (group - 13), 4)
  else if group ≤ 44 then some (154 + 3 * (group - 37), 3)
  else none

/-- READ-SNAPSHOT (R190). -/
def handleReadSnapshot (_ : Sender) (pl : List Byte) (s : State) : Answer :=
  match groupSpan (byteAt pl 0) with
  | none => refuse .argument s
  | some (start, count) =>
    ⟨s, .done, byteOf (byteAt pl 0) ::
      (((s.bank.snapshot.toList.drop start).take count).map wordBytes).flatten⟩

/-- The result of READ-CONDITIONS: levels, latches, global enable (9.2). -/
def conditionBytes (b : Bank) : List Byte :=
  wordBytes b.levels.toNat ++ wordBytes b.latches.toNat ++ [boolByte b.globalEnable]

/-- Every latch is cleared, and ATTN re-evaluated (R192, R193). -/
def clearLatches (b : Bank) : Bank :=
  let b' := { b with latches := 0 }
  { b' with attn := attnOf b' }

/-- READ-CONDITIONS (R193). -/
def handleReadConditions (_ : Sender) (_ : List Byte) (s : State) : Answer :=
  ⟨s.modBank clearLatches, .done, conditionBytes s.bank⟩

/-- The enables of a SET-ENABLES; bits 13 to 15 are ignored (R192). -/
def storeEnables (pl : List Byte) (b : Bank) : Bank :=
  let b' := { b with globalEnable := yesAt pl 0, enables := BitVec.ofNat 13 (wordAt pl 1) }
  { b' with attn := attnOf b' }

/-- The enables as stored (9.2). -/
def enableBytes (b : Bank) : List Byte := boolByte b.globalEnable :: wordBytes b.enables.toNat

/-- SET-ENABLES (R192). -/
def handleSetEnables (_ : Sender) (pl : List Byte) (s : State) : Answer :=
  ⟨s.modBank (storeEnables pl), .done, enableBytes (storeEnables pl s.bank)⟩

/-- SNAPSHOT (R189). -/
def execSnapshot (p : Port) (tag : Byte) (pl : List Byte) (s : State) : Result :=
  frameEvent .snapshot handleSnapshot p tag pl s

/-- SNAPSHOT_CLEAR (R189). -/
def execSnapshotClear (p : Port) (tag : Byte) (pl : List Byte) (s : State) : Result :=
  frameEvent .snapshotClear handleSnapshotClear p tag pl s

/-- READ_SNAPSHOT (R190). -/
def execReadSnapshot (p : Port) (tag : Byte) (pl : List Byte) (s : State) : Result :=
  frameEvent .readSnapshot handleReadSnapshot p tag pl s

/-- READ_CONDITIONS (R193). -/
def execReadConditions (p : Port) (tag : Byte) (pl : List Byte) (s : State) : Result :=
  frameEvent .readConditions handleReadConditions p tag pl s

/-- SET_ENABLES (R192). -/
def execSetEnables (p : Port) (tag : Byte) (pl : List Byte) (s : State) : Result :=
  frameEvent .setEnables handleSetEnables p tag pl s

end Sys2Proof.Machine
end

