-- ==== Sys2Proof/Machine/Links.lean ====
section
/-! DEFINITION. The link state machine (9.4): HELLO, GOODBYE, silence and lapse, and the end of a sent frame (R164). -/

namespace Sys2Proof.Machine

/-- ORPHANED is gained; it moves no entry (R111). -/
def orphaned (r : Dest) : Dest := { r with holds := { r.holds with orphaned := true } }

/-- The destinations of an owner, in number order. -/
def ownedBy (q : Sender) (s : State) : List DestId := allDests.filter fun d => (s.dest d).owner == some q

/-- Every destination of the owner gains ORPHANED (R111). -/
def orphanAll (q : Sender) (s : State) : State := forEach (ownedBy q s) (fun d => changeDest d orphaned) s

/-- ORPHANED is cleared, and OPEN and DRAINING become CLOSED (R112). -/
def unorphaned (r : Dest) : Dest :=
  { r with
    holds := { r.holds with orphaned := false }
    state := match r.state with
      | .opened | .draining | .closed => .closed
      | .releasing => .releasing
      | .unclaimed => .unclaimed }

/-- Every destination of the owner loses ORPHANED and is set by its state (R112, R171). -/
def unorphanAll (q : Sender) (s : State) : State :=
  forEach (ownedBy q s) (fun d => changeDest d unorphaned) s

/-- A station's DEST-STATE list and notice places are emptied, uncounted (R169, R170). -/
def emptyNotices (q : Sender) (s : State) : State :=
  match q with
  | .station st => s.modNotices st fun n => { n with dests := [], places := [] }
  | .site => s

/-- A station's notice sequence is set to 0 (R171). -/
def restartSequence (q : Sender) (s : State) : State :=
  match q with
  | .station st => s.modNotices st fun n => { n with seq := 0 }
  | .site => s

/-- A link leaves ACTIVE or QUIET for LAPSED or DOWN: its notices go, and its owner's destinations are orphaned (R169, R170). -/
def loseLink (after : LinkState) (q : Sender) (s : State) : State :=
  orphanAll q (emptyNotices q (s.modLink q fun k => { k with state := after, hellos := 0 }))

/-- Entry to ACTIVE from ALIGN (R171). -/
def enterActive (q : Sender) (s : State) : State :=
  unorphanAll q (restartSequence q (s.modLink q fun k => { k with state := .active, hellos := 0, silenceMs := 0 }))

/-- The link after a HELLO (R166 to R168). -/
def takeHello (q : Sender) (s : State) : State :=
  match (s.link q).state with
  | .down | .lapsed => s.modLink q fun k => { k with state := .align, hellos := 1 }
  | .align =>
    if 2 ≤ (s.link q).hellos then enterActive q s
    else s.modLink q fun k => { k with hellos := k.hellos + 1 }
  | .active | .quiet => s

/-- The result of a HELLO: port number; part code 0264h; issue 01h; link state after (9.2). -/
def helloBytes (q : Sender) (s : State) : List Byte :=
  [byteOf (Sender.index q).val, 0x02#8, 0x64#8, 0x01#8, byteOf (s.link q).state.number]

/-- HELLO (R166 to R168, R171). -/
def handleHello (q : Sender) (_ : List Byte) (s : State) : Answer :=
  let s1 := takeHello q s
  ⟨s1, .done, helloBytes q s1⟩

/-- The link after a GOODBYE (R170). -/
def takeGoodbye (q : Sender) (s : State) : State :=
  match (s.link q).state with
  | .active | .quiet => loseLink .down q s
  | .align | .lapsed => s.modLink q fun k => { k with state := .down, hellos := 0 }
  | .down => s

/-- GOODBYE (R170). -/
def handleGoodbye (q : Sender) (_ : List Byte) (s : State) : Answer := ⟨takeGoodbye q s, .done, []⟩

/-- HELLO (R167). -/
def execHello (p : Port) (tag : Byte) (pl : List Byte) (s : State) : Result :=
  frameEvent .hello handleHello p tag pl s

/-- GOODBYE (R170). -/
def execGoodbye (p : Port) (tag : Byte) (pl : List Byte) (s : State) : Result :=
  frameEvent .goodbye handleGoodbye p tag pl s

/-- 1000 ms of silence: ACTIVE goes QUIET, ALIGN goes DOWN (R167, R168). -/
def takeSilence (q : Sender) (s : State) : State :=
  match (s.link q).state with
  | .active => s.modLink q fun k => { k with state := .quiet }
  | .align => s.modLink q fun k => { k with state := .down, hellos := 0 }
  | .down | .quiet | .lapsed => s

/-- LINK_SILENCE_1000 (R167, R168). -/
def execLinkSilence1000 (q : Sender) (s : State) : Result :=
  event (fun s => if 1000 ≤ (s.link q).silenceMs then takeSilence q s else s) s

/-- The silence timer of a QUIET link stands at 4000 ms (R168). -/
def lapseDue (s : State) (q : Sender) : Bool :=
  (s.link q).state == .quiet && decide (4000 ≤ (s.link q).silenceMs)

/-- LINK_LAPSE (R169). -/
def execLinkLapse (q : Sender) (s : State) : Result :=
  event (fun s => if lapseDue s q then loseLink .lapsed q s else s) s

/-- FRAME_SENT: the transmitter is free, and takes what waits as the event ends (R164; logs 10 and 11). -/
def execFrameSent (q : Sender) (s : State) : Result :=
  event (fun s => s.modLink q fun k => { k with sending := none }) s

end Sys2Proof.Machine
end

