-- ==== Sys2Proof/Machine/Routing.lean ====
section
/-! DEFINITION. The route unit (spec 05): slot credit, eligibility, the route decision, reroutes and cascades, and the requests on the route table. -/

namespace Sys2Proof.Machine

/-! ### Lists (R72, R86) -/

/-- The place of a cell among the 98: class by class, O0..O5 then NONE. -/
def cellIndex (c : ItemClass) (o : ItemOwner) : Fin 98 :=
  ⟨7 * c.val + o.number, by
    have h : o.number < 7 := by
      cases o with
      | outlet s => simp only [ItemOwner.number]; omega
      | nobody => simp [ItemOwner.number]
    omega⟩

/-- The kept list of a cell. -/
def State.cell (s : State) (c : ItemClass) (o : ItemOwner) : List DestId := s.routes.cells[cellIndex c o]

/-- The list a decision searches first: breakage for a broken item, otherwise the cell of its class and owner (R86). -/
def chosenList (s : State) (e : Entry) : List DestId :=
  if e.broken then s.routes.breakage
  else
    match e.cls, e.owner with
    | some c, some o => s.cell c o
    | some _, none => []
    | none, _ => []

/-! ### Nominal position and arming point (R120, R85) -/

/-- N = (R + D_g + floor(length / 2)) mod 2^24 (R120). -/
def nominal (r : Pos) (g : Gate) (length : Nat) : Pos := r + dist g.d + dist (length / 2)

/-- The arming point N − A_g (R120). -/
def armingPoint (r : Pos) (g : Gate) (length : Nat) : Pos := nominal r g length - dist g.a

/-- The position test: P has not reached the arming point; it passes while the length is open (R85). -/
def positionOk (s : State) (e : Entry) (g : Gate) : Bool :=
  match e.length with
  | some n => !reached s.belt.p (armingPoint e.r g n)
  | none => true

/-! ### Eligibility (R82, R84) -/

/-- The credit test: F_d − R_d is greater than margin_d, in signed arithmetic (R82). -/
def creditOk (r : Dest) : Bool := decide ((r.free : Int) - r.reserved > r.margin)

/-- No hold condition is held. -/
def Holds.none (h : Holds) : Bool := h == {}

/-- The owner test: SITE, or station s for an entry of Os (R84). -/
def ownerOk (r : Dest) (e : Entry) : Bool :=
  match r.owner with
  | some .site => true
  | some (.station st) => e.owner == some (.outlet st)
  | Option.none => false

/-- The class test: the entry's class is in the accepted set. -/
def classOk (r : Dest) (e : Entry) : Bool :=
  match e.cls with
  | some c => r.classes.getLsbD c.val
  | Option.none => false

/-- A candidate destination is eligible for an entry (R84). -/
def eligible (s : State) (e : Entry) (d : DestId) : Bool :=
  let r := s.dest d
  let g := s.gate (destGate d)
  r.configured && g.configured && r.state == .opened && r.holds.none && classOk r e && ownerOk r e
    && creditOk r && g.service == .inService && positionOk s e g

/-- The two passes: the chosen list, then the overflow list, with a destination left out of both (R87, R91). -/
def search (s : State) (e : Entry) (leftOut : Option DestId) : Option DestId :=
  let ok := fun d => some d != leftOut && eligible s e d
  ((chosenList s e).find? ok).or (s.routes.overflow.find? ok)

/-! ### Decisions and reroutes (R87, R91) -/

/-- The entry takes destination d: R_d and ASSIGNED rise, and the entry is ROUTED (R87, R79). -/
def assign (r : EntryRef) (d : DestId) (s : State) : State :=
  ((s.modEntry r fun e => { e with dest := some (.gateDest d), state := .routed }).modDest d
    fun x => { x with reserved := x.reserved + 1 }).raiseDest d .assigned

/-- The entry takes the tail (R87, R56). -/
def assignTail (r : EntryRef) (s : State) : State :=
  s.modEntry r fun e => { e with dest := some .tail, state := .toTail }

/-- Search the lists for an entry and assign what they give, or the tail (R87). -/
def decideRoute (r : EntryRef) (leftOut : Option DestId) (s : State) : State :=
  match s.find r with
  | none => s
  | some e =>
    match search s e leftOut with
    | some d => assign r d s
    | none => assignTail r s

/-- An entry gives up its reservation of d: R_d falls by one and it holds no destination until the decision that follows (R91 step 1). -/
def giveBack (r : EntryRef) (d : DestId) (s : State) : State :=
  unreserve d (s.modEntry r fun e => { e with dest := none })

/-- Withdrawal from the fire queue: F is removed, LATE cleared, and the entry is ROUTED again (R58). -/
def withdraw (r : EntryRef) (d : DestId) (s : State) : State :=
  (leaveQueue (destGate d) r s).modEntry r fun e => { e with fireAt := none, late := false, state := .routed }

/-- Route attempts rises by one, up to 7, and REROUTES is counted (R91 step 2). -/
def countReroute (r : EntryRef) (s : State) : State :=
  (s.modEntry r fun e => { e with attempts := min (e.attempts + 1) 7 }).raisePart .reroutes

/-- Reroute of the entry named away from d. A ROUTED or ARMED entry is withdrawn, gives back its reservation and is decided again with d left out (R58, R91); a SUSPECT entry only loses its reservation and takes T (R62); a token and any other entry stays (R65, R93). -/
def reroute (d : DestId) (r : EntryRef) (s : State) : State :=
  match s.find r with
  | none => s
  | some e =>
    if e.dest = some (.gateDest d) ∧ e.isTest = false then
      match e.state with
      | .routed | .armed => decideRoute r (some d) (countReroute r (giveBack r d (withdraw r d s)))
      | .suspect => unreserve d (s.modEntry r fun x => { x with dest := some .tail })
      | .pending | .toTail => s
    else s

/-- The destination of an entry, if the cause concerns it. -/
def concerned (ds : List DestId) (e : Entry) : Option DestId :=
  match e.dest with
  | some (.gateDest d) => if ds.contains d ∧ e.isTest = false then some d else none
  | some .tail => none
  | none => none

/-- One cascade over the entries assigned to the destinations, in map order, each taken whole before the next (R92). -/
def cascade (ds : List DestId) (s : State) : State :=
  forEach (s.map.filterMap fun e => (concerned ds e).map fun d => (d, e.ref))
    (fun x acc => reroute x.1 x.2 acc) s

/-! ### Holds (R107) -/

/-- A destination gains a hold, with DEST-STATE offered. -/
def gainHold (set : Holds → Holds) (d : DestId) (s : State) : State :=
  changeDest d (fun r => { r with holds := set r.holds }) s

/-- Destinations gain a rerouting hold: those that do not carry it yet gain it, and then their entries are rerouted as one cascade (R92, R107). -/
def gainRerouting (carries : Holds → Bool) (set : Holds → Holds) (ds : List DestId) (s : State) : State :=
  let fresh := ds.filter fun d => !carries (s.dest d).holds
  cascade fresh (syncConditions (forEach fresh (gainHold set) s))

/-- Gaining FULL, BLOCKED, SILENT or GATE_OUT. -/
def setFull (h : Holds) : Holds := { h with full := true }

/-- BLOCKED. -/
def setBlocked (h : Holds) : Holds := { h with blocked := true }

/-- SILENT. -/
def setSilent (h : Holds) : Holds := { h with silent := true }

/-- GATE_OUT. -/
def setGateOut (h : Holds) : Holds := { h with gateOut := true }

/-! ### Requests on the route table (R73, R74, R76) -/

/-- Members as destinations; bytes outside D0..D23 are refused before this is used. -/
def asDests (l : List Byte) : List DestId := l.filterMap fun b => inRange? 24 b.toNat

/-- What a route write names: a cell, or one of the site lists. -/
inductive RouteTarget where
  | cell (c : ItemClass) (o : ItemOwner)
  | overflow
  | breakage
deriving DecidableEq, Repr

/-- Replace a list as a whole (R72). -/
def storeList (t : RouteTarget) (l : List DestId) (s : State) : State :=
  match t with
  | .cell c o => { s with routes := { s.routes with cells := s.routes.cells.set (cellIndex c o) l } }
  | .overflow => { s with routes := { s.routes with overflow := l } }
  | .breakage => { s with routes := { s.routes with breakage := l } }

/-- Read a list. -/
def readList (t : RouteTarget) (s : State) : List DestId :=
  match t with
  | .cell c o => s.cell c o
  | .overflow => s.routes.overflow
  | .breakage => s.routes.breakage

/-- Whether a kept member passes the ownership check of a write (R73 check 4; R74). -/
def memberOwned (q : Sender) (t : RouteTarget) (s : State) (d : DestId) : Bool :=
  match q with
  | .station _ => (s.dest d).owner == some q || (s.dest d).owner == some .site
  | .site =>
    match t with
    | .cell _ (.outlet _) => true
    | .cell _ .nobody => (s.dest d).owner == some .site
    | .overflow => (s.dest d).owner == some .site
    | .breakage => (s.dest d).owner == some .site

/-- A write of a list, with the checks of R73 in order and the differences of R74. Every reply carries the kept list (R75; log 16). -/
def writeList (q : Sender) (target : Option RouteTarget) (members : List Byte) (s : State) : Answer :=
  let kept := keptList members
  match target with
  | none => ⟨s, .argument, listBytes kept⟩
  | some t =>
    if members.any fun b => decide (24 ≤ b.toNat) then ⟨s, .argument, listBytes kept⟩
    else if s.commissioned && (asDests kept).any fun d => !(s.gate (destGate d)).configured then
      ⟨s, .badConfig, listBytes kept⟩
    else if s.commissioned && (asDests kept).any fun d => !memberOwned q t s d then
      ⟨s, .notOwner, listBytes kept⟩
    else
      ⟨storeList t (asDests kept) s,
        if kept.length = members.length then .done else .doneTruncated, listBytes kept⟩

/-- An item owner code 0..6. -/
def itemOwner? (n : Nat) : Option ItemOwner :=
  match inRange? 6 n with
  | some s => some (.outlet s)
  | none => if n = 6 then some .nobody else none

/-- The cell a class code and an owner code name. -/
def cellTarget? (c o : Nat) : Option RouteTarget :=
  match inRange? 14 c, itemOwner? o with
  | some c, some o => some (.cell c o)
  | some _, none => none
  | none, _ => none

/-- WRITE-ROUTE: class; count; members from a station, class; item owner; count; members from the site. -/
def handleWriteRoute (q : Sender) (pl : List Byte) (s : State) : Answer :=
  match q with
  | .station st => writeList q (cellTarget? (byteAt pl 0) st.val) (routeMembers q pl) s
  | .site => writeList q (cellTarget? (byteAt pl 0) (byteAt pl 1)) (routeMembers q pl) s

/-- SET-LIST: selector 1 overflow or 2 breakage; count; members. -/
def handleSetList (q : Sender) (pl : List Byte) (s : State) : Answer :=
  let target := if byteAt pl 0 = 1 then some RouteTarget.overflow
    else if byteAt pl 0 = 2 then some RouteTarget.breakage
    else none
  writeList q target (listMembers pl) s

/-- The list READ-ROUTE names (R76). -/
def readTarget? (q : Sender) (pl : List Byte) : Option RouteTarget :=
  match q with
  | .station st => cellTarget? (byteAt pl 0) st.val
  | .site =>
    match byteAt pl 0 with
    | 0 => cellTarget? (byteAt pl 1) (byteAt pl 2)
    | 1 => some .overflow
    | 2 => some .breakage
    | _ => none

/-- READ-ROUTE (R76). -/
def handleReadRoute (q : Sender) (pl : List Byte) (s : State) : Answer :=
  match readTarget? q pl with
  | some t => ⟨s, .done, listBytes (destBytes (readList t s))⟩
  | none => refuse .argument s

/-- WRITE_ROUTE (R73, R74). -/
def execWriteRoute (p : Port) (tag : Byte) (pl : List Byte) (s : State) : Result :=
  frameEvent .writeRoute handleWriteRoute p tag pl s

/-- READ_ROUTE (R76). -/
def execReadRoute (p : Port) (tag : Byte) (pl : List Byte) (s : State) : Result :=
  frameEvent .readRoute handleReadRoute p tag pl s

/-- SET_LIST (R74). -/
def execSetList (p : Port) (tag : Byte) (pl : List Byte) (s : State) : Result :=
  frameEvent .setList handleSetList p tag pl s

end Sys2Proof.Machine
end

