-- ==== Sys2Proof/Machine/Chutes.lean ====
section
/-! DEFINITION. The chute monitor's confirm side (spec 08, 8.1 to 8.5): sightings, confirms, strays and misses, the confirm eye, and the chute block. -/

namespace Sys2Proof.Machine

/-! ### Confirms and misses (R142 to R147) -/

/-- An ARRIVAL notice is offered to the station that owns d; a SITE-owned destination forms none (R146). -/
def offerArrival (d : DestId) (a : Awaiting) (confirmed : Bool) (s : State) : State :=
  match (s.dest d).owner with
  | some (.station st) => offerNotice st (.arrival d a.tag a.cls a.owner confirmed) s
  | some .site => s
  | none => s

/-- A resolution that empties the queue of a RELEASING destination completes its release (R147). -/
def settleEmptied (d : DestId) (s : State) : State :=
  if (s.dest d).awaiting = [] ∧ (s.dest d).state = .releasing then completeRelease d s else s

/-- The consecutive-miss count after one more miss (R145). -/
def missCount (n : Nat) : Nat := min (n + 1) 4

/-- A miss raises the consecutive-miss count, and brings SILENT with the reroutes of R107 as it reaches 4 (R145). -/
def countMiss (d : DestId) (s : State) : State :=
  let s1 := s.modDest d fun r => { r with misses := missCount r.misses }
  if (s.dest d).misses = 3 then gainRerouting Holds.silent setSilent [d] s1 else s1

/-- The record at a place of d's queue is missed (R144). -/
def miss (d : DestId) (place : Nat) (s : State) : State :=
  match (s.dest d).awaiting[place]? with
  | none => s
  | some a =>
    let s1 := unreserve d (s.modDest d fun r => { r with awaiting := r.awaiting.eraseIdx place })
    settleEmptied d (offerArrival d a false (countMiss d (s1.raiseDest d .misses)))

/-- F_d after a confirmed arrival, with the record gone and the miss count 0 (R80, R142 steps 1, 2 and 4). -/
def confirmedRecord (r : Dest) : Dest :=
  { r with awaiting := r.awaiting.tail, free := r.free - 1, misses := 0 }

/-- A sighting confirms the oldest record (R142), or is a stray (R143). -/
def sighting (d : DestId) (s : State) : State :=
  match (s.dest d).awaiting with
  | [] => s.raiseDest d .strays
  | a :: _ =>
    let s1 := unreserve d (changeDest d confirmedRecord s)
    settleEmptied d (offerArrival d a true (s1.raiseDest d .arrived))

/-- An item fired joins the queue of its destination: a record that would be the fifth is preceded by the forced miss of the oldest (R139, R140). -/
def joinAwaiting (d : DestId) (a : Awaiting) (s : State) : State :=
  let s1 := if 4 ≤ (s.dest d).awaiting.length then miss d 0 s else s
  s1.modDest d fun r => { r with awaiting := r.awaiting ++ [a] }

/-! ### The confirm eye (R141, R148, R149) -/

/-- The level of one input of a group. -/
def setConfirmEye (d : DestId) (blocked : Bool) (s : State) : State :=
  s.modPins fun p => { p with confirmEyes := p.confirmEyes.set d blocked }

/-- The eye state after the eye goes blocked (R141). -/
def eyeOnBlocked : EyeState → EyeState
  | .clear => .blocking
  | .blocking => .blocking
  | .seen => .seen
  | .clearing => .seen

/-- The eye state after the eye goes clear (R141). -/
def eyeOnClear : EyeState → EyeState
  | .clear => .clear
  | .blocking => .clear
  | .seen => .clearing
  | .clearing => .clearing

/-- A raw edge of the confirm eye: the eye state moves, and the filter, the block timer and the clear timer start from 0 (R141, R148, R149). -/
def eyeEdge (d : DestId) (blocked : Bool) (s : State) : State :=
  s.modDest d fun r =>
    { r with
      eye := if blocked then eyeOnBlocked r.eye else eyeOnClear r.eye
      eyeMs := 0
      blockMs := 0
      clearMs := 0 }

/-- CONFIRM_EYE_CHANGE (R141). -/
def execConfirmEyeChange (d : DestId) (blocked : Bool) (s : State) : Result :=
  inputEvent (setConfirmEye d blocked) (if s.confirmEye d = blocked then id else eyeEdge d blocked) s

/-- The eye has been BLOCKING for 20 ms. -/
def sightingDue (s : State) (d : DestId) : Bool := (s.dest d).eye == .blocking && decide (20 ≤ (s.dest d).eyeMs)

/-- CONFIRM_EYE_SIGHTING (R141, R142, R143). -/
def execConfirmEyeSighting (d : DestId) (s : State) : Result :=
  event (fun s =>
    if sightingDue s d then sighting d (s.modDest d fun r => { r with eye := .seen }) else s) s

/-- The eye has been CLEARING for 20 ms. -/
def clearSettledDue (s : State) (d : DestId) : Bool :=
  (s.dest d).eye == .clearing && decide (20 ≤ (s.dest d).eyeMs)

/-- CONFIRM_EYE_CLEAR_SETTLED (R141). -/
def execConfirmEyeClearSettled (d : DestId) (s : State) : Result :=
  event (fun s =>
    if clearSettledDue s d then s.modDest d fun r => { r with eye := .clear } else s) s

/-- The place of the oldest record with the tag whose window has run out. -/
def expiredPlace (l : List Awaiting) (tag : Tag) : Option Nat :=
  l.findIdx? fun a => a.tag == tag && a.leftMs == 0

/-- CONFIRM_WINDOW_EXPIRY (R144). -/
def execConfirmWindowExpiry (d : DestId) (tag : Tag) (s : State) : Result :=
  event (fun s =>
    match expiredPlace (s.dest d).awaiting tag with
    | some place => miss d place s
    | none => s) s

/-! ### Chute block (R148, R149) -/

/-- The eye has been blocked for B without a break, and BLOCKED is not carried. -/
def blockDue (s : State) (d : DestId) : Bool :=
  s.confirmEye d && decide (s.settings.b ≤ (s.dest d).blockMs) && !(s.dest d).holds.blocked

/-- CHUTE_BLOCK (R148). -/
def execChuteBlock (d : DestId) (s : State) : Result :=
  event (fun s => if blockDue s d then gainRerouting Holds.blocked setBlocked [d] s else s) s

/-- The eye of a BLOCKED destination has been clear for 1000 ms without a break. -/
def blockClearDue (s : State) (d : DestId) : Bool :=
  (s.dest d).holds.blocked && !s.confirmEye d && decide (1000 ≤ (s.dest d).clearMs)

/-- BLOCKED is cleared (R149). -/
def loseBlocked (r : Dest) : Dest := { r with holds := { r.holds with blocked := false } }

/-- CHUTE_BLOCK_CLEAR (R149). -/
def execChuteBlockClear (d : DestId) (s : State) : Result :=
  event (fun s => if blockClearDue s d then changeDest d loseBlocked s else s) s

end Sys2Proof.Machine
end

