-- ==== Sys2Proof/Machine/Gates.lean ====
section
/-! DEFINITION. The gate timers (spec 07), the actuator checks and fault records of the chute monitor (8.6, 8.7), the tail arrival (R60) and the site's requests on gates. -/

namespace Sys2Proof.Machine

/-! ### Faults and service (R129, R131, R151, R153) -/

/-- A gate's fault record after one more fault at position p (R153). -/
def FaultRecord.next (cause : FaultCause) (side : Option Side) (p : Pos) (r : FaultRecord) : FaultRecord :=
  { cause := cause, side := side, count := min (r.count + 1) 255, p := some p }

/-- Write a gate's fault record (R153). -/
def recordFault (g : GateId) (cause : FaultCause) (side : Option Side) (s : State) : State :=
  s.modGate g fun x => { x with fault := x.fault.next cause side s.belt.p }

/-- The test token is bound for gate g and has not fired: it is ROUTED, or stands in the fire queue (R67). -/
def tokenUnfired (g : GateId) (s : State) : Bool :=
  match s.find .token with
  | none => false
  | some e => e.gate? == some g && (e.state == .routed || (s.gate g).queue.contains .token)

/-- A gate goes OUT_OF_SERVICE: GATE_OUT on both destinations, one cascade, the token that has not fired aborted, the queue emptied (R129, R110). -/
def gateOut (g : GateId) (s : State) : State :=
  let unfired := tokenUnfired g s
  let s1 := s.modGate g fun x => { x with service := .outOfService }
  let s2 := gainRerouting Holds.gateOut setGateOut [gateDest g .left, gateDest g .right] s1
  let s3 := if unfired then endToken .aborted s2 else s2
  s3.modGate g fun x => { x with queue := [] }

/-- A fault cause handed over for a gate takes it out if it is IN_SERVICE (R131). -/
def handFault (g : GateId) (s : State) : State :=
  if (s.gate g).service = .inService then gateOut g s else s

/-- An extension that no fire asked for is recorded with its side and handed over (R151, R152). -/
def uncommanded (g : GateId) (side : Side) (s : State) : State :=
  handFault g (recordFault g .extendUncommanded (some side) s)

/-- The chute monitor watches the gate's switches: the belt has left UNCONFIGURED, the gate is configured, IN_SERVICE and IDLE, with no check in progress (R151). -/
def watched (g : GateId) (s : State) : Bool :=
  s.commissioned && (s.gate g).configured && (s.gate g).service == .inService
    && (s.gate g).cycle.isNone && (s.gate g).checks.isEmpty

/-- The watch begins, if its conditions hold, and finds a switch that reads extended (R151). With both extended the side recorded is free (log 20). -/
def beginWatch (g : GateId) (s : State) : State :=
  if watched g s then
    match s.switchExtended g .left, s.switchExtended g .right with
    | false, false => s
    | true, false => uncommanded g .left s
    | false, true => uncommanded g .right s
    | true, true => uncommanded g (if Config.freeSide s.draws then .right else .left) (s.drew 1)
  else s

/-! ### Arming (R121 to R123) -/

/-- The lead before the clamp: V × L_g / 1000 rounded half up (R121). -/
def rawLead (v l : Nat) : Nat := (v * l + 500) / 1000

/-- The lead Λ, at most A_g (R121). -/
def lead (v : Nat) (g : Gate) : Nat := min (rawLead v g.l) g.a

/-- Whether the lead was clamped, which marks the entry LATE (R121). -/
def leadClamped (v : Nat) (g : Gate) : Bool := decide (g.a < rawLead v g.l)

/-- The spacing S: V × T_g / 1000 rounded up (R121). -/
def spacing (v t : Nat) : Nat := (v * t + 999) / 1000

/-- The fire position F = N − Λ (R121). -/
def firePosition (v : Nat) (r : Pos) (g : Gate) (length : Nat) : Pos := nominal r g length - dist (lead v g)

/-- How far ahead of P a position lies, 0 once it is reached. -/
def ahead (p x : Pos) : Nat := if reached p x then 0 else (x - p).toNat

/-- The fire position of a queued entry. -/
def fireAtOf (s : State) (r : EntryRef) : Option Pos := (s.find r).bind Entry.fireAt

/-- Whether a queued entry's F is reached at or before f, counted forward from P (R122). -/
def firesBefore (s : State) (f : Pos) (q : EntryRef) : Bool :=
  match fireAtOf s q with
  | some x => decide (ahead s.belt.p x ≤ ahead s.belt.p f)
  | none => false

/-- The place an arming entry takes in the queue (R122). -/
def queuePlace (s : State) (g : GateId) (f : Pos) : Nat := ((s.gate g).queue.filter (firesBefore s f)).length

/-- The gap to the last fired F, 0 where the new F lies behind it (R122). -/
def gapToLast (f last : Pos) : Nat := if (f - last).toNat < 8388608 then (f - last).toNat else 0

/-- The gap to the predecessor, if there is one (R122). -/
def gapBefore (s : State) (g : GateId) (f : Pos) : Option Nat :=
  match queuePlace s g f with
  | 0 => if (s.gate g).cycle.isSome then (s.gate g).lastFired.map (gapToLast f) else none
  | n + 1 => ((s.gate g).queue[n]?.bind (fireAtOf s)).map fun x => (f - x).toNat

/-- The gap to the successor, if there is one (R122). -/
def gapAfter (s : State) (g : GateId) (f : Pos) : Option Nat :=
  ((s.gate g).queue[queuePlace s g f]?.bind (fireAtOf s)).map fun x => (x - f).toNat

/-- A gap that is there and is less than S. -/
def gapShort (spacing : Nat) : Option Nat → Bool
  | some n => decide (n < spacing)
  | none => false

/-- Refusal of admission: the queue holds 4 entries, or either gap is less than S (R123). -/
def armingRefused (s : State) (g : GateId) (f : Pos) : Bool :=
  let sp := spacing s.belt.v (s.gate g).t
  decide (4 ≤ (s.gate g).queue.length) || gapShort sp (gapBefore s g f) || gapShort sp (gapAfter s g f)

/-- The destination and length of an entry whose arming target has been reached: ROUTED to a gate, with its length closed (R2, R120). -/
def armingDue (s : State) (e : Entry) : Option (DestId × Nat) :=
  match e.dest, e.length with
  | some (.gateDest d), some n =>
    if e.state = .routed ∧ reached s.belt.p (armingPoint e.r (s.gate (destGate d)) n) then some (d, n)
    else none
  | some (.gateDest _), none => none
  | some .tail, _ => none
  | none, _ => none

/-- The entry is ARMED with F at its place in the queue; a token's F and LATE go to the test record (R123, R135). -/
def joinQueue (r : EntryRef) (g : GateId) (f : Pos) (late : Bool) (s : State) : State :=
  let s1 := (s.modEntry r fun e => { e with state := .armed, fireAt := some f, late := late }).modGate g
    fun x => { x with queue := x.queue.insertIdx (queuePlace s g f) r }
  if r = .token then s1.modTest fun t => { t with late := late, fireAt := some f } else s1

/-- A refused entry is counted, and is rerouted, or ends with CONFLICT if it is the token (R123, R65). -/
def refuseArming (r : EntryRef) (d : DestId) (s : State) : State :=
  let s1 := s.raiseGate (destGate d) .spacingConflicts
  if r = .token then endToken .conflict s1 else reroute d r s1

/-- The arming of an entry bound for d with a closed length (R121 to R123). -/
def armEntry (r : EntryRef) (e : Entry) (d : DestId) (n : Nat) (s : State) : State :=
  let g := destGate d
  let f := firePosition s.belt.v e.r (s.gate g) n
  if armingRefused s g f then refuseArming r d s
  else joinQueue r g f (leadClamped s.belt.v (s.gate g)) s

/-- ARMING (R121). -/
def execArming (r : EntryRef) (s : State) : Result :=
  event (fun s =>
    match s.find r with
    | none => s
    | some e =>
      match armingDue s e with
      | none => s
      | some (d, n) => armEntry r e d n s) s

/-! ### Fire and cycle (R125 to R128, R150) -/

/-- Switch the drive outputs of a gate (R126). -/
def driveOn (side : Side) (g : Gate) : Gate :=
  match side with
  | .left => { g with driveLeft := true, driveRight := false }
  | .right => { g with driveLeft := false, driveRight := true }

/-- The gate record as a fire leaves it: the head gone, CYCLING with its end and drive-off times, the drive on, the last fired F (R126 steps 1 to 4). -/
def firedGate (side : Side) (f : Pos) (g : Gate) : Gate :=
  driveOn side { g with
    queue := g.queue.tail
    cycle := some { side := side, endIn := g.t, offIn := g.t / 2 }
    lastFired := some f }

/-- FIRES, and LATE_FIRES for a LATE entry (R126 step 5). -/
def countFire (g : GateId) (late : Bool) (s : State) : State :=
  let s1 := s.raiseGate g .fires
  if late then s1.raiseGate g .lateFires else s1

/-- The awaiting-confirm record of a fired entry (R59, R140). The class and owner of a fired entry are never absent (log 25). -/
def Entry.awaiting (e : Entry) (tag : Tag) (window : Nat) : Awaiting :=
  { tag := tag, cls := e.cls.getD ItemClass.unknown, owner := e.owner.getD .nobody, leftMs := window }

/-- The actuator check of a fire: seen at once where the switch already reads extended, otherwise in progress to its deadline, beside any check that has outlasted an earlier cycle (R150; log 34). -/
def startCheck (g : GateId) (side : Side) (forToken : Bool) (s : State) : State :=
  if s.switchExtended g side then (if forToken then endToken .pass s else s)
  else s.modGate g fun x =>
    { x with checks := x.checks ++ [{ side := side, leftMs := 2 * x.l, forToken := forToken }] }

/-- A fire for the head entry, bound for d with fire position f (R126). -/
def fire (g : GateId) (e : Entry) (d : DestId) (f : Pos) (s : State) : State :=
  let s1 := countFire g e.late (s.modGate g (firedGate (destSide d) f))
  match e.tag with
  | none => startCheck g (destSide d) true s1
  | some t =>
    startCheck g (destSide d) false
      (joinAwaiting d (e.awaiting t (s.gate g).c) (s1.dropEntry (.tag t)))

/-- A missed fire of the head entry (R127). -/
def missedFire (g : GateId) (r : EntryRef) (d : DestId) (s : State) : State :=
  let s1 := (s.modGate g fun x => { x with queue := x.queue.tail }).raiseGate g .missedFires
  if r = .token then endToken .conflict s1 else reroute d r s1

/-- The head entry of a fire queue with its destination and its fire position, once P has reached it (R125). -/
def headDue (s : State) (g : GateId) : Option (Entry × DestId × Pos) :=
  match (s.gate g).queue.head?.bind s.find with
  | none => none
  | some e =>
    match e.dest, e.fireAt with
    | some (.gateDest d), some f => if reached s.belt.p f then some (e, d, f) else none
    | some (.gateDest _), none => none
    | some .tail, _ => none
    | none, _ => none

/-- FIRE_TARGET (R125). -/
def execFireTarget (g : GateId) (s : State) : Result :=
  event (fun s =>
    match headDue s g with
    | none => s
    | some (e, d, f) =>
      match (s.gate g).cycle with
      | none => fire g e d f s
      | some _ => missedFire g e.ref d s) s

/-- TAIL_ARRIVAL (R60). -/
def execTailArrival (tag : Tag) (s : State) : Result :=
  event (fun s =>
    match s.find (.tag tag) with
    | none => s
    | some e =>
      if e.state = .toTail ∧ reached s.belt.p (e.r + dist s.settings.dT) then
        (s.dropEntry (.tag tag)).raisePart .tailArrivals
      else s) s

/-- Both drive outputs off. -/
def drivesOff (g : Gate) : Gate := { g with driveLeft := false, driveRight := false }

/-- The drive of a cycle in progress is due to go off. -/
def driveOffDue (g : Gate) : Bool :=
  match g.cycle with
  | some c => c.offIn == 0 && (g.driveLeft || g.driveRight)
  | none => false

/-- GATE_DRIVE_OFF (R126 step 3). -/
def execGateDriveOff (g : GateId) (s : State) : Result :=
  event (fun s => if driveOffDue (s.gate g) then s.modGate g drivesOff else s) s

/-- A cycle in progress has reached its end time. -/
def cycleEndDue (g : Gate) : Bool :=
  match g.cycle with
  | some c => c.endIn == 0
  | none => false

/-- The motion becomes IDLE and the side fired is removed (R126). -/
def endCycle (g : Gate) : Gate := drivesOff { g with cycle := none }

/-- GATE_CYCLE_END (R126), which begins the watch (R151). -/
def execGateCycleEnd (g : GateId) (s : State) : Result :=
  event (fun s => if cycleEndDue (s.gate g) then beginWatch g (s.modGate g endCycle) else s) s

/-! ### The extended switches (R150, R151) -/

/-- The level of one switch. -/
def setSwitch (g : GateId) (side : Side) (extended : Bool) (s : State) : State :=
  s.modPins fun p =>
    match side with
    | .left => { p with extLeft := p.extLeft.set g extended }
    | .right => { p with extRight := p.extRight.set g extended }

/-- The checks of a side that are in progress. -/
def sideChecks (side : Side) (g : Gate) : List ActuatorCheck := g.checks.filter fun c => c.side == side

/-- The checks of the side end as seen; a token that waits leaves with PASS; and the watch may begin (R150, R151). -/
def checkSeen (g : GateId) (side : Side) (s : State) : State :=
  let forToken := (sideChecks side (s.gate g)).any ActuatorCheck.forToken
  let s1 := s.modGate g fun x => { x with checks := x.checks.filter fun c => c.side != side }
  beginWatch g (if forToken then endToken .pass s1 else s1)

/-- A switch goes extended outside the check of its side: acted on during the watch, and on the side not fired during a cycle of a gate that is not out (R151). -/
def strayExtension (g : GateId) (side : Side) (s : State) : State :=
  match (s.gate g).cycle with
  | some c =>
    if c.side ≠ side ∧ s.commissioned ∧ (s.gate g).configured ∧ (s.gate g).service = .inService then
      uncommanded g side s
    else s
  | none => if watched g s then uncommanded g side s else s

/-- A switch goes extended (R150, R151). -/
def switchGoesExtended (g : GateId) (side : Side) (s : State) : State :=
  match sideChecks side (s.gate g) with
  | [] => strayExtension g side s
  | _ :: _ => checkSeen g side s

/-- EXTENDED_SWITCH_CHANGE (R150, R151). -/
def execExtendedSwitchChange (g : GateId) (side : Side) (extended : Bool) (s : State) : Result :=
  inputEvent (setSwitch g side extended)
    (if s.switchExtended g side = extended then id
     else if extended then switchGoesExtended g side
     else id) s

/-- The oldest check that has reached its deadline. -/
def dueCheck (g : Gate) : Option ActuatorCheck := g.checks.find? fun c => c.leftMs == 0

/-- The check fails: the fault is recorded, a token leaves with ACTUATOR_FAULT, and the gate goes out if it is IN_SERVICE (R150, R131). -/
def checkFails (g : GateId) (c : ActuatorCheck) (s : State) : State :=
  let s1 := recordFault g .actuatorNoExtend (some c.side) (s.modGate g fun x => { x with checks := x.checks.erase c })
  handFault g (if c.forToken then endToken .actuatorFault s1 else s1)

/-- ACTUATOR_CHECK_DEADLINE (R150). -/
def execActuatorCheckDeadline (g : GateId) (s : State) : Result :=
  event (fun s =>
    match dueCheck (s.gate g) with
    | some c => checkFails g c s
    | none => s) s

/-! ### Site requests on gates (R130, R132, R133, R186) -/

/-- The token as TEST-FIRE makes it (R64); its confidence is absent (log 39). -/
def tokenEntry (p : Pos) (d : DestId) : Entry :=
  { tag := none, r := p, length := some 0, dest := some (.gateDest d), state := .routed }

/-- A side code 0 or 1. -/
def side? : Nat → Option Side
  | 0 => some .left
  | 1 => some .right
  | _ => none

/-- The map makes the token and the test record reads PENDING (R64, R133). -/
def makeToken (g : GateId) (side : Side) (s : State) : State :=
  { s with
    map := s.map ++ [tokenEntry s.belt.p (gateDest g side)]
    test := { gate := some g, side := some side, result := .pending, late := false, fireAt := none } }

/-- TEST-FIRE, its checks in order (R133, R64). -/
def handleTestFire (_ : Sender) (pl : List Byte) (s : State) : Answer :=
  match inRange? 12 (byteAt pl 0), side? (byteAt pl 1) with
  | some g, some side =>
    if !s.isRunning then refuse .state s
    else if !(s.gate g).configured then refuse .badConfig s
    else if (s.gate g).service ≠ .inService then refuse .state s
    else if (s.find .token).isSome || decide (64 ≤ s.map.length) then refuse .busy s
    else ⟨makeToken g side s, .done, []⟩
  | some _, none => refuse .argument s
  | none, _ => refuse .argument s

/-- TAKE-GATE-OUT (R130). -/
def handleTakeGateOut (_ : Sender) (pl : List Byte) (s : State) : Answer :=
  match inRange? 12 (byteAt pl 0) with
  | none => refuse .argument s
  | some g =>
    if !(s.gate g).configured then refuse .badConfig s
    else if (s.gate g).service = .inService then
      ⟨gateOut g (recordFault g .takenOut none s), .done, []⟩
    else ⟨s, .done, []⟩

/-- GATE_OUT is cleared (R110). -/
def loseGateOut (r : Dest) : Dest := { r with holds := { r.holds with gateOut := false } }

/-- The gate is IN_SERVICE again, and GATE_OUT is cleared from both its destinations (R132). -/
def gateBack (g : GateId) (s : State) : State :=
  changeDest (gateDest g .right) loseGateOut
    (changeDest (gateDest g .left) loseGateOut (s.modGate g fun x => { x with service := .inService }))

/-- RETURN-GATE (R132). -/
def handleReturnGate (_ : Sender) (pl : List Byte) (s : State) : Answer :=
  match inRange? 12 (byteAt pl 0) with
  | none => refuse .argument s
  | some g =>
    if !(s.gate g).configured then refuse .badConfig s
    else if (s.gate g).service = .inService then ⟨s, .done, []⟩
    else if (s.gate g).cycle.isSome || s.switchExtended g .left || s.switchExtended g .right then
      refuse .state s
    else ⟨gateBack g s, .done, []⟩

/-- READ-TEST (R186); three free bytes are used for an absent F (log 12). -/
def handleReadTest (_ : Sender) (_ : List Byte) (s : State) : Answer :=
  ⟨if s.test.fireAt.isSome then s else s.drew 3, .done, testBytes s⟩

/-- READ-FAULT (R186); three free bytes are used for an absent P (log 12). -/
def handleReadFault (_ : Sender) (pl : List Byte) (s : State) : Answer :=
  match inRange? 12 (byteAt pl 0) with
  | none => refuse .argument s
  | some g =>
    ⟨if (s.gate g).fault.p.isSome then s else s.drew 3, .done, faultBytes s (s.gate g).fault⟩

/-- TEST_FIRE (R133). -/
def execTestFire (p : Port) (tag : Byte) (pl : List Byte) (s : State) : Result :=
  frameEvent .testFire handleTestFire p tag pl s

/-- TAKE_GATE_OUT (R130). -/
def execTakeGateOut (p : Port) (tag : Byte) (pl : List Byte) (s : State) : Result :=
  frameEvent .takeGateOut handleTakeGateOut p tag pl s

/-- RETURN_GATE (R132). -/
def execReturnGate (p : Port) (tag : Byte) (pl : List Byte) (s : State) : Result :=
  frameEvent .returnGate handleReturnGate p tag pl s

/-- READ_TEST (R186). -/
def execReadTest (p : Port) (tag : Byte) (pl : List Byte) (s : State) : Result :=
  frameEvent .readTest handleReadTest p tag pl s

/-- READ_FAULT (R186). -/
def execReadFault (p : Port) (tag : Byte) (pl : List Byte) (s : State) : Result :=
  frameEvent .readFault handleReadFault p tag pl s

end Sys2Proof.Machine
end

