-- ==== Sys2Proof/Machine/Patterns.lean ====
section
/-! DEFINITION. The owner pattern table (spec 03): lookup, registration, eviction and removal. -/

namespace Sys2Proof.Machine

/-- The entry that holds a code (R38: there is at most one). -/
def patternOf (code : Word16) (l : List PatternEntry) : Option PatternEntry := l.find? fun e => e.code == code

/-- The table without a code; the others keep their order (R39). -/
def withoutPattern (code : Word16) (l : List PatternEntry) : List PatternEntry := l.filter fun e => e.code != code

/-- An entry goes to the most recent end, in place of any entry of its code (R39). -/
def makeRecent (e : PatternEntry) (l : List PatternEntry) : List PatternEntry := withoutPattern e.code l ++ [e]

/-- The owner a lookup gives (R40). -/
def lookupOwner (code : Word16) (l : List PatternEntry) : ItemOwner :=
  match patternOf code l with
  | some e => .outlet e.owner
  | none => .nobody

/-- The table after a lookup: a hit is made most recent, a miss changes nothing (R40). -/
def lookupTable (code : Word16) (l : List PatternEntry) : List PatternEntry :=
  match patternOf code l with
  | some e => makeRecent e l
  | none => l

/-- Replace the pattern table. -/
def State.withPatterns (s : State) (l : List PatternEntry) : State := { s with patterns := l }

/-- A reply of the table, with the counts after the request is taken. -/
def patternReply (st : Station) (status : Status) (s : State) : Answer := ⟨s, status, patternCounts st s⟩

/-- The lock that is made: asked for, and already held or with the station's count below 10 (R42, R45). -/
def lockGranted (st : Station) (asked held : Bool) (l : List PatternEntry) : Bool :=
  asked && (held || decide (lockedCount st l < 10))

/-- DONE, or LOCK_LIMIT where the lock was asked for and not made (R42, R45). -/
def lockStatus (asked granted : Bool) : Status := if asked && !granted then .lockLimit else .done

/-- The least recent unlocked entry leaves, and its owner is offered PATTERN-EVICTED (R44, R46). -/
def evict (s : State) : State :=
  match s.patterns.find? fun e => !e.locked with
  | none => s
  | some e =>
    let l := withoutPattern e.code s.patterns
    offerNotice e.owner (.evicted e.code (patternCount e.owner l)) (s.withPatterns l)

/-- Room is made where the table is full (R44). -/
def makeRoom (s : State) : State := if 64 ≤ s.patterns.length then evict s else s

/-- A registration of an absent code (R43, R44). -/
def insertPattern (st : Station) (code : Word16) (lock : Bool) (s : State) : Answer :=
  let s1 := makeRoom s
  let locked := lockGranted st lock false s1.patterns
  patternReply st (lockStatus lock locked) (s1.withPatterns (makeRecent ⟨code, st, locked⟩ s1.patterns))

/-- A registration of a code the station already holds (R42). -/
def refreshPattern (st : Station) (e : PatternEntry) (lock : Bool) (s : State) : Answer :=
  let locked := lockGranted st lock e.locked s.patterns
  patternReply st (lockStatus lock locked) (s.withPatterns (makeRecent { e with locked := locked } s.patterns))

/-- REGISTER-PATTERN (R41). -/
def handleRegisterPattern (q : Sender) (pl : List Byte) (s : State) : Answer :=
  match q with
  | .site => refuse .notOwner s
  | .station st =>
    let code : Word16 := BitVec.ofNat 16 (wordAt pl 0)
    if code = 0 then patternReply st .argument s
    else
      match patternOf code s.patterns with
      | none => insertPattern st code (yesAt pl 2) s
      | some e =>
        if e.owner = st then refreshPattern st e (yesAt pl 2) s else patternReply st .conflict s

/-- DROP-PATTERN (R47). -/
def handleDropPattern (q : Sender) (pl : List Byte) (s : State) : Answer :=
  match q with
  | .site => refuse .notOwner s
  | .station st =>
    let code : Word16 := BitVec.ofNat 16 (wordAt pl 0)
    if code = 0 then patternReply st .argument s
    else
      match patternOf code s.patterns with
      | none => patternReply st .done s
      | some e =>
        if e.owner = st then patternReply st .done (s.withPatterns (withoutPattern code s.patterns))
        else patternReply st .notOwner s

/-- CLEAR-PATTERNS (R48). -/
def handleClearPatterns (_ : Sender) (pl : List Byte) (s : State) : Answer :=
  match inRange? 6 (byteAt pl 0) with
  | none => refuse .argument s
  | some st =>
    ⟨s.withPatterns (s.patterns.filter fun e => e.owner != st), .done,
      [byteOf (patternCount st s.patterns)]⟩

/-- REGISTER_PATTERN (R41). -/
def execRegisterPattern (p : Port) (tag : Byte) (pl : List Byte) (s : State) : Result :=
  frameEvent .registerPattern handleRegisterPattern p tag pl s

/-- DROP_PATTERN (R47). -/
def execDropPattern (p : Port) (tag : Byte) (pl : List Byte) (s : State) : Result :=
  frameEvent .dropPattern handleDropPattern p tag pl s

/-- CLEAR_PATTERNS (R48). -/
def execClearPatterns (p : Port) (tag : Byte) (pl : List Byte) (s : State) : Result :=
  frameEvent .clearPatterns handleClearPatterns p tag pl s

end Sys2Proof.Machine
end

