-- ==== Sys2Proof/Machine/Ident.lean ====
section
/-! DEFINITION. The identity matcher (2.4): item reports, giving up, ID window expiry and the silence of the identifier. -/

namespace Sys2Proof.Machine

/-- The PENDING entries, oldest first. -/
def pendingEntries (s : State) : List Entry := s.map.filter fun e => e.state == .pending

/-- The identity of an entry that is given up or expires (R22, R30, R34). -/
def unknownIdentity (e : Entry) : Entry :=
  { e with cls := some ItemClass.unknown, owner := some .nobody, pattern := none, confidence := none, broken := false }

/-- A PENDING entry is given up, counted as ID_LOST and handed to the route unit at once (R22, R30, R32). -/
def giveUp (r : EntryRef) (s : State) : State :=
  decideRoute r none ((s.modEntry r unknownIdentity).raisePart .idLost)

/-- What an item report says (2.4), brought into range (R29). -/
structure ItemReport where
  seq : Nat
  cls : ItemClass
  broken : Bool
  confidence : Nat
  pattern : Word16

/-- A class code above 13 is taken as UNKNOWN (R29). -/
def clampClass (n : Nat) : ItemClass := (inRange? 14 n).getD ItemClass.unknown

/-- The fields of an ITEM-REPORT payload (9.2, R29). -/
def readReport (pl : List Byte) : ItemReport :=
  { seq := byteAt pl 0
    cls := clampClass (byteAt pl 1)
    broken := yesAt pl 2
    confidence := min (byteAt pl 3) 100
    pattern := BitVec.ofNat 16 (wordAt pl 4) }

/-- The class an entry takes: the reported one from the threshold up, otherwise UNKNOWN (R31). -/
def classTaken (threshold : Nat) (r : ItemReport) : ItemClass :=
  if threshold ≤ r.confidence then r.cls else ItemClass.unknown

/-- The owner an entry takes (R31). -/
def ownerTaken (l : List PatternEntry) (r : ItemReport) : ItemOwner :=
  if r.pattern = 0 then .nobody else lookupOwner r.pattern l

/-- The entry after it took the report (R31). -/
def identified (threshold : Nat) (l : List PatternEntry) (r : ItemReport) (e : Entry) : Entry :=
  { e with
    cls := some (classTaken threshold r)
    owner := some (ownerTaken l r)
    pattern := if r.pattern = 0 then none else some r.pattern
    broken := r.broken
    confidence := some r.confidence }

/-- The found entry takes the report, and is handed to the route unit (R30, R31, R40). -/
def takeReport (ref : EntryRef) (r : ItemReport) (s : State) : State :=
  let s1 := s.modEntry ref (identified s.settings.threshold s.patterns r)
  let s2 := if r.pattern = 0 then s1 else s1.withPatterns (lookupTable r.pattern s1.patterns)
  decideRoute ref none (s2.raisePart .reportsMatched)

/-- The silence timer restarts and the level clears at each report handed over (R35). -/
def hearIdentifier (s : State) : State :=
  { s with matcher := { s.matcher with silenceMs := 0, silent := false } }

/-- An entry whose sequence number is k. -/
def hasSeq (k : Nat) (e : Entry) : Bool := e.seq? == some k

/-- A report is matched to the oldest PENDING entry with its seq, after the older ones are given up oldest first; or goes unmatched (R30, R33). -/
def matchReport (r : ItemReport) (s : State) : State :=
  match (pendingEntries s).find? (hasSeq r.seq) with
  | none => s.raisePart .reportUnmatched
  | some e =>
    let older := ((pendingEntries s).takeWhile fun x => !hasSeq r.seq x).map Entry.ref
    takeReport e.ref r (forEach older giveUp s)

/-- A good ITEM-REPORT frame: taken on the identifier port if it has 6 payload bytes, bad there otherwise, and UNKNOWN_KIND on the other ports (R162). -/
def takeItemReport (p : Port) (tag : Byte) (pl : List Byte) (s : State) : State :=
  match p with
  | .sender _ => takeUnknown p Kind.itemReport.code tag s
  | .identifier =>
    if pl.length = 6 then
      matchReport (readReport pl) (hearIdentifier (s.raisePort .identifier .framesGood))
    else badOnPort .identifier s

/-- ITEM_REPORT (R29, R30). -/
def execItemReport (p : Port) (tag : Byte) (pl : List Byte) (s : State) : Result :=
  event (fun s => takeItemReport p tag pl (hunt p s)) s

/-- ID_WINDOW_EXPIRY (R34). -/
def execIdWindowExpiry (tag : Tag) (s : State) : Result :=
  event (fun s =>
    match s.find (.tag tag) with
    | none => s
    | some e =>
      if e.state = .pending ∧ reached s.belt.p (e.r + dist s.settings.w) then
        decideRoute (.tag tag) none ((s.modEntry (.tag tag) unknownIdentity).raisePart .idExpired)
      else s) s

/-- The silence timer stands at 2000 ms and the level is clear. -/
def silentDue (s : State) : Bool := decide (2000 ≤ s.matcher.silenceMs) && !s.matcher.silent

/-- IDENTIFIER_SILENT (R35). -/
def execIdentifierSilent (s : State) : Result :=
  event (fun s =>
    if silentDue s then { s with matcher := { s.matcher with silent := true } } else s) s

end Sys2Proof.Machine
end

