-- ==== Sys2Proof/Machine/ReadPoint.lean ====
section
/-! DEFINITION. The read-point unit (2.1 to 2.3): captures, their commit, the length and the long blockage. -/

namespace Sys2Proof.Machine

/-- The commit distance and the clear distance, 8 counts (R20, R26). -/
def commitDistance : Nat := 8

/-- The length clamp, 1200 counts (R19, R25). -/
def clampLength : Nat := 1200

/-- Set the capture state. -/
def setCapture (c : Capture) (s : State) : State := s.modReader fun r => { r with capture := c }

/-- The level of the read-point eye. -/
def setReadEye (blocked : Bool) (s : State) : State := s.modPins fun p => { p with readEye := blocked }

/-! ### Commit (R21 to R23) -/

/-- A new entry of the map (R22). -/
def newEntry (r : Pos) (tag : Tag) : Entry := { tag := some tag, r := r, length := none, state := .pending }

/-- The map refuses a capture: it holds 64 entries or the tag is live (R23). -/
def captureRefused (tag : Tag) (s : State) : Bool :=
  decide (64 ≤ s.map.length) || (s.find (.tag tag)).isSome

/-- Where 8 entries are PENDING, the oldest is given up before the new one is made (R22). -/
def makePendingRoom (s : State) : State :=
  match pendingEntries s with
  | [] => s
  | e :: es => if 8 ≤ (e :: es).length then giveUp e.ref s else s

/-- The capture is offered to the map (R22, R23). -/
def offerCapture (r : Pos) (tag : Tag) (s : State) : State :=
  if captureRefused tag s then setCapture (.committed r tag false) (s.raisePart .mapOverrun)
  else
    let s1 := makePendingRoom s
    setCapture (.committed r tag true) (s1.withMap (s1.map ++ [newEntry r tag]))

/-- An OPEN capture commits with the next tag (R21). -/
def commitCapture (r : Pos) (s : State) : State :=
  let tag := s.reader.tagCounter + 1
  offerCapture r tag ((s.modReader fun x => { x with tagCounter := tag }).raisePart .captures)

/-! ### Length (R24, R25, R55) -/

/-- The length of an entry is closed; not for a SUSPECT entry (R55). -/
def closeLength (n : Nat) (clamped : Bool) (e : Entry) : Entry :=
  if e.state = .suspect then e else { e with length := some n, clampedLength := e.clampedLength || clamped }

/-- The length of the capture's entry closes, if an entry was made and is still in the map (R24, R25). -/
def closeCapture (tag : Tag) (made : Bool) (n : Nat) (clamped : Bool) (s : State) : State :=
  if made then s.modEntry (.tag tag) (closeLength n clamped) else s

/-- The length at the trailing edge, (P − R) mod 2^24 (R20, R24). -/
def edgeLength (s : State) (r : Pos) : Nat := (s.belt.p - r).toNat

/-- The read-point eye goes clear on a capture that has its tag (R24). -/
def endCapture (r : Pos) (s : State) : State :=
  match s.reader.capture with
  | .committed _ tag made => setCapture .ready (closeCapture tag made (edgeLength s r) false s)
  | .ready | .opened _ | .clearWait _ => s

/-! ### The eye (R19, R20, R24, R26) -/

/-- The read-point eye goes blocked (R19, R26). -/
def eyeBlocks (s : State) : State :=
  match s.reader.capture with
  | .ready => setCapture (.opened s.belt.p) s
  | .clearWait _ => setCapture (.clearWait none) s
  | .opened _ => s
  | .committed _ _ _ => s

/-- The read-point eye goes clear (R20, R24, R26). -/
def eyeClears (s : State) : State :=
  match s.reader.capture with
  | .opened r =>
    if edgeLength s r < commitDistance then setCapture .ready s else endCapture r (commitCapture r s)
  | .committed r _ _ => endCapture r s
  | .clearWait _ => setCapture (.clearWait (some s.belt.p)) s
  | .ready => s

/-- READ_EYE_BLOCK (R19). -/
def execReadEyeBlock (s : State) : Result :=
  inputEvent (setReadEye true) (if s.pins.readEye then id else eyeBlocks) s

/-- READ_EYE_CLEAR (R24). -/
def execReadEyeClear (s : State) : Result :=
  inputEvent (setReadEye false) (if s.pins.readEye then eyeClears else id) s

/-! ### Position events (R21, R25, R26) -/

/-- The capture position of an OPEN capture whose commit target P has reached. -/
def commitDue (s : State) : Option Pos :=
  match s.reader.capture with
  | .opened r => if reached s.belt.p (r + dist commitDistance) then some r else none
  | .ready | .committed _ _ _ | .clearWait _ => none

/-- CAPTURE_COMMIT (R21). -/
def execCaptureCommit (s : State) : Result :=
  event (fun s =>
    match commitDue s with
    | some r => commitCapture r s
    | none => s) s

/-- The tag and the entry-made field of a COMMITTED capture whose clamp target P has reached. -/
def clampDue (s : State) : Option (Tag × Bool) :=
  match s.reader.capture with
  | .committed r tag made => if reached s.belt.p (r + dist clampLength) then some (tag, made) else none
  | .ready | .opened _ | .clearWait _ => none

/-- The clamp: length 1200 with CLAMPED_LENGTH, the level set, CLEAR_WAIT (R25). -/
def clampCapture (tag : Tag) (made : Bool) (s : State) : State :=
  (closeCapture tag made clampLength true s).modReader fun r =>
    { r with capture := .clearWait none, eyeBlocked := true }

/-- LENGTH_CLAMP (R25). -/
def execLengthClamp (s : State) : Result :=
  event (fun s =>
    match clampDue s with
    | some (tag, made) => clampCapture tag made s
    | none => s) s

/-- P has reached the clear target with the eye still clear (R26). -/
def clearWaitDue (s : State) : Bool :=
  match s.reader.capture with
  | .clearWait (some x) => reached s.belt.p (x + dist commitDistance) && !s.pins.readEye
  | .clearWait none => false
  | .ready | .opened _ | .committed _ _ _ => false

/-- CLEAR_WAIT_END (R26). -/
def execClearWaitEnd (s : State) : Result :=
  event (fun s =>
    if clearWaitDue s then s.modReader fun r => { r with capture := .ready, eyeBlocked := false } else s) s

/-! ### Loss and restart (R27, R28) -/

/-- A capture in progress is abandoned at an encoder loss (R27). -/
def abandonCapture (s : State) : State :=
  match s.reader.capture with
  | .opened _ => setCapture (.clearWait none) s
  | .committed _ _ _ => setCapture (.clearWait none) s
  | .ready => s
  | .clearWait _ => s

/-- Where the read-point unit starts afresh: READY with a clear eye, CLEAR_WAIT with a blocked one (R28). -/
def captureAtStart (blocked : Bool) : Capture := if blocked then .clearWait none else .ready

/-- RESTART discards any capture and clears READ_EYE_BLOCKED (R28). -/
def restartReader (s : State) : State :=
  s.modReader fun r => { r with capture := captureAtStart s.pins.readEye, eyeBlocked := false }

end Sys2Proof.Machine
end

