-- ==== Sys2Proof/Machine/Belt.lean ====
section
/-! DEFINITION. The belt unit (spec 01): position, speed, belt states, idle stop, halts, and START, STOP and RESUME. -/

namespace Sys2Proof.Machine

/-! ### Position (R1) -/

/-- The window count after a pulse: one more, and past 65,535 a free value (R3; log 17). -/
def countPulse (s : State) : State :=
  if s.belt.windowCount = 0xFFFF#16 then
    (s.modBelt fun b => { b with windowCount := Config.freeWord s.draws }).drew 1
  else s.modBelt fun b => { b with windowCount := b.windowCount + 1 }

/-- A pulse taken while RUNNING advances P and the window count; any other is discarded (R1). -/
def takePulse (s : State) : State :=
  if s.isRunning then countPulse (s.modBelt fun b => { b with p := b.p + 1 }) else s

/-- ENCODER_PULSE (R1). -/
def execEncoderPulse (s : State) : Result := event takePulse s

/-! ### Speed windows (R3 to R5, R14) -/

/-- The length of a speed window in ms (R3). -/
def windowLength : Nat := 50

/-- The run guard (R6). -/
def guardLength : Nat := 1000

/-- The sample of a window (R3). -/
def speedSample (count : Word16) : Nat := min (20 * count.toNat) 4095

/-- Whether a window's sample saturates: a count of 205 or more (R3). -/
def saturates (count : Word16) : Bool := decide (205 ≤ count.toNat)

/-- V after a window (R4). -/
def nextV (v sample : Nat) : Nat := (3 * v + sample) / 4

/-- OVERSPEED and the clean-window count after a window (R5). -/
def nextOverspeed (count : Word16) (b : Belt) : Belt :=
  if saturates count then { b with overspeed := true, cleanWindows := 0 }
  else if b.overspeed then
    if 20 ≤ b.cleanWindows + 1 then { b with overspeed := false, cleanWindows := 0 }
    else { b with cleanWindows := b.cleanWindows + 1 }
  else b

/-- The run guard has elapsed; a window ending with the guard's 1000 ms counts (R14; log 31). -/
def guardElapsed (b : Belt) : Bool :=
  match b.runGuard with
  | none => true
  | some ms => decide (guardLength ≤ ms)

/-- The zero-window count after a window, before the loss is looked for (R14). -/
def nextZeroWindows (b : Belt) : Nat :=
  if b.state = .running ∧ guardElapsed b then
    if b.windowCount = 0 then b.zeroWindows + 1 else 0
  else b.zeroWindows

/-- The belt unit at the end of a window (R3, R4, R5, R14). -/
def endWindow (b : Belt) : Belt :=
  { nextOverspeed b.windowCount b with
    v := nextV b.v (speedSample b.windowCount)
    zeroWindows := nextZeroWindows b
    windowCount := 0
    windowMs := 0 }

/-- An entry marked SUSPECT (R61). -/
def suspectEntry (e : Entry) : Entry :=
  if e.isTest then e else { e with fireAt := none, late := false, state := .suspect }

/-- The token is aborted unless it has fired (R67). -/
def abortUnfired (s : State) : State :=
  if allGates.any fun g => tokenUnfired g s then endToken .aborted s else s

/-- Every fire queue is emptied (R136). -/
def emptyQueues (s : State) : State :=
  { s with gates := mapTable (fun g => { g with queue := [] }) s.gates }

/-- ENCODER_LOSS in the set. -/
def addLoss (c : Causes) : Causes := { c with encoderLoss := true }

/-- STOP_CHAIN in the set. -/
def addChain (c : Causes) : Causes := { c with stopChain := true }

/-- TAIL_FULL in the set. -/
def addTail (c : Causes) : Causes := { c with tailFull := true }

/-- ENCODER_LOSS is recorded: the belt halts, the zero-window count returns to 0, the entries are SUSPECT, an unfired token is aborted, the fire queues are emptied and the capture is abandoned (R14, R27, R61, R67, R136). -/
def encoderLoss (s : State) : State :=
  let s1 := (recordCause addLoss s).modBelt fun b => { b with zeroWindows := 0 }
  let s2 := abortUnfired s1
  let s3 := emptyQueues (s2.withMap (s2.map.map suspectEntry))
  (abandonCapture s3).raisePart .encoderLosses

/-- The end of a window, with the loss where the eighth zero window ends (R3, R14). -/
def takeWindowEnd (s : State) : State :=
  let s1 := s.modBelt endWindow
  if s1.belt.state = .running ∧ 8 ≤ s1.belt.zeroWindows then encoderLoss s1 else s1

/-- SPEED_WINDOW_END (R3). -/
def execSpeedWindowEnd (s : State) : Result :=
  event (fun s => if windowLength ≤ s.belt.windowMs then takeWindowEnd s else s) s

/-- The run guard stands at 1000 ms. -/
def guardDue (b : Belt) : Bool :=
  match b.runGuard with
  | some ms => decide (guardLength ≤ ms)
  | none => false

/-- RUN_GUARD_ELAPSED (R6). -/
def execRunGuardElapsed (s : State) : Result :=
  event (fun s => if guardDue s.belt then s.modBelt fun b => { b with runGuard := none } else s) s

/-! ### Idle stop (R9, R10) -/

/-- The idle timer has reached the idle time (R9). -/
def idleDue (s : State) : Bool :=
  s.isRunning && s.settings.idleTime != 0 && decide (1000 * s.settings.idleTime ≤ s.belt.idleMs)

/-- The belt enters IDLE_STOPPED where the idle timer has reached the idle time (R9). -/
def idleStop (s : State) : State := if idleDue s then standStill .idleStopped s else s

/-- IDLE_EXPIRY (R9). -/
def execIdleExpiry (s : State) : Result := event idleStop s

/-- The level of the infeed eye. -/
def setInfeedEye (blocked : Bool) (s : State) : State := s.modPins fun p => { p with infeedEye := blocked }

/-- The filter of the infeed eye starts afresh (R10). -/
def restartInfeed (s : State) : State := s.modBelt fun b => { b with infeedMs := 0 }

/-- INFEED_EYE_CHANGE (R9, R10). -/
def execInfeedEyeChange (blocked : Bool) (s : State) : Result :=
  inputEvent (setInfeedEye blocked) (if s.pins.infeedEye = blocked then id else restartInfeed) s

/-- The infeed eye has been blocked for 50 ms while the belt is IDLE_STOPPED (R10). -/
def wakeDue (s : State) : Bool :=
  s.belt.state == .idleStopped && s.pins.infeedEye && decide (50 ≤ s.belt.infeedMs)

/-- INFEED_WAKE (R10). -/
def execInfeedWake (s : State) : Result := event (fun s => if wakeDue s then enterRunning s else s) s

/-! ### Halts (R11 to R13) -/

/-- The level of the stop chain. -/
def setChain (isOpen : Bool) (s : State) : State := s.modPins fun p => { p with chainOpen := isOpen }

/-- STOP_CHAIN_OPEN (R12). -/
def execStopChainOpen (s : State) : Result :=
  inputEvent (setChain true) (if s.pins.chainOpen then id else recordCause addChain) s

/-- STOP_CHAIN_CLOSE (R12): it removes nothing. -/
def execStopChainClose (s : State) : Result := inputEvent (setChain false) id s

/-- The level of the tail-full input. -/
def setTailInput (asserted : Bool) (s : State) : State := s.modPins fun p => { p with tailFull := asserted }

/-- The tail-full filter starts afresh (R13). -/
def restartTail (s : State) : State := s.modBelt fun b => { b with tailMs := 0 }

/-- TAIL_FULL_INPUT_CHANGE (R13). -/
def execTailFullInputChange (asserted : Bool) (s : State) : Result :=
  inputEvent (setTailInput asserted) (if s.pins.tailFull = asserted then id else restartTail) s

/-- The input has been asserted for 50 ms with the level CLEAR, on a commissioned belt (R13). -/
def tailAssertDue (s : State) : Bool :=
  s.commissioned && s.pins.tailFull && !s.belt.tailFull && decide (50 ≤ s.belt.tailMs)

/-- TAIL_FULL_ASSERTED (R13). -/
def execTailFullAsserted (s : State) : Result :=
  event (fun s =>
    if tailAssertDue s then recordCause addTail (s.modBelt fun b => { b with tailFull := true }) else s) s

/-- The input has been clear for 2000 ms with the level ASSERTED (R13). -/
def tailClearDue (s : State) : Bool :=
  s.commissioned && !s.pins.tailFull && s.belt.tailFull && decide (2000 ≤ s.belt.tailMs)

/-- TAIL_FULL leaves the set, and a HALTED belt with an empty set resumes (R13). -/
def removeTail (s : State) : State :=
  let s1 := s.modBelt fun b => { b with tailFull := false, causes := { b.causes with tailFull := false } }
  if s1.belt.state = .halted ∧ s1.belt.causes = {} then enterRunning s1 else s1

/-- TAIL_FULL_CLEARED (R13). -/
def execTailFullCleared (s : State) : Result :=
  event (fun s => if tailClearDue s then removeTail s else s) s

/-! ### START, STOP, RESUME (R7, R8, R15) -/

/-- A reply with the belt state and the halt cause set after the request (R7). -/
def beltReply (status : Status) (s : State) : Answer := ⟨s, status, beltBytes s.belt⟩

/-- START (R7). -/
def handleStart (_ : Sender) (_ : List Byte) (s : State) : Answer :=
  match s.belt.state with
  | .stopped | .idleStopped =>
    if s.pins.chainOpen || s.belt.tailFull then beltReply .state s else beltReply .done (enterRunning s)
  | .running | .halted | .unconfigured => beltReply .state s

/-- STOP (R8). -/
def handleStop (_ : Sender) (_ : List Byte) (s : State) : Answer :=
  match s.belt.state with
  | .running | .idleStopped => beltReply .done (standStill .stopped s)
  | .stopped => beltReply .done s
  | .halted | .unconfigured => beltReply .state s

/-- Every recorded cause is clearable (R15). -/
def clearable (s : State) : Bool :=
  !s.belt.causes.tailFull && !(s.belt.causes.stopChain && s.pins.chainOpen)

/-- A SUSPECT entry is discarded: its reservation is released and SUSPECT_DISCARDS counted (R63). -/
def discardSuspect (e : Entry) (s : State) : State :=
  let s1 := match e.dest with
    | some (.gateDest d) => unreserve d (s.dropEntry e.ref)
    | some .tail => s.dropEntry e.ref
    | none => s.dropEntry e.ref
  s1.raisePart .suspectDiscards

/-- The SUSPECT entries are discarded in map order (R63). -/
def discardSuspects (s : State) : State :=
  forEach (s.map.filter fun e => e.state == .suspect) discardSuspect s

/-- RESUME of a HALTED belt whose causes are clearable (R15). -/
def resumeHalted (s : State) : State :=
  let s1 := s.modBelt fun b => { b with causes := {} }
  enterRunning (if s.belt.causes.encoderLoss then discardSuspects s1 else s1)

/-- RESUME (R15). -/
def handleResume (_ : Sender) (_ : List Byte) (s : State) : Answer :=
  match s.belt.state with
  | .halted => if clearable s then beltReply .done (resumeHalted s) else beltReply .state s
  | .running => beltReply .done s
  | .stopped | .idleStopped | .unconfigured => beltReply .state s

/-- START (R7). -/
def execStart (p : Port) (tag : Byte) (pl : List Byte) (s : State) : Result :=
  frameEvent .start handleStart p tag pl s

/-- STOP (R8). -/
def execStop (p : Port) (tag : Byte) (pl : List Byte) (s : State) : Result :=
  frameEvent .stop handleStop p tag pl s

/-- RESUME (R15). -/
def execResume (p : Port) (tag : Byte) (pl : List Byte) (s : State) : Result :=
  frameEvent .resume handleResume p tag pl s

end Sys2Proof.Machine
end

