-- ==== Sys2Proof/Machine/Destinations.lean ====
section
/-! DEFINITION. The destination table (spec 06): the requests on destinations, the rack sensors and the refresh. -/

namespace Sys2Proof.Machine

/-! ### Requests (R99 to R106, R115) -/

/-- A reply that carries the destination's record after the request (R99, 9.2). -/
def recordReply (d : DestId) (status : Status) (s : State) : Answer := ⟨s, status, recordBytes (s.dest d)⟩

/-- A destination number outside D0..D23 is refused with ARGUMENT; otherwise the request's own rule (R99 check 1). -/
def withDest (pl : List Byte) (s : State) (f : DestId → Answer) : Answer :=
  match inRange? 24 (byteAt pl 0) with
  | none => refuse .argument s
  | some d => f d

/-- The bit of a sender in a claim eligibility (9.2). -/
def mayClaim (q : Sender) (r : Dest) : Bool := r.eligible.getLsbD (Sender.index q).val

/-- The record after a claim (R100). -/
def claimed (q : Sender) (r : Dest) : Dest := { r with owner := some q, state := .closed, free := 0 }

/-- CLAIM, its checks in order (R100). -/
def handleClaim (q : Sender) (pl : List Byte) (s : State) : Answer :=
  withDest pl s fun d =>
    let r := s.dest d
    if !r.configured || !(s.gate (destGate d)).configured then recordReply d .badConfig s
    else if r.owner.isSome then recordReply d .notOwner s
    else if !mayClaim q r then recordReply d .notEligible s
    else recordReply d .done (changeDest d (claimed q) s)

/-- The record after an OPEN (R101, R78). -/
def opened (n : Nat) (r : Dest) : Dest := { clearedRecord false r with state := .opened, free := n }

/-- OPEN (R101). -/
def handleOpen (q : Sender) (pl : List Byte) (s : State) : Answer :=
  withDest pl s fun d =>
    if (s.dest d).owner ≠ some q then recordReply d .notOwner s
    else
      match (s.dest d).state with
      | .closed | .draining => recordReply d .done (changeDest d (opened (byteAt pl 1)) s)
      | .opened | .releasing | .unclaimed => recordReply d .state s

/-- The record after a CLOSE of an OPEN destination (R102). -/
def closedRecord (r : Dest) : Dest :=
  { r with state := if r.reserved = 0 then .closed else .draining }

/-- CLOSE (R102). -/
def handleClose (q : Sender) (pl : List Byte) (s : State) : Answer :=
  withDest pl s fun d =>
    if (s.dest d).owner ≠ some q then recordReply d .notOwner s
    else
      match (s.dest d).state with
      | .opened => recordReply d .done (changeDest d closedRecord s)
      | .closed | .draining => recordReply d .done s
      | .releasing | .unclaimed => recordReply d .state s

/-- The record after a SET-SLOTS (R103, R78). -/
def slotted (n : Nat) (r : Dest) : Dest := { clearedRecord true r with free := n }

/-- SET-SLOTS (R103). -/
def handleSetSlots (q : Sender) (pl : List Byte) (s : State) : Answer :=
  withDest pl s fun d =>
    if (s.dest d).owner ≠ some q then recordReply d .notOwner s
    else
      match (s.dest d).state with
      | .closed | .opened | .draining => recordReply d .done (changeDest d (slotted (byteAt pl 1)) s)
      | .releasing | .unclaimed => recordReply d .state s

/-- CLEAR-FULL (R104): from the owner or the site; UNCLAIMED is NOT_OWNER for a station and STATE for the site. -/
def handleClearFull (q : Sender) (pl : List Byte) (s : State) : Answer :=
  withDest pl s fun d =>
    if (s.dest d).owner ≠ some q ∧ q ≠ .site then recordReply d .notOwner s
    else
      match (s.dest d).state with
      | .unclaimed => recordReply d .state s
      | .closed | .opened | .draining | .releasing =>
        recordReply d .done (changeDest d (clearedRecord true) s)

/-- RELEASE (R105). -/
def handleRelease (q : Sender) (pl : List Byte) (s : State) : Answer :=
  withDest pl s fun d =>
    if (s.dest d).owner ≠ some q then recordReply d .notOwner s
    else
      match (s.dest d).state with
      | .closed =>
        if (s.dest d).reserved = 0 then recordReply d .done (completeRelease d s)
        else recordReply d .busy s
      | .opened | .draining | .releasing | .unclaimed => recordReply d .state s

/-- Entry to RELEASING: the entries assigned to d are rerouted as one cascade, and the release completes at once where the queue is empty (R106). -/
def beginRelease (d : DestId) (s : State) : State :=
  let s1 := cascade [d] (changeDest d (fun r => { r with state := .releasing }) s)
  if (s1.dest d).awaiting = [] then completeRelease d s1 else s1

/-- FORCE-RELEASE (R106). -/
def handleForceRelease (_ : Sender) (pl : List Byte) (s : State) : Answer :=
  withDest pl s fun d =>
    match (s.dest d).state with
    | .closed | .opened | .draining => recordReply d .done (beginRelease d s)
    | .releasing => recordReply d .done s
    | .unclaimed => recordReply d .state s

/-- QUERY-DEST (R115). -/
def handleQueryDest (_ : Sender) (pl : List Byte) (s : State) : Answer :=
  withDest pl s fun d => ⟨s, .done, queryBytes (s.dest d)⟩

/-- CLAIM (R100). -/
def execClaim (p : Port) (tag : Byte) (pl : List Byte) (s : State) : Result :=
  frameEvent .claim handleClaim p tag pl s

/-- RELEASE (R105). -/
def execRelease (p : Port) (tag : Byte) (pl : List Byte) (s : State) : Result :=
  frameEvent .release handleRelease p tag pl s

/-- OPEN (R101). -/
def execOpenDest (p : Port) (tag : Byte) (pl : List Byte) (s : State) : Result :=
  frameEvent .openDest handleOpen p tag pl s

/-- CLOSE (R102). -/
def execCloseDest (p : Port) (tag : Byte) (pl : List Byte) (s : State) : Result :=
  frameEvent .closeDest handleClose p tag pl s

/-- SET_SLOTS (R103). -/
def execSetSlots (p : Port) (tag : Byte) (pl : List Byte) (s : State) : Result :=
  frameEvent .setSlots handleSetSlots p tag pl s

/-- CLEAR_FULL (R104). -/
def execClearFull (p : Port) (tag : Byte) (pl : List Byte) (s : State) : Result :=
  frameEvent .clearFull handleClearFull p tag pl s

/-- QUERY_DEST (R115). -/
def execQueryDest (p : Port) (tag : Byte) (pl : List Byte) (s : State) : Result :=
  frameEvent .queryDest handleQueryDest p tag pl s

/-- FORCE_RELEASE (R106). -/
def execForceRelease (p : Port) (tag : Byte) (pl : List Byte) (s : State) : Result :=
  frameEvent .forceRelease handleForceRelease p tag pl s

/-! ### Rack sensors (R108) -/

/-- The level of one rack sensor. -/
def setRackSensor (d : DestId) (asserted : Bool) (s : State) : State :=
  s.modPins fun p => { p with racks := p.racks.set d asserted }

/-- An edge of a configured destination's rack sensor: the filter starts afresh, and in EDGE mode a clear input re-arms (R108). -/
def rackEdge (asserted : Bool) (r : Dest) : Dest :=
  if r.configured then
    { r with
      rackMs := 0
      rearm := if r.mode = .edge ∧ asserted = false then .armed else r.rearm }
  else r

/-- RACK_SENSOR_CHANGE (R108). -/
def execRackSensorChange (d : DestId) (asserted : Bool) (s : State) : Result :=
  inputEvent (setRackSensor d asserted)
    (if s.rackSensor d = asserted then id else fun s => s.modDest d (rackEdge asserted)) s

/-- What the filtered input of a configured destination brings. -/
inductive RackOutcome where
  | nothing
  | setLevel
  | clearLevel
  | latch
deriving DecidableEq, Repr

/-- What an input that has been stable for 50 ms brings (R108). In EDGE mode an armed sensor latches, also where a latch was cleared during those 50 ms (log 41). -/
def rackOutcome (asserted : Bool) (r : Dest) : RackOutcome :=
  if r.configured ∧ 50 ≤ r.rackMs then
    match r.mode with
    | .level =>
      if asserted ∧ !r.holds.full then .setLevel
      else if !asserted ∧ r.holds.full then .clearLevel
      else .nothing
    | .edge => if asserted ∧ r.rearm = .armed then .latch else .nothing
  else .nothing

/-- FULL is cleared. -/
def loseFull (r : Dest) : Dest := { r with holds := { r.holds with full := false } }

/-- A destination gains FULL, with the reroutes of R107. -/
def gainFull (d : DestId) (s : State) : State := gainRerouting Holds.full setFull [d] s

/-- What the outcome of the filter does (R108). -/
def applyRack (d : DestId) : RackOutcome → State → State
  | .nothing, s => s
  | .setLevel, s => gainFull d s
  | .clearLevel, s => changeDest d loseFull s
  | .latch, s => gainFull d (s.modDest d fun r => { r with rearm := .waitingForClear })

/-- RACK_SENSOR_SETTLED (R108). -/
def execRackSensorSettled (d : DestId) (s : State) : Result :=
  event (fun s => applyRack d (rackOutcome (s.rackSensor d) (s.dest d)) s) s

/-! ### Refresh (R115) -/

/-- DEST_STATE_REFRESH (R115). -/
def execDestStateRefresh (s : State) : Result :=
  event (fun s =>
    if 1000 ≤ s.refreshMs then forEach allDests offerDest { s with refreshMs := 0 } else s) s

end Sys2Proof.Machine
end

