-- ==== Sys2Proof/Machine/Site.lean ====
section
/-! DEFINITION. The site's configuration requests, COMMISSION, RESTART and READ-MAP (spec 10; R68, R70). -/

namespace Sys2Proof.Machine

/-! ### The geometry checks (R183) -/

/-- The configured gates, in belt order. -/
def configuredGates (gates : Vector Gate 12) : List Gate := gates.toList.filter fun g => g.configured

/-- Check 2: D and D − A rise strictly from each configured gate to the next. -/
def risingGates : List Gate → Bool
  | [] => true
  | [_] => true
  | g :: h :: rest =>
    decide (g.d < h.d) && decide ((g.d : Int) - g.a < (h.d : Int) - h.a) && risingGates (h :: rest)

/-- Check 4: W + A + 1200 < D at the first configured gate. -/
def windowFits (w : Nat) : List Gate → Bool
  | [] => true
  | g :: _ => decide (w + g.a + 1200 < g.d)

/-- Check 5: D_T is at least the largest configured D + 1300. -/
def tailFits (dT : Nat) (l : List Gate) : Bool := l.all fun g => decide (g.d + 1300 ≤ dT)

/-- Every destination that a cell or a site list names. -/
def listedDests (r : Routes) : List DestId := r.cells.toList.flatten ++ r.overflow ++ r.breakage

/-- Check 6: every listed destination lies at a configured gate. -/
def listsFit (gates : Vector Gate 12) (r : Routes) : Bool :=
  (listedDests r).all fun d => (gates[destGate d]).configured

/-- The six checks with their numbers. -/
def geometryChecks (gates : Vector Gate 12) (t : Settings) (r : Routes) : List (Nat × Bool) :=
  let l := configuredGates gates
  [(1, !l.isEmpty), (2, risingGates l), (3, l.all fun g => decide (g.a + 1200 < g.d)),
   (4, windowFits t.w l), (5, tailFits t.dT l), (6, listsFit gates r)]

/-- The number of the first check that fails. -/
def firstFailed (l : List (Nat × Bool)) : Option Nat := (l.find? fun c => !c.2).map Prod.fst

/-! ### SET-BELT (R180) -/

/-- A value brought to the nearer end of its range. -/
def clampTo (lo hi n : Nat) : Nat := max lo (min n hi)

/-- The five values of a SET-BELT (9.2). -/
def readSettings (pl : List Byte) : Settings :=
  { dT := wordAt pl 0, w := wordAt pl 2, idleTime := wordAt pl 4, threshold := byteAt pl 6, b := wordAt pl 7 }

/-- Step 1: the clamp. -/
def clampSettings (t : Settings) : Settings :=
  { dT := clampTo 3000 65000 t.dT
    w := clampTo 100 4000 t.w
    idleTime := clampTo 0 600 t.idleTime
    threshold := clampTo 0 100 t.threshold
    b := clampTo 500 10000 t.b }

/-- The belt runs or the map holds an entry, so geometry may not change (R119, R180). -/
def geometryBusy (s : State) : Bool := s.isRunning || !s.map.isEmpty

/-- Whether D_T or W differs. -/
def distancesDiffer (t u : Settings) : Bool := t.dT != u.dT || t.w != u.w

/-- DONE, or DONE_CLAMPED. -/
def clampStatus (clamped : Bool) : Status := if clamped then .doneClamped else .done

/-- The destinations whose block timers already stand at the present B (R148). -/
def blocksDue (s : State) : List DestId := allDests.filter (blockDue s)

/-- The values are stored; the idle time acts at once on the idle timer and B on every block timer (R9, R148; log 19). -/
def storeSettings (t : Settings) (s : State) : State :=
  let s1 := idleStop { s with settings := t }
  gainRerouting Holds.blocked setBlocked (blocksDue s1) s1

/-- SET-BELT (R180). A refusal by the geometry carries the stored values and then the number of the check (log 15). -/
def handleSetBelt (_ : Sender) (pl : List Byte) (s : State) : Answer :=
  let asked := readSettings pl
  let t := clampSettings asked
  let changes := distancesDiffer s.settings t
  let failed := firstFailed (((geometryChecks s.gates t s.routes).drop 3).take 2)
  if changes && geometryBusy s then ⟨s, .busy, setBeltBytes s.settings⟩
  else
    match (if changes && s.commissioned then failed else none) with
    | some n => ⟨s, .badConfig, setBeltBytes s.settings ++ [byteOf n]⟩
    | none => ⟨storeSettings t s, clampStatus (t != asked), setBeltBytes t⟩

/-! ### SET-GATE (R118, R119, R181) -/

/-- The gate record as a SET-GATE asks for it, over the fields it does not carry (9.2). -/
def readGate (pl : List Byte) (g : Gate) : Gate :=
  { g with
    configured := yesAt pl 1
    d := wordAt pl 2
    a := wordAt pl 4
    l := byteAt pl 6
    t := wordAt pl 7
    c := wordAt pl 9 }

/-- The ranges of a gate's fields (R118, R119). -/
def clampGate (g : Gate) : Gate :=
  { g with
    d := clampTo 2000 60000 g.d
    a := clampTo 64 4095 g.a
    l := clampTo 10 250 g.l
    t := clampTo 50 1000 g.t
    c := clampTo 100 2000 g.c }

/-- Whether D_g, A_g or the configured flag differs. -/
def gateGeometryDiffers (g h : Gate) : Bool := g.d != h.d || g.a != h.a || g.configured != h.configured

/-- Either destination of a gate is claimed. -/
def gateClaimed (g : GateId) (s : State) : Bool :=
  (s.dest (gateDest g .left)).owner.isSome || (s.dest (gateDest g .right)).owner.isSome

/-- The fields are stored; a gate that becomes configured on a commissioned belt is watched from then on (R151). -/
def storeGate (g : GateId) (h : Gate) (s : State) : State :=
  let s1 := s.modGate g fun _ => h
  if h.configured && !(s.gate g).configured then beginWatch g s1 else s1

/-- A reply with the gate's fields as they stand after the request. -/
def gateReply (g : GateId) (status : Status) (s : State) : Answer := ⟨s, status, setGateBytes g (s.gate g)⟩

/-- SET-GATE for a gate number in range (R181 steps 2 to 6; log 15 for the place of the check number). -/
def setGateOf (g : GateId) (pl : List Byte) (s : State) : Answer :=
  let asked := readGate pl (s.gate g)
  let h := clampGate asked
  let changes := gateGeometryDiffers (s.gate g) h
  let failed := firstFailed (geometryChecks (s.gates.set g h) s.settings s.routes)
  if changes && geometryBusy s then gateReply g .busy s
  else if (s.gate g).configured && !h.configured && gateClaimed g s then gateReply g .state s
  else
    match (if changes && s.commissioned then failed else none) with
    | some n => ⟨s, .badConfig, setGateBytes g (s.gate g) ++ [byteOf n]⟩
    | none => gateReply g (clampStatus (h != asked)) (storeGate g h s)

/-- SET-GATE (R181). -/
def handleSetGate (_ : Sender) (pl : List Byte) (s : State) : Answer :=
  match inRange? 12 (byteAt pl 0) with
  | none => refuse .argument s
  | some g => setGateOf g pl s

/-! ### SET-DEST (R98, R182) -/

/-- The rack mode code; any value but 0 and 1 is stored as EDGE (R182). -/
def rackModeOf (n : Nat) : RackMode := if n = 0 then .level else .edge

/-- FULL, the re-arm state and the filter after a change of the configured flag or of the mode (R98, R108). -/
def rackAfter (configured : Bool) (mode : RackMode) (asserted : Bool) (r : Dest) : Dest :=
  if configured ≠ r.configured then
    { r with
      holds := { r.holds with full := r.holds.full && configured }
      rearm := .armed
      rackMs := 0 }
  else if mode = r.mode then r
  else { r with rearm := if mode = .edge ∧ r.holds.full ∧ asserted then .waitingForClear else .armed }

/-- The record a SET-DEST writes (R98, R182). -/
def setDestRecord (pl : List Byte) (asserted : Bool) (r : Dest) : Dest :=
  let configured := yesAt pl 1
  let mode := rackModeOf (byteAt pl 5)
  { rackAfter configured mode asserted r with
    configured := configured
    classes := BitVec.ofNat 14 (wordAt pl 2)
    eligible := BitVec.ofNat 7 (byteAt pl 4)
    mode := mode
    margin := min (byteAt pl 6) 3 }

/-- The fields are stored; from EDGE to LEVEL, FULL takes a level the input has held for 50 ms (R108). -/
def storeDest (d : DestId) (pl : List Byte) (s : State) : State :=
  let s1 := changeDest d (setDestRecord pl (s.rackSensor d)) s
  if (s.dest d).mode = .edge ∧ (s1.dest d).mode = .level then
    applyRack d (rackOutcome (s1.rackSensor d) (s1.dest d)) s1
  else s1

/-- SET-DEST (R98, R182). -/
def handleSetDest (_ : Sender) (pl : List Byte) (s : State) : Answer :=
  match inRange? 24 (byteAt pl 0) with
  | none => refuse .argument s
  | some d =>
    if yesAt pl 1 ≠ (s.dest d).configured ∧ (s.dest d).owner.isSome then
      ⟨s, .state, setDestBytes (s.dest d)⟩
    else
      let s1 := storeDest d pl s
      ⟨s1, clampStatus (decide (3 < byteAt pl 6) || decide (1 < byteAt pl 5)), setDestBytes (s1.dest d)⟩

/-! ### COMMISSION (R183, R184) -/

/-- The belt leaves UNCONFIGURED: the tail-full filter and the watch of every gate begin (R184). -/
def commissionBelt (s : State) : State :=
  forEach allGates beginWatch ((standStill .stopped s).modBelt fun b => { b with tailMs := 0 })

/-- COMMISSION (R183). -/
def handleCommission (_ : Sender) (_ : List Byte) (s : State) : Answer :=
  if s.commissioned then refuse .state s
  else
    match firstFailed (geometryChecks s.gates s.settings s.routes) with
    | some n => ⟨s, .badConfig, [byteOf n]⟩
    | none => ⟨commissionBelt s, .done, []⟩

/-! ### RESTART (R187) -/

/-- The belt unit's part (R18). -/
def restartBelt (b : Belt) : Belt :=
  { b with
    v := 0
    zeroWindows := 0
    idleMs := 0
    runGuard := none
    motor := false
    state := if b.state = .halted then .halted else .stopped }

/-- A gate's part: its queue is emptied, and the checks in progress no longer wait for a token (R138, R155, R67). -/
def restartGate (g : Gate) : Gate :=
  { g with queue := [], checks := g.checks.map fun c => { c with forToken := false } }

/-- A destination's awaiting-confirm queue and R_d (R155, R95). -/
def restartDest (r : Dest) : Dest := { r with awaiting := [], reserved := 0 }

/-- What RESTART does to a destination by its state (R117). -/
def settleRestarted (d : DestId) (s : State) : State :=
  match (s.dest d).state with
  | .draining => changeDest d (fun r => { r with state := .closed }) s
  | .releasing => completeRelease d s
  | .unclaimed | .closed | .opened => s

/-- RESTART in every block (R187). -/
def restartPart (s : State) : State :=
  let s1 := endToken .aborted s
  let s2 := restartReader (s1.modBelt restartBelt)
  let s3 := { s2 with
    map := []
    gates := mapTable restartGate s2.gates
    dests := mapTable restartDest s2.dests }
  forEach allDests settleRestarted s3

/-- RESTART (R187). -/
def handleRestart (_ : Sender) (_ : List Byte) (s : State) : Answer := beltReply .done (restartPart s)

/-! ### READ-MAP (R68) -/

/-- How many free bytes an entry's reply uses (log 12). -/
def entryDraws (e : Entry) : Nat := if e.length.isNone || e.fireAt.isNone then 5 else 0

/-- READ-MAP (R68). -/
def handleReadMap (_ : Sender) (pl : List Byte) (s : State) : Answer :=
  match s.map[byteAt pl 0]? with
  | none => ⟨s, .done, [byteOf s.map.length, 0]⟩
  | some e => ⟨s.drew (entryDraws e), .done, [byteOf s.map.length, 1] ++ entryBytes s e⟩

/-- SET_BELT (R180). -/
def execSetBelt (p : Port) (tag : Byte) (pl : List Byte) (s : State) : Result :=
  frameEvent .setBelt handleSetBelt p tag pl s

/-- SET_GATE (R181). -/
def execSetGate (p : Port) (tag : Byte) (pl : List Byte) (s : State) : Result :=
  frameEvent .setGate handleSetGate p tag pl s

/-- SET_DEST (R182). -/
def execSetDest (p : Port) (tag : Byte) (pl : List Byte) (s : State) : Result :=
  frameEvent .setDest handleSetDest p tag pl s

/-- COMMISSION (R183). -/
def execCommission (p : Port) (tag : Byte) (pl : List Byte) (s : State) : Result :=
  frameEvent .commission handleCommission p tag pl s

/-- RESTART (R187). -/
def execRestart (p : Port) (tag : Byte) (pl : List Byte) (s : State) : Result :=
  frameEvent .restart handleRestart p tag pl s

/-- READ_MAP (R68). -/
def execReadMap (p : Port) (tag : Byte) (pl : List Byte) (s : State) : Result :=
  frameEvent .readMap handleReadMap p tag pl s

end Sys2Proof.Machine
end

