-- ==== Sys2Proof/Machine/Frames.lean ====
section
/-! DEFINITION. The receivers (R158, R159): bytes of the line, bad frames and their re-examination, and the good frames found there. -/

namespace Sys2Proof.Machine

/-- The owning block's handler of each kind; an ITEM-REPORT is no request (9.5, 10.2, 11). -/
def handlerOf : Kind → Sender → List Byte → State → Answer
  | .hello => handleHello
  | .goodbye => handleGoodbye
  | .claim => handleClaim
  | .release => handleRelease
  | .openDest => handleOpen
  | .closeDest => handleClose
  | .setSlots => handleSetSlots
  | .clearFull => handleClearFull
  | .queryDest => handleQueryDest
  | .forceRelease => handleForceRelease
  | .writeRoute => handleWriteRoute
  | .readRoute => handleReadRoute
  | .setList => handleSetList
  | .registerPattern => handleRegisterPattern
  | .dropPattern => handleDropPattern
  | .clearPatterns => handleClearPatterns
  | .setBelt => handleSetBelt
  | .setGate => handleSetGate
  | .setDest => handleSetDest
  | .commission => handleCommission
  | .start => handleStart
  | .stop => handleStop
  | .resume => handleResume
  | .restart => handleRestart
  | .testFire => handleTestFire
  | .readTest => handleReadTest
  | .takeGateOut => handleTakeGateOut
  | .returnGate => handleReturnGate
  | .readFault => handleReadFault
  | .readMap => handleReadMap
  | .snapshot => handleSnapshot
  | .snapshotClear => handleSnapshotClear
  | .readSnapshot => handleReadSnapshot
  | .readConditions => handleReadConditions
  | .setEnables => handleSetEnables
  | .itemReport => fun _ _ s => refuse .unknownKind s

/-- A good frame, classified by its port and kind (R162). -/
def takeGoodFrame (p : Port) (kind tag : Byte) (pl : List Byte) (s : State) : State :=
  match Kind.ofCode kind with
  | some .itemReport => takeItemReport p tag pl s
  | some k => takeRequest k (handlerOf k) p tag pl s
  | none => takeUnknown p kind tag s

/-- What the bytes kept since the sync amount to. -/
inductive Assembly where
  | incomplete
  | bad
  | good (kind tag : Byte) (payload : List Byte)

/-- LENGTH, BODY and CHECK over the bytes after the sync (R159). -/
def assemble (l : List Byte) : Assembly :=
  let n := byteAt l 0
  if n < 2 ∨ 50 < n then .bad
  else if l.length < n + 2 then .incomplete
  else if l.getD (n + 1) 0 = crc8 (l.take (n + 1)) then
    .good (l.getD 1 0) (l.getD 2 0) ((l.take (n + 1)).drop 3)
  else .bad

/-- A frame that is ending as bad is counted, with the receiver in HUNT (R159). -/
def discardFrame (p : Port) (s : State) : State := badOnPort p (hunt p s)

/-- Bytes that arrived without a line error, as items of the line. -/
def asItems (l : List Byte) : List LineItem := l.map LineItem.byte

/-- One byte into a port's receiver: the state after, and what to re-examine where a frame ended as bad (R159). The gap timer reads `gap` where a frame is in progress after. After each good frame the conditions of the idle timer apply, so a SET-BELT behind it in the same event compares the timer as R9 has it. -/
def stepByte (gap : Option Nat) (p : Port) (b : Byte) (s : State) : State × List LineItem :=
  match (s.receiver p).kept with
  | none => (if b = syncByte then s.modReceiver p fun _ => ⟨some [], gap⟩ else s, [])
  | some l =>
    let l' := l ++ [b]
    match assemble l' with
    | .incomplete => (s.modReceiver p fun _ => ⟨some l', gap⟩, [])
    | .good kind tag pl => (settleIdle (takeGoodFrame p kind tag pl (hunt p s)), [])
    | .bad => (discardFrame p s, asItems l')

/-- A line error into a port's receiver: ignored in HUNT, and otherwise the end of the frame as bad, with the byte of the error the last of those to re-examine (R158, R159; log 7). -/
def stepError (p : Port) (s : State) : State × List LineItem :=
  match (s.receiver p).kept with
  | none => (s, [])
  | some l => (discardFrame p s, asItems l ++ [.lineError])

/-- One item of the line into a port's receiver (R158, R159). -/
def stepItem (gap : Option Nat) (p : Port) (s : State) : LineItem → State × List LineItem
  | .byte b => stepByte gap p b s
  | .lineError => stepError p s

/-- Re-examination of what was received, taken as received without gap (R159). Each bad attempt discards one sync, so the number of steps allowed is never used up. Good frames found here are taken one after another in this one event, and the free transmitters take replies only as it ends, so the 8-reply limit counts every reply of the event (log 42). -/
def reexamine : Nat → Port → List LineItem → State → State
  | 0, _, _, s => s
  | _ + 1, _, [], s => s
  | n + 1, p, i :: rest, s =>
    let r := stepItem none p s i
    reexamine n p (r.2 ++ rest) r.1

/-- Enough steps to re-examine n items. -/
def reexamineSteps (n : Nat) : Nat := (n + 2) * (n + 2)

/-- Every item of a list is re-examined. -/
def reexamineAll (p : Port) (l : List LineItem) (s : State) : State := reexamine (reexamineSteps l.length) p l s

/-- What the line delivers on a port (R158, R159). -/
def putItem (p : Port) (s : State) (i : LineItem) : State :=
  let r := stepItem (some 0) p s i
  reexamineAll p r.2 r.1

/-- A frame in progress ends as bad with no byte, and the bytes after its sync are re-examined (R159). -/
def endBad (p : Port) (s : State) : State :=
  match (s.receiver p).kept with
  | none => s
  | some l => reexamineAll p (asItems l) (discardFrame p s)

/-- BAD_FRAME (R159): what the line delivers up to the end of the bad frame (log 7). The whole list is one event: good frames that it delivers, as they stand in it or by re-examination, are taken one after another, and the free transmitters take replies and notices only as the event ends, so every reply of the event counts for the 8-reply limit of R163 and every notice for the 16 places of R174. That is the model's choice (log 42). -/
def execBadFrame (p : Port) (line : List LineItem) (s : State) : Result :=
  event (fun s => line.foldl (putItem p) s) s

/-- The gap since the last byte of a frame in progress is more than 5 ms (R159; log 9). -/
def gapDue (r : Receiver) : Bool :=
  match r.gapMs with
  | some ms => r.kept.isSome && decide (5 < ms)
  | none => false

/-- FRAME_GAP_TIMEOUT (R159). -/
def execFrameGapTimeout (p : Port) (s : State) : Result :=
  event (fun s => if gapDue (s.receiver p) then endBad p s else s) s

/-- UNKNOWN_KIND (R162): a good frame of any kind, answered by its classification. -/
def execUnknownKind (p : Port) (kind tag : Byte) (pl : List Byte) (s : State) : Result :=
  event (fun s => takeGoodFrame p kind tag pl (hunt p s)) s

end Sys2Proof.Machine
end

