-- ==== Sys2Proof/Machine/Reset.lean ====
section
/-! DEFINITION. Power-on reset, the RESET pin and their release (R178 with R17, R28, R36, R50, R69, R95, R116, R137, R156, R177, R194). -/

namespace Sys2Proof.Machine

/-- Every block at its reset values, with the reset in force. The input levels are the plant's, and the queue and the free-value counters are the model's own. -/
def resetPart (s : State) : State :=
  { State.reset with
    pins := s.pins
    inReset := true
    draws := s.draws
    orders := s.orders
    pending := s.pending }

/-- POWER_ON_RESET (R178). -/
def execPowerOnReset (s : State) : Result := .next (resetPart s)

/-- RESET_PIN (R178). -/
def execResetPin (s : State) : Result := .next (resetPart s)

/-- The eye state at release: SEEN if blocked, CLEAR if clear (R156). -/
def eyeAtRelease (blocked : Bool) : EyeState := if blocked then .seen else .clear

/-- The confirm eyes start from their levels (R156). -/
def startEyes (s : State) : State :=
  forEach allDests (fun d s => s.modDest d fun r => { r with eye := eyeAtRelease (s.confirmEye d) }) s

/-- Every block begins, from the input levels seen at the release (R28, R156, R178). -/
def releasePart (s : State) : State :=
  (startEyes { s with inReset := false }).modReader fun r =>
    { r with capture := captureAtStart s.pins.readEye }

/-- RESET_RELEASE (R178). -/
def execResetRelease (s : State) : Result := .next (if s.inReset then settle (releasePart s) else s)

end Sys2Proof.Machine
end

