-- ==== Sys2Proof/Machine/Dispatch.lean ====
section
/-! DEFINITION. The meaning of every command: one arm for each constructor of Instr, in the order of spec/opcode_table.json. -/

namespace Sys2Proof.Machine

/-- The effect of a command on everything but the queue. -/
def exec (i : Instr) (s : State) : Host.Outcome State Fault Refusal :=
  match i with
  | .powerOnReset => Sys2Proof.Machine.execPowerOnReset s
  | .resetPin => Sys2Proof.Machine.execResetPin s
  | .resetRelease => Sys2Proof.Machine.execResetRelease s
  | .encoderPulse => Sys2Proof.Machine.execEncoderPulse s
  | .speedWindowEnd => Sys2Proof.Machine.execSpeedWindowEnd s
  | .runGuardElapsed => Sys2Proof.Machine.execRunGuardElapsed s
  | .idleExpiry => Sys2Proof.Machine.execIdleExpiry s
  | .infeedEyeChange b => Sys2Proof.Machine.execInfeedEyeChange b s
  | .infeedWake => Sys2Proof.Machine.execInfeedWake s
  | .stopChainOpen => Sys2Proof.Machine.execStopChainOpen s
  | .tailFullInputChange b => Sys2Proof.Machine.execTailFullInputChange b s
  | .tailFullAsserted => Sys2Proof.Machine.execTailFullAsserted s
  | .tailFullCleared => Sys2Proof.Machine.execTailFullCleared s
  | .readEyeBlock => Sys2Proof.Machine.execReadEyeBlock s
  | .readEyeClear => Sys2Proof.Machine.execReadEyeClear s
  | .captureCommit => Sys2Proof.Machine.execCaptureCommit s
  | .lengthClamp => Sys2Proof.Machine.execLengthClamp s
  | .clearWaitEnd => Sys2Proof.Machine.execClearWaitEnd s
  | .itemReport p tg pl => Sys2Proof.Machine.execItemReport p tg pl s
  | .idWindowExpiry e => Sys2Proof.Machine.execIdWindowExpiry e s
  | .identifierSilent => Sys2Proof.Machine.execIdentifierSilent s
  | .arming e => Sys2Proof.Machine.execArming e s
  | .fireTarget g => Sys2Proof.Machine.execFireTarget g s
  | .tailArrival e => Sys2Proof.Machine.execTailArrival e s
  | .gateDriveOff g => Sys2Proof.Machine.execGateDriveOff g s
  | .gateCycleEnd g => Sys2Proof.Machine.execGateCycleEnd g s
  | .extendedSwitchChange g sd b => Sys2Proof.Machine.execExtendedSwitchChange g sd b s
  | .actuatorCheckDeadline g => Sys2Proof.Machine.execActuatorCheckDeadline g s
  | .confirmEyeChange d b => Sys2Proof.Machine.execConfirmEyeChange d b s
  | .confirmEyeSighting d => Sys2Proof.Machine.execConfirmEyeSighting d s
  | .confirmEyeClearSettled d => Sys2Proof.Machine.execConfirmEyeClearSettled d s
  | .confirmWindowExpiry d t => Sys2Proof.Machine.execConfirmWindowExpiry d t s
  | .chuteBlock d => Sys2Proof.Machine.execChuteBlock d s
  | .chuteBlockClear d => Sys2Proof.Machine.execChuteBlockClear d s
  | .rackSensorChange d b => Sys2Proof.Machine.execRackSensorChange d b s
  | .rackSensorSettled d => Sys2Proof.Machine.execRackSensorSettled d s
  | .badFrame p l => Sys2Proof.Machine.execBadFrame p l s
  | .frameGapTimeout p => Sys2Proof.Machine.execFrameGapTimeout p s
  | .unknownKind p k tg pl => Sys2Proof.Machine.execUnknownKind p k tg pl s
  | .frameSent p => Sys2Proof.Machine.execFrameSent p s
  | .linkSilence1000 p => Sys2Proof.Machine.execLinkSilence1000 p s
  | .linkLapse p => Sys2Proof.Machine.execLinkLapse p s
  | .destStateRefresh => Sys2Proof.Machine.execDestStateRefresh s
  | .hello p tg pl => Sys2Proof.Machine.execHello p tg pl s
  | .goodbye p tg pl => Sys2Proof.Machine.execGoodbye p tg pl s
  | .claim p tg pl => Sys2Proof.Machine.execClaim p tg pl s
  | .release p tg pl => Sys2Proof.Machine.execRelease p tg pl s
  | .openDest p tg pl => Sys2Proof.Machine.execOpenDest p tg pl s
  | .closeDest p tg pl => Sys2Proof.Machine.execCloseDest p tg pl s
  | .setSlots p tg pl => Sys2Proof.Machine.execSetSlots p tg pl s
  | .clearFull p tg pl => Sys2Proof.Machine.execClearFull p tg pl s
  | .queryDest p tg pl => Sys2Proof.Machine.execQueryDest p tg pl s
  | .forceRelease p tg pl => Sys2Proof.Machine.execForceRelease p tg pl s
  | .writeRoute p tg pl => Sys2Proof.Machine.execWriteRoute p tg pl s
  | .readRoute p tg pl => Sys2Proof.Machine.execReadRoute p tg pl s
  | .setList p tg pl => Sys2Proof.Machine.execSetList p tg pl s
  | .registerPattern p tg pl => Sys2Proof.Machine.execRegisterPattern p tg pl s
  | .dropPattern p tg pl => Sys2Proof.Machine.execDropPattern p tg pl s
  | .clearPatterns p tg pl => Sys2Proof.Machine.execClearPatterns p tg pl s
  | .setBelt p tg pl => Sys2Proof.Machine.execSetBelt p tg pl s
  | .setGate p tg pl => Sys2Proof.Machine.execSetGate p tg pl s
  | .setDest p tg pl => Sys2Proof.Machine.execSetDest p tg pl s
  | .commission p tg pl => Sys2Proof.Machine.execCommission p tg pl s
  | .start p tg pl => Sys2Proof.Machine.execStart p tg pl s
  | .stop p tg pl => Sys2Proof.Machine.execStop p tg pl s
  | .resume p tg pl => Sys2Proof.Machine.execResume p tg pl s
  | .restart p tg pl => Sys2Proof.Machine.execRestart p tg pl s
  | .testFire p tg pl => Sys2Proof.Machine.execTestFire p tg pl s
  | .readTest p tg pl => Sys2Proof.Machine.execReadTest p tg pl s
  | .takeGateOut p tg pl => Sys2Proof.Machine.execTakeGateOut p tg pl s
  | .returnGate p tg pl => Sys2Proof.Machine.execReturnGate p tg pl s
  | .readFault p tg pl => Sys2Proof.Machine.execReadFault p tg pl s
  | .readMap p tg pl => Sys2Proof.Machine.execReadMap p tg pl s
  | .snapshot p tg pl => Sys2Proof.Machine.execSnapshot p tg pl s
  | .snapshotClear p tg pl => Sys2Proof.Machine.execSnapshotClear p tg pl s
  | .readSnapshot p tg pl => Sys2Proof.Machine.execReadSnapshot p tg pl s
  | .readConditions p tg pl => Sys2Proof.Machine.execReadConditions p tg pl s
  | .setEnables p tg pl => Sys2Proof.Machine.execSetEnables p tg pl s
  | .stopChainClose => Sys2Proof.Machine.execStopChainClose s

end Sys2Proof.Machine
end

