-- ==== Sys2Proof/Machine/Time.lean ====
section
/-! DEFINITION. The part's internal time base: what one millisecond moves, and which of the part's own events are due (spec 00, Times; R2, R16; logs 1 and 2). -/

namespace Sys2Proof.Machine

/-! ### One millisecond -/

/-- A timer that counts up to a bound. -/
def countUp (bound : Nat) (n : Nat) : Nat := min (n + 1) bound

/-- The idle timer counts: RUNNING, an idle time above 0, an empty map and both eyes clear (R9). -/
def idleCounts (s : State) : Bool :=
  s.isRunning && s.settings.idleTime != 0 && s.map.isEmpty && !s.pins.readEye && !s.pins.infeedEye

/-- The belt unit's timers (R3, R6, R9, R10, R13). -/
def tickBelt (s : State) (b : Belt) : Belt :=
  { b with
    windowMs := b.windowMs + 1
    runGuard := b.runGuard.map (countUp guardLength)
    idleMs := if idleCounts s then countUp 600000 b.idleMs else b.idleMs
    infeedMs := if s.pins.infeedEye then countUp 50 b.infeedMs else b.infeedMs
    tailMs := if s.commissioned then countUp 2000 b.tailMs else b.tailMs }

/-- The identifier silence timer, while RUNNING (R35). -/
def tickMatcher (s : State) (m : Matcher) : Matcher :=
  if s.isRunning then { m with silenceMs := countUp 2000 m.silenceMs } else m

/-- The timers of one destination: rack filter (R108), confirm windows (R140), eye filter (R141), block and clear timers (R148, R149). -/
def tickDest (b : Nat) (blocked : Bool) (r : Dest) : Dest :=
  { r with
    rackMs := if r.configured then countUp 50 r.rackMs else r.rackMs
    awaiting := r.awaiting.map fun a => { a with leftMs := a.leftMs - 1 }
    eyeMs := if r.eye = .blocking ∨ r.eye = .clearing then countUp 20 r.eyeMs else r.eyeMs
    blockMs := if blocked ∧ r.blockMs < b then r.blockMs + 1 else r.blockMs
    clearMs := if r.holds.blocked ∧ !blocked then countUp 1000 r.clearMs else r.clearMs }

/-- A gate's cycle and actuator checks (R126, R150). -/
def tickGate (g : Gate) : Gate :=
  { g with
    cycle := g.cycle.map fun c => { c with endIn := c.endIn - 1, offIn := c.offIn - 1 }
    checks := g.checks.map fun c => { c with leftMs := c.leftMs - 1 } }

/-- A port's silence timer and the frame on its line (R164, R165). -/
def tickLink (k : Link) : Link :=
  { k with
    silenceMs := countUp 4000 k.silenceMs
    sending := k.sending.map fun f => { f with leftMs := f.leftMs - 1 } }

/-- A receiver's gap timer (R159). -/
def tickReceiver (r : Receiver) : Receiver := { r with gapMs := r.gapMs.map (countUp 6) }

/-- One millisecond passes. Nothing counts while reset is in force (R178). -/
def tick (s : State) : State :=
  if s.inReset then s
  else
    let s1 := forEach allDests (fun d x => x.modDest d (tickDest s.settings.b (s.confirmEye d))) s
    { s1 with
      belt := tickBelt s s.belt
      matcher := tickMatcher s s.matcher
      gates := mapTable tickGate s.gates
      links := mapTable tickLink s.links
      receivers := mapTable tickReceiver s.receivers
      refreshMs := s.refreshMs + 1 }

/-! ### Events that are due -/

/-- One event, if it is due. -/
def whenDue (due : Bool) (i : Instr) : List Instr := if due then [i] else []

/-- Events of the belt unit, the read-point unit, the identity matcher and the refresh grid. -/
def unitDues (s : State) : List Instr :=
  whenDue (decide (windowLength ≤ s.belt.windowMs)) .speedWindowEnd
    ++ whenDue (guardDue s.belt) .runGuardElapsed
    ++ whenDue (idleDue s) .idleExpiry
    ++ whenDue (wakeDue s) .infeedWake
    ++ whenDue (tailAssertDue s) .tailFullAsserted
    ++ whenDue (tailClearDue s) .tailFullCleared
    ++ whenDue (commitDue s).isSome .captureCommit
    ++ whenDue (clampDue s).isSome .lengthClamp
    ++ whenDue (clearWaitDue s) .clearWaitEnd
    ++ whenDue (silentDue s) .identifierSilent
    ++ whenDue (decide (1000 ≤ s.refreshMs)) .destStateRefresh

/-- Events of one map entry (R34, R60, R121). -/
def entryDues (s : State) (e : Entry) : List Instr :=
  (match e.tag with
   | some t =>
     whenDue (e.state == .pending && reached s.belt.p (e.r + dist s.settings.w)) (.idWindowExpiry t)
       ++ whenDue (e.state == .toTail && reached s.belt.p (e.r + dist s.settings.dT)) (.tailArrival t)
   | none => [])
    ++ whenDue (armingDue s e).isSome (.arming e.ref)

/-- Events of one gate (R125, R126, R150). -/
def gateDues (s : State) (g : GateId) : List Instr :=
  whenDue (headDue s g).isSome (.fireTarget g)
    ++ whenDue (driveOffDue (s.gate g)) (.gateDriveOff g)
    ++ whenDue (cycleEndDue (s.gate g)) (.gateCycleEnd g)
    ++ whenDue (dueCheck (s.gate g)).isSome (.actuatorCheckDeadline g)

/-- Events of one destination (R108, R141, R144, R148, R149). -/
def destDues (s : State) (d : DestId) : List Instr :=
  whenDue (sightingDue s d) (.confirmEyeSighting d)
    ++ whenDue (clearSettledDue s d) (.confirmEyeClearSettled d)
    ++ ((s.dest d).awaiting.filter fun a => a.leftMs == 0).map (fun a => .confirmWindowExpiry d a.tag)
    ++ whenDue (blockDue s d) (.chuteBlock d)
    ++ whenDue (blockClearDue s d) (.chuteBlockClear d)
    ++ whenDue (rackOutcome (s.rackSensor d) (s.dest d) != .nothing) (.rackSensorSettled d)

/-- The frame on a port's line has been sent. -/
def sentDue (k : Link) : Bool :=
  match k.sending with
  | some f => f.leftMs == 0
  | none => false

/-- A link of 1000 ms silence that is ACTIVE or in ALIGN (R167, R168). -/
def silenceDue (k : Link) : Bool := (k.state == .active || k.state == .align) && decide (1000 ≤ k.silenceMs)

/-- Events of one sender's port (R164, R167 to R169). -/
def senderDues (s : State) (q : Sender) : List Instr :=
  whenDue (sentDue (s.link q)) (.frameSent q)
    ++ whenDue (silenceDue (s.link q)) (.linkSilence1000 q)
    ++ whenDue (lapseDue s q) (.linkLapse q)

/-- Every event of the part that is due. None is while reset is in force. -/
def dueEvents (s : State) : List Instr :=
  if s.inReset then []
  else
    unitDues s ++ (s.map.map (entryDues s)).flatten ++ (allGates.map (gateDues s)).flatten
      ++ (allDests.map (destDues s)).flatten ++ (allSenders.map (senderDues s)).flatten
      ++ (allPorts.map fun p => whenDue (gapDue (s.receiver p)) (.frameGapTimeout p)).flatten

/-- The due event that is taken next: where several are due, a free one among them (R2; log 2). -/
def nextDue (s : State) : Option Instr :=
  match dueEvents s with
  | [] => none
  | [i] => some i
  | i :: j :: rest => (i :: j :: rest)[Config.freeOrder s.orders % (rest.length + 2)]?

end Sys2Proof.Machine
end

