-- ==== Sys2Proof/Machine/Step.lean ====
section
/-! DEFINITION. One step: the command at the front of the queue, or on an empty queue what the part's own time base brings (logs 1 and 2). -/

namespace Sys2Proof.Machine

/-- One use of a free order. -/
def State.ordered (s : State) : State := { s with orders := s.orders + 1 }

/-- The part left to itself: a due event of its own is taken, and with none due one millisecond passes (log 1). -/
def idleStep (s : State) : Result :=
  match nextDue s with
  | some i => exec i s.ordered
  | none => .next (tick s)

/-- One step. -/
def step (s : State) : Host.Outcome State Fault Refusal :=
  match s.pending with
  | c :: rest => exec c { s with pending := rest }
  | [] => idleStep s

/-- The state with the command that a word spells put at the front of its queue; unchanged where the word spells none. -/
def State.withFetchWord (s : State) (nbits w : Nat) : State :=
  match decodeTableWord nbits w with
  | some c => { s with pending := c :: s.pending }
  | none => s

end Sys2Proof.Machine
end

