-- ==== Sys2Proof/Safety.lean ====
section
/-! DEFINITION. What the part keeps true, and the words the statements use: when a request is served, what a port owes, and the laws of the blocks. -/

namespace Sys2Proof.Machine

/-! ### Requests and replies -/

/-- The frames a port sends before anything that joins now: the one on its line, then the replies that wait (R163, R164). -/
def Link.owed (k : Link) : List Frame := (k.sending.map Sending.frame).toList ++ k.replies.map Reply.frame

/-- A reply has joined what a port owes, and nothing else has (R163). -/
def Replied (s t : State) (q : Sender) (tag : Byte) (k : Kind) (status : Status) (result : List Byte) : Prop :=
  (t.link q).owed = (s.link q).owed ++ [Reply.frame ⟨tag, k.code, status, result⟩]

/-- The part takes requests from a sender: no reset, its link ACTIVE or QUIET, and room in its reply queue (R163, R173, R178). -/
def Served (s : State) (q : Sender) : Prop :=
  s.inReset = false ∧ ((s.link q).state = .active ∨ (s.link q).state = .quiet) ∧ (s.link q).replies.length < 8

/-- The same on a belt that has left UNCONFIGURED (R173, R179). -/
def ServedCommissioned (s : State) (q : Sender) : Prop := Served s q ∧ s.belt.state ≠ .unconfigured

/-- The request of a kind, as a command. -/
def Kind.command (k : Kind) (p : Port) (tag : Byte) (pl : List Byte) : Instr :=
  match k with
  | .hello => .hello p tag pl
  | .goodbye => .goodbye p tag pl
  | .claim => .claim p tag pl
  | .release => .release p tag pl
  | .openDest => .openDest p tag pl
  | .closeDest => .closeDest p tag pl
  | .setSlots => .setSlots p tag pl
  | .clearFull => .clearFull p tag pl
  | .queryDest => .queryDest p tag pl
  | .forceRelease => .forceRelease p tag pl
  | .writeRoute => .writeRoute p tag pl
  | .readRoute => .readRoute p tag pl
  | .setList => .setList p tag pl
  | .registerPattern => .registerPattern p tag pl
  | .dropPattern => .dropPattern p tag pl
  | .clearPatterns => .clearPatterns p tag pl
  | .setBelt => .setBelt p tag pl
  | .setGate => .setGate p tag pl
  | .setDest => .setDest p tag pl
  | .commission => .commission p tag pl
  | .start => .start p tag pl
  | .stop => .stop p tag pl
  | .resume => .resume p tag pl
  | .restart => .restart p tag pl
  | .testFire => .testFire p tag pl
  | .readTest => .readTest p tag pl
  | .takeGateOut => .takeGateOut p tag pl
  | .returnGate => .returnGate p tag pl
  | .readFault => .readFault p tag pl
  | .readMap => .readMap p tag pl
  | .snapshot => .snapshot p tag pl
  | .snapshotClear => .snapshotClear p tag pl
  | .readSnapshot => .readSnapshot p tag pl
  | .readConditions => .readConditions p tag pl
  | .setEnables => .setEnables p tag pl
  | .itemReport => .itemReport p tag pl

/-! ### What a command leaves alone -/

/-- The belt unit apart from the idle timer, which any event may return to 0 (R9). -/
def Belt.still (b : Belt) : Belt := { b with idleMs := 0 }

/-- The replies among the frames a port owes. -/
def Link.answers (k : Link) : List Frame := k.owed.filter fun f => f.kind == replyCode

/-- A link keeps its state, its HELLO count, its silence timer and the replies it owes; a free transmitter may have taken a frame (R164). -/
def SameLink (s t : State) (q : Sender) : Prop :=
  (t.link q).state = (s.link q).state ∧ (t.link q).hellos = (s.link q).hellos
    ∧ (t.link q).silenceMs = (s.link q).silenceMs ∧ (t.link q).answers = (s.link q).answers

/-- No notice has joined a station's queue; a free transmitter may have taken one (R164). -/
def SameNotices (s t : State) (st : Station) : Prop :=
  (t.noticeQueue st).dests <:+ (s.noticeQueue st).dests
    ∧ (t.noticeQueue st).places <:+ (s.noticeQueue st).places

/-- Every destination is as it was. -/
def SameDests (s t : State) : Prop := t.dests = s.dests

/-- Every destination but one is as it was. -/
def SameOtherDests (s t : State) (d : DestId) : Prop := ∀ x : DestId, x ≠ d → t.dest x = s.dest x

/-- Every gate but one is as it was. -/
def SameOtherGates (s t : State) (g : GateId) : Prop := ∀ x : GateId, x ≠ g → t.gate x = s.gate x

/-- Every map entry but one is as it was. -/
def SameOtherEntries (s t : State) (r : EntryRef) : Prop := ∀ x : EntryRef, x ≠ r → t.find x = s.find x

/-- The parts of the state that a frame names. -/
inductive Block where
  | belt
  | pins
  | reader
  | matcher
  | patterns
  | map
  | routes
  | dests
  | gates
  | test
  | receivers
  | links
  | notices
  | settings
  | counters
  | bank
  | refresh
  | reset
deriving DecidableEq, Repr

/-- A block is as it was. The bank stands for its snapshot and its enables: levels, latches and ATTN follow the other blocks (R191, R192). -/
def Block.same : Block → State → State → Prop
  | .belt, s, t => t.belt.still = s.belt.still
  | .pins, s, t => t.pins = s.pins
  | .reader, s, t => t.reader = s.reader
  | .matcher, s, t => t.matcher = s.matcher
  | .patterns, s, t => t.patterns = s.patterns
  | .map, s, t => t.map = s.map
  | .routes, s, t => t.routes = s.routes
  | .dests, s, t => SameDests s t
  | .gates, s, t => t.gates = s.gates
  | .test, s, t => t.test = s.test
  | .receivers, s, t => t.receivers = s.receivers
  | .links, s, t => ∀ q : Sender, SameLink s t q
  | .notices, s, t => ∀ st : Station, SameNotices s t st
  | .settings, s, t => t.settings = s.settings
  | .counters, s, t => t.bank.live = s.bank.live
  | .bank, s, t => t.bank.snapshot = s.bank.snapshot ∧ t.bank.enables = s.bank.enables
      ∧ t.bank.globalEnable = s.bank.globalEnable
  | .refresh, s, t => t.refreshMs = s.refreshMs
  | .reset, s, t => t.inReset = s.inReset

/-- Every block but those listed is as it was. -/
def SameExcept (l : List Block) (s t : State) : Prop := ∀ b : Block, b ∉ l → b.same s t

/-- The counters listed have risen by one, up to 65,535, and no other has moved (R188). -/
def Raised (l : List Counter) (s t : State) : Prop :=
  ∀ c : Counter, t.counter c = if c ∈ l then min (s.counter c + 1) 65535 else s.counter c

/-- The port of a sender has taken a good frame: its receiver is in HUNT, its silence timer is 0 and a QUIET link is ACTIVE again (R159, R165, R168); the other ports are as they were. -/
def Heard (s t : State) (q : Sender) : Prop :=
  t.receiver (.sender q) = {} ∧ (∀ p : Port, p ≠ .sender q → t.receiver p = s.receiver p)
    ∧ (t.link q).silenceMs = 0 ∧ (t.link q).hellos = (s.link q).hellos
    ∧ (t.link q).state = (if (s.link q).state = .quiet then .active else (s.link q).state)
    ∧ ∀ x : Sender, x ≠ q → SameLink s t x

/-- A request has been taken: its port has heard it, it is counted, and every block but its port's and those listed is as it was (R162). -/
def Took (q : Sender) (l : List Block) (s t : State) : Prop :=
  Heard s t q ∧ Raised [.ofPort (.sender q) .framesGood] s t
    ∧ SameExcept ([.receivers, .links, .counters] ++ l) s t

/-- The same, where the request also moves counters of its own: the count of its frame has risen at least. -/
def TookCounting (q : Sender) (l : List Block) (s t : State) : Prop :=
  Heard s t q
    ∧ t.counter (.ofPort (.sender q) .framesGood) = min (s.counter (.ofPort (.sender q) .framesGood) + 1) 65535
    ∧ SameExcept ([.receivers, .links, .counters] ++ l) s t

/-! ### Laws -/

/-- The belt unit: the motor is on exactly while RUNNING (R6), a cause is recorded exactly while HALTED (1.5), V lies in 0..4095 (R4), the zero-window and clean-window counts stay below their limits (R5, R14), and the tail-full level is ASSERTED while TAIL_FULL is recorded (R13). -/
def BeltLaw (s : State) : Prop :=
  (s.belt.motor = true ↔ s.belt.state = .running)
    ∧ (s.belt.state = .halted ↔ s.belt.causes ≠ {})
    ∧ (s.belt.state ≠ .running → s.belt.runGuard = none)
    ∧ s.belt.v ≤ 4095
    ∧ s.belt.zeroWindows < 8
    ∧ s.belt.cleanWindows < 20
    ∧ (s.belt.overspeed = false → s.belt.cleanWindows = 0)
    ∧ (s.belt.causes.tailFull = true → s.belt.tailFull = true)

/-- The pattern table: at most 64 entries, no code twice, at most 10 locked entries a station (R38). -/
def PatternLaw (s : State) : Prop :=
  s.patterns.length ≤ 64 ∧ (s.patterns.map PatternEntry.code).Nodup
    ∧ ∀ st : Station, lockedCount st s.patterns ≤ 10

/-- The transit map: at most 64 entries, no two of one name (R51, R64). -/
def MapLaw (s : State) : Prop := s.map.length ≤ 64 ∧ (s.map.map Entry.ref).Nodup

/-- Queues keep their bounds: 4 awaiting-confirm records (R139), 4 entries in a fire queue (R123), 8 replies (R163), 16 notices (R174). -/
def QueueLaw (s : State) : Prop :=
  (∀ d : DestId, (s.dest d).awaiting.length ≤ 4) ∧ (∀ g : GateId, (s.gate g).queue.length ≤ 4)
    ∧ (∀ q : Sender, (s.link q).replies.length ≤ 8)
    ∧ ∀ st : Station, (s.noticeQueue st).places.length ≤ 16

/-- How far ahead of P the fire position of a queued entry lies, 0 once P has reached it (R122). -/
def fireAhead (s : State) (r : EntryRef) : Nat :=
  match fireAtOf s r with
  | some x => ahead s.belt.p x
  | none => 0

/-- The fire queues: each names ARMED entries of the map that are bound for its gate and hold an F, none twice, in fire order, the head the one whose F P reaches first (R122, R123). -/
def FireLaw (s : State) : Prop :=
  ∀ g : GateId, (s.gate g).queue.Nodup
    ∧ (∀ r ∈ (s.gate g).queue, ∃ e, s.find r = some e ∧ e.state = .armed ∧ e.gate? = some g ∧ e.fireAt.isSome = true)
    ∧ (s.gate g).queue.Pairwise fun x y => fireAhead s x ≤ fireAhead s y

/-- No queued entry's F lies half the circle behind P, where it would count as ahead again (R2). A part that takes its fire targets as they fall due leaves none behind P at all; a sender of commands may (log 4). -/
def FiresInTime (s : State) : Prop :=
  ∀ g : GateId, ∀ r ∈ (s.gate g).queue, ∀ x : Pos, fireAtOf s r = some x → (s.belt.p - x).toNat ≠ 8388607

/-- The owner is UNCLAIMED exactly while the state is (6.1), and an UNCLAIMED destination has F_d = 0 and R_d = 0 (R105). -/
def OwnerLaw (s : State) : Prop :=
  ∀ d : DestId, ((s.dest d).owner = none ↔ (s.dest d).state = .unclaimed)
    ∧ ((s.dest d).state = .unclaimed → (s.dest d).free = 0 ∧ (s.dest d).reserved = 0)

/-- A destination carries GATE_OUT exactly while its gate is OUT_OF_SERVICE (R110, 7.5): two IN_SERVICE sides carry none. -/
def GateOutLaw (s : State) : Prop :=
  ∀ d : DestId, (s.dest d).holds.gateOut = true ↔ (s.gate (destGate d)).service = .outOfService

/-- The bank's levels are the blocks' (R191), and ATTN is as its latches and enables give it (R192). -/
def ConditionLaw (s : State) : Prop := s.bank.levels = condLevels s ∧ s.bank.attn = attnOf s.bank

/-- What an entry's state says of its destination and its fire position (4.1, 4.3): PENDING has none, ROUTED and ARMED lie at a gate, TO_TAIL at T, and F is there exactly in ARMED. A token is ROUTED or ARMED. -/
def Entry.shaped (e : Entry) : Prop :=
  (match e.state with
   | .pending => e.dest = none
   | .routed | .armed => ∃ d, e.dest = some (.gateDest d)
   | .toTail => e.dest = some .tail
   | .suspect => True)
    ∧ (e.fireAt.isSome = true ↔ e.state = .armed)
    ∧ (e.tag = none → e.state = .routed ∨ e.state = .armed)

/-- Every entry of the map is so shaped. -/
def ShapeLaw (s : State) : Prop := ∀ e ∈ s.map, e.shaped

/-- The map's entries without the TEST flag whose destination is d (R79). -/
def boundFor (s : State) (d : DestId) : List Entry :=
  s.map.filter fun e => decide (e.dest = some (.gateDest d)) && !e.isTest

/-- R_d is the entries bound for d and the records that await confirm there (R79). -/
def ReservationLaw (s : State) : Prop :=
  ∀ d : DestId, (s.dest d).reserved = (boundFor s d).length + (s.dest d).awaiting.length

/-- No entry without the TEST flag is bound for a RELEASING destination (R106). -/
def ReleasingLaw (s : State) : Prop := ∀ d : DestId, (s.dest d).state = .releasing → boundFor s d = []

/-- An owner may receive an item: SITE any, a station its own (R84, R88). -/
def mayReceive (owner : Option Sender) (e : Entry) : Prop :=
  match owner with
  | some .site => True
  | some (.station st) => e.owner = some (.outlet st)
  | none => False

/-- Every entry without the TEST flag that is bound for d may be received by d's owner (R88). -/
def DeliveryLaw (s : State) : Prop := ∀ (d : DestId), ∀ e ∈ boundFor s d, mayReceive (s.dest d).owner e

/-- The laws that hold together over the map, the reservations and the owners. -/
def RouteLaw (s : State) : Prop :=
  MapLaw s ∧ ShapeLaw s ∧ ReservationLaw s ∧ ReleasingLaw s ∧ OwnerLaw s ∧ DeliveryLaw s

/-! ### Decisions, moves off a destination, bad frames -/

/-- An entry after it is given up or its ID window ends: class UNKNOWN, owner NONE, pattern code and confidence absent (R22, R30, R34). -/
def Entry.unnamed (e : Entry) : Entry :=
  { e with cls := some ItemClass.unknown, owner := some .nobody, pattern := none, confidence := none, broken := false }

/-- An entry as a decision on it leaves it: bound for the winner of the search and ROUTED, or for T and TO_TAIL (R87 steps 3 and 4). -/
def decidedEntry (s : State) (e : Entry) (leftOut : Option DestId) : Entry :=
  match search s e leftOut with
  | some d => { e with dest := some (.gateDest d), state := .routed }
  | none => { e with dest := some .tail, state := .toTail }

/-- The state with its accounts as that decision leaves them: R_d and ASSIGNED of the winner rise by one, and for T nothing moves (R87 steps 3 and 4). -/
def decidedAccounts (s : State) (e : Entry) (leftOut : Option DestId) : State :=
  match search s e leftOut with
  | some d => (s.modDest d fun r => { r with reserved := r.reserved + 1 }).raiseDest d .assigned
  | none => s

/-- The accounts after the entries of a list have been decided in the list's order, each on the credits the one before it left (R32). -/
def decidedInTurn (l : List Entry) (s : State) : State := l.foldl (fun x e => decidedAccounts x e none) s

/-- Every R_d and every ASSIGNED counter of t is that of the state u. -/
def AccountsOf (u t : State) : Prop :=
  t.dests = u.dests ∧ ∀ d : DestId, t.counter (.ofDest d .assigned) = u.counter (.ofDest d .assigned)

/-- An entry that a hold or a forced release moves off its destination: a SUSPECT one takes T and keeps the rest (R62); any other loses F and LATE, has one more route attempt, up to 7, and is ROUTED to an OPEN destination that carried no hold, or is TO_TAIL (R58, R91, R106). -/
def MovedTo (s : State) (e e' : Entry) : Prop :=
  if e.state = .suspect then e' = { e with dest := some .tail }
  else
    e' = { e with
        dest := e'.dest, state := e'.state, fireAt := none, late := false, attempts := min (e.attempts + 1) 7 }
      ∧ match e'.dest with
        | some (.gateDest d) => e'.state = .routed ∧ (s.dest d).state = .opened ∧ (s.dest d).holds = {}
        | some .tail => e'.state = .toTail
        | none => False

/-- The entries bound for the destinations of a list have been moved off them, and every other entry stands; a token is not moved (R65, R92, R106, R107). -/
def MovedOff (ds : List DestId) (s t : State) : Prop :=
  (∀ d ∈ ds, boundFor t d = [])
    ∧ ∀ e ∈ s.map, e.isTest = false →
      ∃ e', t.find e.ref = some e'
        ∧ if ∃ d ∈ ds, e.dest = some (.gateDest d) then MovedTo s e e' else e' = e

/-- The holds a release leaves: SILENT, ORPHANED and a latched FULL in EDGE mode are cleared, and BLOCKED, GATE_OUT and a LEVEL-mode FULL stay (R105, R106). -/
def Dest.holdsReleased (r : Dest) : Holds :=
  { r.holds with silent := false, orphaned := false, full := if r.mode = .edge then false else r.holds.full }

/-- The re-arm state a release leaves: in EDGE mode it follows the rack input (R105; log 18). -/
def Dest.rearmReleased (asserted : Bool) (r : Dest) : Rearm :=
  if r.mode = .edge then (if asserted then .waitingForClear else .armed) else r.rearm

/-- One frame of a sender's port has ended as bad, with no other in progress: FRAMES_BAD rises, the receiver hunts, in ALIGN the HELLO count is 0, the silence timer stands, no reply joins, and the other ports are as they were (R159, R165, R167). -/
def EndedBad (s t : State) (q : Sender) : Prop :=
  SameExcept [.receivers, .links, .counters] s t ∧ Raised [.ofPort (.sender q) .framesBad] s t
    ∧ (t.receiver (.sender q)).kept = none ∧ (∀ p : Port, p ≠ .sender q → t.receiver p = s.receiver p)
    ∧ (∀ x, x ≠ q → SameLink s t x)
    ∧ (t.link q).state = (s.link q).state ∧ (t.link q).silenceMs = (s.link q).silenceMs
    ∧ (t.link q).answers = (s.link q).answers
    ∧ (t.link q).hellos = if (s.link q).state = .align then 0 else (s.link q).hellos

/-! ### Notices that an event offers, and the token at a gate that goes out -/

/-- A station's port is free for a notice as an event ends: no reply to a request of its own, no frame on its line and no reply that waits comes first (R164). -/
def freeForNotice (asker : Option Sender) (s : State) (st : Station) : Bool :=
  asker != some (.station st) && (s.link (.station st)).sending.isNone && (s.link (.station st)).replies.isEmpty

/-- What an event leaves of a station's notices, where its DEST-STATE list has come to l and its places to m: both as they are, or, where the link is ACTIVE or QUIET and the port is free for a notice, with the oldest of l, or else of m, on the line under the next sequence number (R164, R176). -/
def LeavesWaiting (asker : Option Sender) (st : Station) (l : List DestItem) (m : List Notice) (s t : State) : Prop :=
  (hears t st = true → freeForNotice asker s st = true →
    let n := (s.noticeQueue st).seq
    let sent := (t.link (.station st)).sending.map Sending.frame
    match l, m with
    | i :: rest, _ =>
      t.noticeQueue st = { dests := rest, places := m, seq := n + 1 } ∧ sent = some (destItemFrame t n i)
    | [], i :: rest =>
      t.noticeQueue st = { dests := [], places := rest, seq := n + 1 }
        ∧ sent = some ⟨(noticeFrame i).1, n, (noticeFrame i).2⟩
    | [], [] => (t.noticeQueue st).dests = [] ∧ (t.noticeQueue st).places = [] ∧ sent = none)
  ∧ (hears t st = false ∨ freeForNotice asker s st = false →
    (t.noticeQueue st).dests = l ∧ (t.noticeQueue st).places = m)

/-- A station's list after an event is told it about one destination: the pending mark joins where the station owns it and its state, owner, holds or F_d have changed, and the final notice where the station owns it no longer (R114, R174, R175). -/
def destNotice (s t : State) (st : Station) (d : DestId) (l : List DestItem) : List DestItem :=
  if (t.dest d).owner = some (.station st) then
    if sameVisible (s.dest d) (t.dest d) then l else addMark d l
  else if (s.dest d).owner = some (.station st) then addLastNotice d (destStateBytes d (t.dest d)) l
  else l

/-- The DEST-STATE notices of an event have been offered, of several destinations in some order: each joins its station's list where the link is ACTIVE or QUIET, the places are those given, and nothing else joins (R114, R174, R175). -/
def NoticesOffered (asker : Option Sender) (places : Station → List Notice) (s t : State) : Prop :=
  ∃ order : List DestId, order.Perm allDests ∧ ∀ st : Station,
    LeavesWaiting asker st
      (if hears t st = true then order.foldl (fun l d => destNotice s t st d l) (s.noticeQueue st).dests
        else (s.noticeQueue st).dests)
      (places st) s t

/-- The same, with no other notice. -/
def DestNotices (asker : Option Sender) (s t : State) : Prop :=
  NoticesOffered asker (fun st => (s.noticeQueue st).places) s t

/-- The same, with the ARRIVAL of a record for the station that owns d, discarded where it does not hear or its 16 places are held (R146, R174). -/
def ArrivalNotices (d : DestId) (a : Awaiting) (confirmed : Bool) (s t : State) : Prop :=
  NoticesOffered none
    (fun st =>
      if (s.dest d).owner = some (.station st) ∧ hears t st = true ∧ (s.noticeQueue st).places.length < 16 then
        (s.noticeQueue st).places ++ [.arrival d a.tag a.cls a.owner confirmed]
      else (s.noticeQueue st).places)
    s t

/-- A station's link is lost: its DEST-STATE list and its places are emptied, what the loss itself offers is dropped, and the other stations are offered nothing (R111, R169, R170, R174). -/
def NoticesLost (asker : Option Sender) (q : Sender) (s t : State) : Prop :=
  ∀ st : Station,
    if q = .station st then (t.noticeQueue st).dests = [] ∧ (t.noticeQueue st).places = []
    else LeavesWaiting asker st (s.noticeQueue st).dests (s.noticeQueue st).places s t

/-- A token is bound for one of the gates and has not fired: it is ROUTED, or stands in the gate's fire queue (R67). -/
def UnfiredAt (gone : GateId → Prop) (s : State) (e : Entry) : Prop :=
  ∃ g : GateId, gone g ∧ e.gate? = some g ∧ (e.state = .routed ∨ .token ∈ (s.gate g).queue)

/-- What gates that go OUT_OF_SERVICE do to the test token: bound for one of them and not fired, it leaves the map with ABORTED and the TEST_DONE latch (R67, R129 step 4, R135); fired, bound elsewhere or not there, it stays as it is, with its record (R66). -/
def TokenAborted (gone : GateId → Prop) (s t : State) : Prop :=
  (∀ e : Entry, s.find .token = some e → UnfiredAt gone s e →
    t.test = { s.test with result := .aborted } ∧ t.bank.latches.getLsbD 12 = true
      ∧ (MapLaw s → t.find .token = none ∧ t.map.length + 1 = s.map.length))
  ∧ ((∀ e : Entry, s.find .token = some e → ¬ UnfiredAt gone s e) →
    t.test = s.test ∧ t.find .token = s.find .token ∧ t.map.length = s.map.length
      ∧ (ConditionLaw s → t.bank.latches.getLsbD 12 = s.bank.latches.getLsbD 12))

end Sys2Proof.Machine
end

