-- ==== Sys2Proof/WellFormed.lean ====
section
/-! DEFINITION. Which commands can stand on a line: a frame's payload has at most 48 bytes (R157), and an UNKNOWN_KIND frame has a kind not taken on its port (R162). -/

namespace Sys2Proof

/-- The payload bytes a frame command carries. -/
def Instr.payload? : Instr → Option (List Byte)
  | .itemReport _ _ pl | .unknownKind _ _ _ pl | .hello _ _ pl | .goodbye _ _ pl | .claim _ _ pl
  | .release _ _ pl | .openDest _ _ pl | .closeDest _ _ pl | .setSlots _ _ pl | .clearFull _ _ pl
  | .queryDest _ _ pl | .forceRelease _ _ pl | .writeRoute _ _ pl | .readRoute _ _ pl
  | .setList _ _ pl | .registerPattern _ _ pl | .dropPattern _ _ pl | .clearPatterns _ _ pl
  | .setBelt _ _ pl | .setGate _ _ pl | .setDest _ _ pl | .commission _ _ pl | .start _ _ pl
  | .stop _ _ pl | .resume _ _ pl | .restart _ _ pl | .testFire _ _ pl | .readTest _ _ pl
  | .takeGateOut _ _ pl | .returnGate _ _ pl | .readFault _ _ pl | .readMap _ _ pl
  | .snapshot _ _ pl | .snapshotClear _ _ pl | .readSnapshot _ _ pl | .readConditions _ _ pl
  | .setEnables _ _ pl => some pl
  | .powerOnReset | .resetPin | .resetRelease | .encoderPulse | .speedWindowEnd | .runGuardElapsed
  | .idleExpiry | .infeedEyeChange _ | .infeedWake | .stopChainOpen | .tailFullInputChange _
  | .tailFullAsserted | .tailFullCleared | .readEyeBlock | .readEyeClear | .captureCommit
  | .lengthClamp | .clearWaitEnd | .idWindowExpiry _ | .identifierSilent | .arming _ | .fireTarget _
  | .tailArrival _ | .gateDriveOff _ | .gateCycleEnd _ | .extendedSwitchChange _ _ _
  | .actuatorCheckDeadline _ | .confirmEyeChange _ _ | .confirmEyeSighting _
  | .confirmEyeClearSettled _ | .confirmWindowExpiry _ _ | .chuteBlock _ | .chuteBlockClear _
  | .rackSensorChange _ _ | .rackSensorSettled _ | .badFrame _ _ | .frameGapTimeout _
  | .frameSent _ | .linkSilence1000 _ | .linkLapse _ | .destStateRefresh | .stopChainClose => none

/-- Whether a kind code is taken on a port (R162). -/
def kindTakenOn (kind : Byte) : Port → Bool
  | .identifier => kind == Machine.Kind.code .itemReport
  | .sender q =>
    match Machine.Kind.ofCode kind with
    | some k => k.takenFrom q
    | none => false

/-- A frame's payload has at most 48 bytes (R157). -/
def Instr.payloadShort (i : Instr) : Bool :=
  match i.payload? with
  | some pl => decide (pl.length ≤ 48)
  | none => true

/-- An UNKNOWN_KIND frame's kind is not taken on its port, and its port answers (R162). -/
def Instr.kindUnknown : Instr → Bool
  | .unknownKind p kind _ _ => !kindTakenOn kind p && p != .identifier
  | _ => true

/-- The commands that can stand on a line. -/
def Instr.wellFormed (i : Instr) : Bool := i.payloadShort && i.kindUnknown

end Sys2Proof
end

