-- ==== Sys2Proof/Certificates/Slice0/Obligations.lean ====
section
/-! DEFINITION. The statements for the provers. A state stands for any state, reached by a run or not; where a statement needs a law of the part, the law is a hypothesis, and it is a part of an invariant stated at the end of this file. -/

open Sys2Proof Sys2Proof.Machine

/-! ### Steps and reset -/

/-- A step takes the command at the front of the queue and runs it on the state with the queue's rest. On an empty queue it runs one of the events of the part's own that are due: a window end, the idle expiry, the silence of the identifier or of a link, a confirm window that has run out, a frame gap are due where their timer stands at its time. With none due one millisecond passes: in reset nothing counts, and otherwise every millisecond timer moves by one, up to its bound or down to 0, each under its own condition, and nothing else moves (R3, R6, R9, R10, R13, R35, R108, R126, R140, R141, R148, R149, R150, R159, R164, R165, R178; the empty queue is the model's choice, log 1, and which due event comes first is free, log 2). -/
def Obligations.StepTakesFrontCommand : Prop :=
  (∀ (c : Instr) (rest : List Instr) (s : State), s.pending = c :: rest →
    step s = exec c { s with pending := rest })
  ∧ ∀ s : State, s.pending = [] →
    (dueEvents s ≠ [] → ∃ i ∈ dueEvents s, step s = exec i { s with orders := s.orders + 1 })
    ∧ (s.inReset = true → dueEvents s = [])
    ∧ (s.inReset = false →
        (50 ≤ s.belt.windowMs → .speedWindowEnd ∈ dueEvents s)
        ∧ (s.belt.state = .running → s.settings.idleTime ≠ 0 → 1000 * s.settings.idleTime ≤ s.belt.idleMs →
            .idleExpiry ∈ dueEvents s)
        ∧ (2000 ≤ s.matcher.silenceMs → s.matcher.silent = false → .identifierSilent ∈ dueEvents s)
        ∧ (∀ (d : DestId) (a : Awaiting), a ∈ (s.dest d).awaiting → a.leftMs = 0 →
            .confirmWindowExpiry d a.tag ∈ dueEvents s)
        ∧ (∀ q : Sender, (s.link q).state = .active → 1000 ≤ (s.link q).silenceMs →
            .linkSilence1000 q ∈ dueEvents s)
        ∧ (∀ q : Sender, (s.link q).state = .quiet → 4000 ≤ (s.link q).silenceMs → .linkLapse q ∈ dueEvents s)
        ∧ (∀ (p : Port) (l : List Byte) (ms : Nat), s.receiver p = { kept := some l, gapMs := some ms } → 5 < ms →
            .frameGapTimeout p ∈ dueEvents s))
    ∧ (dueEvents s = [] → s.inReset = true → step s = .next s)
    ∧ (dueEvents s = [] → s.inReset = false →
        ∃ t, step s = .next t
          ∧ t = { s with
              belt := t.belt, matcher := t.matcher, dests := t.dests, gates := t.gates
              links := t.links, receivers := t.receivers, refreshMs := s.refreshMs + 1 }
          ∧ t.belt = { s.belt with
              windowMs := s.belt.windowMs + 1
              runGuard := s.belt.runGuard.map fun n => min (n + 1) 1000
              idleMs := if s.belt.state = .running ∧ s.settings.idleTime ≠ 0 ∧ s.map = []
                  ∧ s.pins.readEye = false ∧ s.pins.infeedEye = false then min (s.belt.idleMs + 1) 600000
                else s.belt.idleMs
              infeedMs := if s.pins.infeedEye = true then min (s.belt.infeedMs + 1) 50 else s.belt.infeedMs
              tailMs := if s.belt.state = .unconfigured then s.belt.tailMs else min (s.belt.tailMs + 1) 2000 }
          ∧ t.matcher = { s.matcher with
              silenceMs := if s.belt.state = .running then min (s.matcher.silenceMs + 1) 2000
                else s.matcher.silenceMs }
          ∧ (∀ d : DestId, t.dest d = { s.dest d with
              rackMs := if (s.dest d).configured = true then min ((s.dest d).rackMs + 1) 50 else (s.dest d).rackMs
              awaiting := (s.dest d).awaiting.map fun a => { a with leftMs := a.leftMs - 1 }
              eyeMs := if (s.dest d).eye = .blocking ∨ (s.dest d).eye = .clearing then min ((s.dest d).eyeMs + 1) 20
                else (s.dest d).eyeMs
              blockMs := if s.confirmEye d = true ∧ (s.dest d).blockMs < s.settings.b then (s.dest d).blockMs + 1
                else (s.dest d).blockMs
              clearMs := if (s.dest d).holds.blocked = true ∧ s.confirmEye d = false then
                  min ((s.dest d).clearMs + 1) 1000
                else (s.dest d).clearMs })
          ∧ (∀ g : GateId, t.gate g = { s.gate g with
              cycle := (s.gate g).cycle.map fun c => { c with endIn := c.endIn - 1, offIn := c.offIn - 1 }
              checks := (s.gate g).checks.map fun c => { c with leftMs := c.leftMs - 1 } })
          ∧ (∀ q : Sender, t.link q = { s.link q with
              silenceMs := min ((s.link q).silenceMs + 1) 4000
              sending := (s.link q).sending.map fun f => { f with leftMs := f.leftMs - 1 } })
          ∧ ∀ p : Port, t.receiver p = { s.receiver p with
              gapMs := (s.receiver p).gapMs.map fun n => min (n + 1) 6 })

/-- Every command answers a next state, in every state, and leaves the queue of waiting commands alone. While reset is in force every command but the resets and the release leaves everything as it is, the input levels apart (R178; that the levels are followed is log 6). -/
def Obligations.EveryCommandCompletes : Prop :=
  ∀ (c : Instr) (s : State), ∃ t, exec c s = .next t ∧ t.pending = s.pending
    ∧ (s.inReset = true → c ≠ .powerOnReset → c ≠ .resetPin → c ≠ .resetRelease →
        { t with pins := s.pins } = s)

/-- Both resets set every gate record to the values of its table and the test record to NONE, with the GATE_FAULT level clear (R137). -/
def Obligations.ResetSetsGates : Prop :=
  ∀ (c : Instr) (s : State), c = .powerOnReset ∨ c = .resetPin →
    ∃ t, exec c s = .next t
      ∧ (∀ g : GateId, (t.gate g).configured = false ∧ (t.gate g).service = .inService
          ∧ (t.gate g).cycle = none ∧ (t.gate g).driveLeft = false ∧ (t.gate g).driveRight = false
          ∧ (t.gate g).lastFired = none ∧ (t.gate g).queue = [] ∧ (t.gate g).d = 2000
          ∧ (t.gate g).a = 400 ∧ (t.gate g).l = 60 ∧ (t.gate g).t = 250 ∧ (t.gate g).c = 600)
      ∧ t.test.result = .nothing ∧ t.test.gate = none ∧ t.test.fireAt = none
      ∧ t.bank.levels.getLsbD 7 = false

/-- Both resets bring every other block to its reset values: the part is the one after reset, with the reset in force, but for the input levels, which stand, and the model's own queue and counts of free values (R17, R28, R36, R50, R69, R95, R115, R116, R135, R156, R177, R178, R194). That the tail-full filter and the 20 ms filter of a confirm eye, for which the spec gives no reset value, start from 0 is the model's choice (log 24), and so is LATE of the test record (log 40). The eye states and the capture state are set from the eyes once more at the release, which another statement says. -/
def Obligations.ResetSetsBlocks : Prop :=
  ∀ (c : Instr) (s : State), c = .powerOnReset ∨ c = .resetPin →
    ∃ t, exec c s = .next t
      ∧ t = { State.reset with pins := s.pins, inReset := true, draws := s.draws, orders := s.orders, pending := s.pending }
      ∧ t.inReset = true ∧ t.pins = s.pins ∧ t.belt = {} ∧ t.belt.state = .unconfigured
      ∧ t.belt.motor = false ∧ t.belt.p = 0 ∧ t.belt.v = 0 ∧ t.belt.windowCount = 0 ∧ t.belt.causes = {}
      ∧ t.belt.tailFull = false ∧ t.belt.overspeed = false ∧ t.belt.runGuard = none
      ∧ t.belt.cleanWindows = 0 ∧ t.belt.zeroWindows = 0 ∧ t.belt.idleMs = 0
      ∧ t.reader.tagCounter = 0 ∧ t.reader.eyeBlocked = false
      ∧ t.matcher.silent = false ∧ t.matcher.silenceMs = 0 ∧ t.patterns = [] ∧ t.map = []
      ∧ (∀ (x : ItemClass) (o : ItemOwner), t.cell x o = []) ∧ t.routes.overflow = [] ∧ t.routes.breakage = []
      ∧ (∀ d : DestId, (t.dest d).configured = false ∧ (t.dest d).owner = none
          ∧ (t.dest d).state = .unclaimed ∧ (t.dest d).holds = {} ∧ (t.dest d).classes = 0
          ∧ (t.dest d).eligible = 0 ∧ (t.dest d).mode = .level ∧ (t.dest d).rearm = .armed
          ∧ (t.dest d).free = 0 ∧ (t.dest d).reserved = 0 ∧ (t.dest d).margin = 1
          ∧ (t.dest d).awaiting = [] ∧ (t.dest d).misses = 0 ∧ (t.dest d).rackMs = 0 ∧ (t.dest d).eye = .clear
          ∧ (t.dest d).eyeMs = 0 ∧ (t.dest d).blockMs = 0 ∧ (t.dest d).clearMs = 0)
      ∧ (∀ g : GateId, (t.gate g).checks = [] ∧ (t.gate g).fault = {})
      ∧ t.test.side = none ∧ t.test.late = false
      ∧ (∀ q : Sender, t.link q = {} ∧ (t.link q).state = .down ∧ (t.link q).replies = []
          ∧ (t.link q).sending = none ∧ (t.link q).hellos = 0 ∧ (t.link q).silenceMs = 0)
      ∧ (∀ p : Port, (t.receiver p).kept = none ∧ (t.receiver p).gapMs = none)
      ∧ (∀ st : Station, (t.noticeQueue st).dests = [] ∧ (t.noticeQueue st).places = []
          ∧ (t.noticeQueue st).seq = 0)
      ∧ (∀ n : Counter, t.counter n = 0 ∧ t.bank.snapshot[n.index] = 0)
      ∧ t.refreshMs = 0
      ∧ t.bank.levels = 0 ∧ t.bank.latches = 0 ∧ t.bank.enables = 0 ∧ t.bank.globalEnable = false ∧ t.bank.attn = false
      ∧ t.settings = { dT := 3000, w := 800, idleTime := 180, threshold := 60, b := 3000 }

/-- At the release of reset the read-point unit and every confirm eye start from the levels of their eyes (R28, R156). -/
def Obligations.ReleaseStartsFromEyes : Prop :=
  ∀ s : State, s.inReset = true →
    ∃ t, exec .resetRelease s = .next t ∧ SameExcept [.reset, .reader, .dests] s t ∧ t.inReset = false
      ∧ t.reader = { s.reader with capture := if s.pins.readEye then .clearWait none else .ready }
      ∧ ∀ d : DestId, t.dest d = { s.dest d with eye := if s.confirmEye d then .seen else .clear }

/-! ### Belt unit -/

/-- A pulse advances P, modulo 2^24, and the window count while the belt is RUNNING, and is discarded in every other state (R1; past 65,535 the window count is free, log 17). -/
def Obligations.PulseAdvancesRunningBelt : Prop :=
  ∀ s : State, s.inReset = false →
    ∃ t, exec .encoderPulse s = .next t ∧ SameExcept [.belt] s t
      ∧ (s.belt.state = .running →
          t.belt.still = { s.belt.still with p := s.belt.p + 1, windowCount := t.belt.windowCount }
            ∧ (s.belt.windowCount ≠ 0xFFFF#16 → t.belt.windowCount = s.belt.windowCount + 1))
      ∧ (s.belt.state ≠ .running → t.belt.still = s.belt.still)

/-- The end of a window that brings no encoder loss sets V to (3 V + sample) / 4 with the sample 20 s saturated at 4095, moves OVERSPEED with its clean-window count and the zero-window count, sets s to 0, and does nothing else (R3, R4, R5, R14; the guard's last millisecond is log 31). -/
def Obligations.WindowEndUpdatesSpeed : Prop :=
  ∀ s : State, s.inReset = false → 50 ≤ s.belt.windowMs → s.belt.zeroWindows < 8 →
    s.belt.state ≠ .running ∨ s.belt.windowCount ≠ 0 ∨ s.belt.zeroWindows < 7 →
    ∃ t, exec .speedWindowEnd s = .next t ∧ SameExcept [.belt] s t
      ∧ t.belt.still = { s.belt.still with
          v := (3 * s.belt.v + min (20 * s.belt.windowCount.toNat) 4095) / 4
          windowCount := 0, windowMs := 0
          overspeed := t.belt.overspeed, cleanWindows := t.belt.cleanWindows, zeroWindows := t.belt.zeroWindows }
      ∧ (205 ≤ s.belt.windowCount.toNat → t.belt.overspeed = true ∧ t.belt.cleanWindows = 0)
      ∧ (s.belt.windowCount.toNat < 205 → s.belt.overspeed = true → 19 ≤ s.belt.cleanWindows →
          t.belt.overspeed = false ∧ t.belt.cleanWindows = 0)
      ∧ (s.belt.windowCount.toNat < 205 → s.belt.overspeed = true → s.belt.cleanWindows < 19 →
          t.belt.overspeed = true ∧ t.belt.cleanWindows = s.belt.cleanWindows + 1)
      ∧ (s.belt.windowCount.toNat < 205 → s.belt.overspeed = false →
          t.belt.overspeed = false ∧ t.belt.cleanWindows = s.belt.cleanWindows)
      ∧ (if s.belt.state = .running ∧ (s.belt.runGuard = none ∨ ∃ ms, s.belt.runGuard = some ms ∧ 1000 ≤ ms) then
          t.belt.zeroWindows = if s.belt.windowCount = 0 then s.belt.zeroWindows + 1 else 0
        else t.belt.zeroWindows = s.belt.zeroWindows)

/-- The eighth zero window after the run guard records ENCODER_LOSS: the belt is HALTED with its motor off and the count back at 0, every entry but a token is SUSPECT with F and LATE removed, every fire queue is empty, a capture in progress is abandoned, a token not yet fired is ABORTED and leaves the map, one that has fired keeps its record and its result, no destination moves, and ENCODER_LOSSES rises (R14, R27, R61, R66, R67, R136; that a guard that stands at 1000 ms counts as elapsed is log 31). -/
def Obligations.EighthZeroWindowLosesEncoder : Prop :=
  ∀ s : State, s.inReset = false → 50 ≤ s.belt.windowMs → s.belt.state = .running →
    (s.belt.runGuard = none ∨ ∃ ms, s.belt.runGuard = some ms ∧ 1000 ≤ ms) →
    s.belt.windowCount = 0 → s.belt.zeroWindows = 7 →
    ∃ t, exec .speedWindowEnd s = .next t
      ∧ SameExcept [.belt, .reader, .map, .gates, .test, .counters] s t
      ∧ Raised [.ofPart .encoderLosses] s t
      ∧ t.belt.state = .halted ∧ t.belt.causes = { s.belt.causes with encoderLoss := true }
      ∧ t.belt.motor = false ∧ t.belt.runGuard = none ∧ t.belt.zeroWindows = 0 ∧ t.belt.p = s.belt.p
      ∧ t.belt.v = 3 * s.belt.v / 4
      ∧ (t.map.filter fun e => !e.isTest) = (s.map.filter fun e => !e.isTest).map
          (fun e => { e with fireAt := none, late := false, state := .suspect })
      ∧ (∀ g : GateId, t.gate g = { s.gate g with queue := [] })
      ∧ t.reader.tagCounter = s.reader.tagCounter ∧ t.reader.eyeBlocked = s.reader.eyeBlocked
      ∧ (∀ r, s.reader.capture = .opened r → t.reader.capture = .clearWait none)
      ∧ (∀ r x m, s.reader.capture = .committed r x m → t.reader.capture = .clearWait none)
      ∧ (s.find .token = none → t.test = s.test)
      ∧ (∀ (e : Entry) (d : DestId), s.find .token = some e → e.dest = some (.gateDest d) →
          e.state = .routed ∨ .token ∈ (s.gate (destGate d)).queue →
          t.test = { s.test with result := .aborted } ∧ t.bank.latches.getLsbD 12 = true
            ∧ (MapLaw s → t.find .token = none ∧ t.map.length + 1 = s.map.length))
      ∧ ∀ (e : Entry) (d : DestId), s.find .token = some e → e.dest = some (.gateDest d) →
          e.state ≠ .routed → .token ∉ (s.gate (destGate d)).queue →
          t.find .token = some e ∧ t.map.length = s.map.length ∧ t.test = s.test

/-- The run guard elapses at 1000 ms (R6); the idle timer at the idle time stops the belt (R9); 50 ms of a blocked infeed eye wake an idle-stopped belt, with the motor on, the idle timer, the zero-window count and the identifier silence timer at 0 and the run guard started (R6, R10, R35). A change of the infeed eye or of the tail-full input sets the level and starts its filter afresh, and a blocked infeed eye holds the idle timer at 0 (R6, R9, R10, R13, R35; that the window count s stands as the belt leaves RUNNING is log 38). -/
def Obligations.BeltTimersAndFilters : Prop :=
  ∀ s : State, s.inReset = false →
    (∀ ms, s.belt.runGuard = some ms → 1000 ≤ ms →
      ∃ t, exec .runGuardElapsed s = .next t ∧ SameExcept [.belt] s t
        ∧ t.belt.still = { s.belt.still with runGuard := none })
    ∧ (s.belt.state = .running → s.settings.idleTime ≠ 0 → 1000 * s.settings.idleTime ≤ s.belt.idleMs →
      ∃ t, exec .idleExpiry s = .next t ∧ SameExcept [.belt] s t
        ∧ t.belt.still = { s.belt.still with state := .idleStopped, motor := false, runGuard := none })
    ∧ (s.belt.state = .idleStopped → s.pins.infeedEye = true → 50 ≤ s.belt.infeedMs →
      ∃ t, exec .infeedWake s = .next t ∧ SameExcept [.belt, .matcher] s t
        ∧ t.belt.still = { s.belt.still with
            state := .running, motor := true, zeroWindows := 0, runGuard := some 0 }
        ∧ t.belt.idleMs = 0 ∧ t.matcher = { s.matcher with silenceMs := 0 })
    ∧ ∀ b : Bool,
      (s.pins.infeedEye = !b →
        ∃ t, exec (.infeedEyeChange b) s = .next t ∧ SameExcept [.belt, .pins] s t
          ∧ t.pins = { s.pins with infeedEye := b } ∧ t.belt.still = { s.belt.still with infeedMs := 0 }
          ∧ (b = true → t.belt.idleMs = 0))
      ∧ (s.pins.tailFull = !b →
        ∃ t, exec (.tailFullInputChange b) s = .next t ∧ SameExcept [.belt, .pins] s t
          ∧ t.pins = { s.pins with tailFull := b } ∧ t.belt.still = { s.belt.still with tailMs := 0 })

/-- An opening of the stop chain halts a RUNNING or IDLE_STOPPED belt, is recorded in HALTED, and records nothing in STOPPED and UNCONFIGURED; a closing removes no cause (R11, R12; that the window count s stands as the belt leaves RUNNING is log 38). -/
def Obligations.StopChainHaltsBelt : Prop :=
  ∀ s : State, s.inReset = false →
    (s.pins.chainOpen = false →
      ∃ t, exec .stopChainOpen s = .next t ∧ SameExcept [.belt, .pins] s t
        ∧ t.pins = { s.pins with chainOpen := true }
        ∧ (s.belt.state = .running ∨ s.belt.state = .idleStopped →
            t.belt.still = { s.belt.still with
              state := .halted, motor := false, runGuard := none
              causes := { s.belt.causes with stopChain := true } }
            ∧ t.belt.idleMs = 0)
        ∧ (s.belt.state = .halted →
            t.belt.still = { s.belt.still with causes := { s.belt.causes with stopChain := true } })
        ∧ (s.belt.state = .stopped ∨ s.belt.state = .unconfigured → t.belt.still = s.belt.still))
    ∧ ∃ t, exec .stopChainClose s = .next t ∧ SameExcept [.pins] s t
        ∧ t.pins = { s.pins with chainOpen := false }

/-- The tail-full level is ASSERTED after 50 ms and recorded as a cause where the belt is RUNNING, IDLE_STOPPED or HALTED; it is CLEAR after 2000 ms, which removes the cause and resumes a HALTED belt that has no other (R13; that the window count s stands as the belt leaves RUNNING is log 38). -/
def Obligations.TailFullLevelMovesBelt : Prop :=
  ∀ s : State, s.inReset = false → s.belt.state ≠ .unconfigured →
    (s.pins.tailFull = true → s.belt.tailFull = false → 50 ≤ s.belt.tailMs →
      ∃ t, exec .tailFullAsserted s = .next t ∧ SameExcept [.belt] s t
        ∧ (s.belt.state = .stopped → t.belt.still = { s.belt.still with tailFull := true })
        ∧ (s.belt.state = .halted → t.belt.still = { s.belt.still with
            tailFull := true, causes := { s.belt.causes with tailFull := true } })
        ∧ (s.belt.state = .running ∨ s.belt.state = .idleStopped →
            t.belt.still = { s.belt.still with
              tailFull := true, state := .halted, motor := false, runGuard := none
              causes := { s.belt.causes with tailFull := true } }))
    ∧ (s.pins.tailFull = false → s.belt.tailFull = true → 2000 ≤ s.belt.tailMs →
      ∃ t, exec .tailFullCleared s = .next t ∧ SameExcept [.belt, .matcher] s t
        ∧ if s.belt.state = .halted ∧ s.belt.causes.stopChain = false ∧ s.belt.causes.encoderLoss = false then
            t.belt.still = { s.belt.still with
              tailFull := false, causes := {}, state := .running, motor := true
              zeroWindows := 0, runGuard := some 0 }
            ∧ t.matcher = { s.matcher with silenceMs := 0 }
          else
            t.belt.still = { s.belt.still with
              tailFull := false, causes := { s.belt.causes with tailFull := false } }
            ∧ t.matcher = s.matcher)

/-- START runs a STOPPED or IDLE_STOPPED belt whose stop chain is closed and tail-full level CLEAR, and is refused with STATE otherwise; STOP takes RUNNING and IDLE_STOPPED to STOPPED, is DONE in STOPPED and refused in HALTED; both are refused with NOT_READY in UNCONFIGURED, and otherwise carry the belt state and the causes after the request (R6, R7, R8, R35; that the window count s stands as the belt leaves RUNNING is log 38). -/
def Obligations.StartAndStop : Prop :=
  ∀ (s : State) (tag : Byte), Served s .site →
    (∃ t, exec (.start (.sender .site) tag []) s = .next t ∧ Took .site [.belt, .matcher] s t
      ∧ (if s.belt.state = .unconfigured then
          t.belt.still = s.belt.still ∧ t.matcher = s.matcher ∧ Replied s t .site tag .start .notReady []
        else if (s.belt.state = .stopped ∨ s.belt.state = .idleStopped)
            ∧ s.pins.chainOpen = false ∧ s.belt.tailFull = false then
          t.belt.still = { s.belt.still with
              state := .running, motor := true, zeroWindows := 0, runGuard := some 0 }
            ∧ t.belt.idleMs = 0 ∧ t.matcher = { s.matcher with silenceMs := 0 }
            ∧ Replied s t .site tag .start .done (beltBytes t.belt)
        else t.belt.still = s.belt.still ∧ t.matcher = s.matcher
            ∧ Replied s t .site tag .start .state (beltBytes s.belt)))
    ∧ ∃ t, exec (.stop (.sender .site) tag []) s = .next t ∧ Took .site [.belt] s t
      ∧ (if s.belt.state = .unconfigured then
          t.belt.still = s.belt.still ∧ Replied s t .site tag .stop .notReady []
        else if s.belt.state = .halted then
          t.belt.still = s.belt.still ∧ Replied s t .site tag .stop .state (beltBytes s.belt)
        else if s.belt.state = .stopped then
          t.belt.still = s.belt.still ∧ Replied s t .site tag .stop .done (beltBytes s.belt)
        else
          t.belt.still = { s.belt.still with state := .stopped, motor := false, runGuard := none }
            ∧ Replied s t .site tag .stop .done (beltBytes t.belt))

/-- RESUME of a HALTED belt runs it with an empty cause set where every cause is clearable, discarding the SUSPECT entries after an encoder loss, each with its reservation released and counted in SUSPECT_DISCARDS and each destination that closes offered to its owner, and is refused with STATE otherwise, with the set whole; it is DONE in RUNNING, refused with STATE in STOPPED and IDLE_STOPPED and with NOT_READY in UNCONFIGURED (R15, R63, R79, R102, R114; that a free port takes a notice as the event ends is log 11). -/
def Obligations.ResumeClearsWholeSet : Prop :=
  ∀ (s : State) (tag : Byte), Served s .site → MapLaw s →
    ∃ t, exec (.resume (.sender .site) tag []) s = .next t
      ∧ (if s.belt.state = .unconfigured then
          Took .site [] s t ∧ Replied s t .site tag .resume .notReady []
        else if s.belt.state ≠ .halted then
          Took .site [] s t
            ∧ Replied s t .site tag .resume (if s.belt.state = .running then .done else .state) (beltBytes s.belt)
        else if s.belt.causes.tailFull = true ∨ (s.belt.causes.stopChain = true ∧ s.pins.chainOpen = true) then
          Took .site [] s t ∧ Replied s t .site tag .resume .state (beltBytes s.belt)
        else
          t.belt.still = { s.belt.still with
                state := .running, motor := true, causes := {}, zeroWindows := 0, runGuard := some 0 }
            ∧ t.matcher = { s.matcher with silenceMs := 0 }
            ∧ (if s.belt.causes.encoderLoss = true then
                let gone := s.map.filter fun e => e.state == .suspect
                TookCounting .site [.belt, .matcher, .map, .dests, .notices] s t
                  ∧ DestNotices (some .site) s t
                  ∧ t.map = s.map.filter (fun e => e.state != .suspect)
                  ∧ (∀ d : DestId,
                      let n := (gone.filter fun e => decide (e.dest = some (.gateDest d))).length
                      t.dest d = { s.dest d with
                        reserved := (s.dest d).reserved - n
                        state := if n ≠ 0 ∧ (s.dest d).state = .draining ∧ (s.dest d).reserved - n = 0 then .closed
                          else (s.dest d).state })
                  ∧ t.counter (.ofPart .suspectDiscards) = (if gone = [] then s.counter (.ofPart .suspectDiscards)
                      else min (s.counter (.ofPart .suspectDiscards) + gone.length) 65535)
                  ∧ ∀ c : Counter, c ≠ .ofPart .suspectDiscards → c ≠ .ofPort (.sender .site) .framesGood →
                      t.counter c = s.counter c
              else Took .site [.belt, .matcher] s t)
            ∧ Replied s t .site tag .resume .done (beltBytes t.belt))

/-! ### Read point and identity -/

/-- A blockage opens a capture at P in READY and removes the clear-since position in CLEAR_WAIT. A clear drops a capture shorter than 8 counts, and commits and ends a longer one that is still open: where it is not refused its entry, with the next tag, R and the length travelled since R, joins the newest end, after the oldest of 8 PENDING entries has been given up, and a refused one counts MAP_OVERRUN. A clear closes the length of a COMMITTED capture's entry at the distance travelled since R, and in CLEAR_WAIT records the clear-since position (R19, R20, R21, R22, R23, R24, R26, R32, R87). -/
def Obligations.ReadEyeMovesCapture : Prop :=
  ∀ s : State, s.inReset = false →
    (s.pins.readEye = false →
      ∃ t, exec .readEyeBlock s = .next t ∧ SameExcept [.pins, .reader] s t
        ∧ t.pins = { s.pins with readEye := true }
        ∧ (s.reader.capture = .ready → t.reader = { s.reader with capture := .opened s.belt.p })
        ∧ (∀ x, s.reader.capture = .clearWait x → t.reader = { s.reader with capture := .clearWait none }))
    ∧ (s.pins.readEye = true →
      ∃ t, exec .readEyeClear s = .next t ∧ t.pins = { s.pins with readEye := false }
        ∧ (∀ r, s.reader.capture = .opened r → (s.belt.p - r).toNat < 8 →
            SameExcept [.pins, .reader] s t ∧ t.reader = { s.reader with capture := .ready })
        ∧ (∀ r, s.reader.capture = .opened r → 8 ≤ (s.belt.p - r).toNat →
            t.reader = { s.reader with capture := .ready, tagCounter := s.reader.tagCounter + 1 }
              ∧ (if 64 ≤ s.map.length ∨ s.find (.tag (s.reader.tagCounter + 1)) ≠ none then
                  SameExcept [.pins, .reader, .counters] s t
                    ∧ Raised [.ofPart .captures, .ofPart .mapOverrun] s t
                else
                  let new : Entry := { tag := some (s.reader.tagCounter + 1), r := r
                                       length := some (s.belt.p - r).toNat, state := .pending }
                  if (pendingEntries s).length < 8 then
                    SameExcept [.pins, .reader, .map, .counters] s t ∧ Raised [.ofPart .captures] s t
                      ∧ t.map = s.map ++ [new]
                  else
                    SameExcept [.pins, .reader, .map, .dests, .counters] s t
                      ∧ t.map.length = s.map.length + 1 ∧ t.map.getLast? = some new
                      ∧ t.counter (.ofPart .captures) = min (s.counter (.ofPart .captures) + 1) 65535
                      ∧ t.counter (.ofPart .idLost) = min (s.counter (.ofPart .idLost) + 1) 65535
                      ∧ ∀ (e : Entry) (rest : List Entry), MapLaw s → pendingEntries s = e :: rest →
                          t.map = (s.map.map fun x => if x.ref = e.ref then decidedEntry s e.unnamed none else x)
                              ++ [new]
                            ∧ AccountsOf (decidedAccounts s e.unnamed none) t))
        ∧ (∀ (r : Pos) (x : Tag) (e : Entry), s.reader.capture = .committed r x true →
            s.find (.tag x) = some e → e.state ≠ .suspect →
            SameExcept [.pins, .reader, .map] s t ∧ t.reader = { s.reader with capture := .ready }
              ∧ t.find (.tag x) = some { e with length := some (s.belt.p - r).toNat }
              ∧ t.map.length = s.map.length ∧ SameOtherEntries s t (.tag x))
        ∧ (∀ (r : Pos) (x : Tag), s.reader.capture = .committed r x false →
            SameExcept [.pins, .reader] s t ∧ t.reader = { s.reader with capture := .ready })
        ∧ (∀ x, s.reader.capture = .clearWait x →
            SameExcept [.pins, .reader] s t ∧ t.reader = { s.reader with capture := .clearWait (some s.belt.p) }))

/-- A commit gives the next tag and counts CAPTURES. With room in the map and its tag not live, a PENDING entry with the tag and R, its length open, joins the newest end. With 8 entries PENDING the oldest of them is given up first: it becomes UNKNOWN with owner NONE, is decided by the route unit, ROUTED or TO_TAIL, and ID_LOST rises; every other entry stands in its place. A refused capture counts MAP_OVERRUN and makes no entry (R21, R22, R23, R32, R87). -/
def Obligations.CommitMakesPendingEntry : Prop :=
  ∀ (s : State) (r : Pos), s.inReset = false → s.reader.capture = .opened r →
    reached s.belt.p (r + Machine.dist 8) = true →
    ∃ t, exec .captureCommit s = .next t
      ∧ (if 64 ≤ s.map.length ∨ s.find (.tag (s.reader.tagCounter + 1)) ≠ none then
          SameExcept [.reader, .counters] s t
            ∧ Raised [.ofPart .captures, .ofPart .mapOverrun] s t
            ∧ t.reader = { s.reader with
                tagCounter := s.reader.tagCounter + 1
                capture := .committed r (s.reader.tagCounter + 1) false }
        else
          t.reader = { s.reader with
              tagCounter := s.reader.tagCounter + 1
              capture := .committed r (s.reader.tagCounter + 1) true }
            ∧ (if (pendingEntries s).length < 8 then
                SameExcept [.reader, .map, .counters] s t ∧ Raised [.ofPart .captures] s t
                  ∧ t.map = s.map
                      ++ [{ tag := some (s.reader.tagCounter + 1), r := r, length := none, state := .pending }]
              else
                SameExcept [.reader, .map, .dests, .counters] s t
                  ∧ t.map.length = s.map.length + 1
                  ∧ t.map.getLast? = some
                      { tag := some (s.reader.tagCounter + 1), r := r, length := none, state := .pending }
                  ∧ t.counter (.ofPart .captures) = min (s.counter (.ofPart .captures) + 1) 65535
                  ∧ t.counter (.ofPart .idLost) = min (s.counter (.ofPart .idLost) + 1) 65535
                  ∧ ∀ (e : Entry) (rest : List Entry), MapLaw s → pendingEntries s = e :: rest →
                      t.map = (s.map.map fun x => if x.ref = e.ref then decidedEntry s e.unnamed none else x)
                          ++ [{ tag := some (s.reader.tagCounter + 1), r := r, length := none, state := .pending }]
                        ∧ AccountsOf (decidedAccounts s e.unnamed none) t))

/-- The clamp closes the length at 1200 with CLAMPED_LENGTH and sets READ_EYE_BLOCKED and CLEAR_WAIT; 8 counts of clear eye end CLEAR_WAIT and clear the level (R25, R26). -/
def Obligations.LongBlockageIsClamped : Prop :=
  ∀ s : State, s.inReset = false →
    (∀ (r : Pos) (x : Tag) (made : Bool), s.reader.capture = .committed r x made →
      reached s.belt.p (r + Machine.dist 1200) = true →
      ∃ t, exec .lengthClamp s = .next t ∧ SameExcept [.reader, .map] s t
        ∧ t.reader = { s.reader with capture := .clearWait none, eyeBlocked := true }
        ∧ t.bank.levels.getLsbD 6 = true ∧ SameOtherEntries s t (.tag x) ∧ t.map.length = s.map.length
        ∧ (∀ e, made = true → s.find (.tag x) = some e → e.state ≠ .suspect →
            t.find (.tag x) = some { e with length := some 1200, clampedLength := true })
        ∧ (made = false → t.map = s.map))
    ∧ (∀ x, s.reader.capture = .clearWait (some x) → s.pins.readEye = false →
      reached s.belt.p (x + Machine.dist 8) = true →
      ∃ t, exec .clearWaitEnd s = .next t ∧ SameExcept [.reader] s t
        ∧ t.reader = { s.reader with capture := .ready, eyeBlocked := false }
        ∧ t.bank.levels.getLsbD 6 = false)

/-- Every good report restarts the silence timer and clears IDENTIFIER_SILENT. A report that no PENDING entry answers counts REPORT_UNMATCHED and changes no entry. A report that answers to a PENDING entry first gives up the PENDING entries older than it, oldest first, each UNKNOWN with owner NONE, counted as ID_LOST and decided on the credits that the one before it left; then it settles the entry: the class by the threshold, the owner by the pattern table, where a hit is made most recent, and the route unit's decision. Every other entry stands (R30, R31, R32, R33, R35, R40, R56, R87). -/
def Obligations.ItemReportIsMatchedOrCounted : Prop :=
  ∀ (s : State) (tag : Byte) (pl : List Byte), s.inReset = false → pl.length = 6 →
    ∃ t, exec (.itemReport .identifier tag pl) s = .next t
      ∧ t.matcher = { silenceMs := 0, silent := false }
      ∧ t.receiver .identifier = {} ∧ (∀ q : Sender, t.receiver (.sender q) = s.receiver (.sender q))
      ∧ ((pendingEntries s).find? (hasSeq (byteAt pl 0)) = none →
          SameExcept [.matcher, .receivers, .counters] s t
            ∧ Raised [.ofPort .identifier .framesGood, .ofPart .reportUnmatched] s t)
      ∧ ∀ (older : List Entry) (e : Entry) (rest : List Entry), MapLaw s → pendingEntries s = older ++ e :: rest →
          (∀ x ∈ older, hasSeq (byteAt pl 0) x = false) → hasSeq (byteAt pl 0) e = true →
          SameExcept [.matcher, .receivers, .map, .dests, .patterns, .counters] s t
            ∧ t.map.length = s.map.length
            ∧ (∀ r : EntryRef, r ≠ e.ref → (∀ x ∈ older, r ≠ x.ref) → t.find r = s.find r)
            ∧ t.counter (.ofPart .reportsMatched) = min (s.counter (.ofPart .reportsMatched) + 1) 65535
            ∧ t.counter (.ofPart .idLost) = (if older = [] then s.counter (.ofPart .idLost)
                else min (s.counter (.ofPart .idLost) + older.length) 65535)
            ∧ (wordAt pl 4 = 0 ∨ patternOf (BitVec.ofNat 16 (wordAt pl 4)) s.patterns = none →
                t.patterns = s.patterns)
            ∧ (∀ x, wordAt pl 4 ≠ 0 → patternOf (BitVec.ofNat 16 (wordAt pl 4)) s.patterns = some x →
                t.patterns = (s.patterns.filter fun y => y.code != x.code) ++ [x])
            ∧ (∀ (before : List Entry) (x : Entry) (after : List Entry), older = before ++ x :: after →
                t.find x.ref
                  = some (decidedEntry (decidedInTurn (before.map Entry.unnamed) s) x.unnamed none))
            ∧ (let e' : Entry := { e with
                 cls := some (if s.settings.threshold ≤ min (byteAt pl 3) 100 then clampClass (byteAt pl 1)
                   else ItemClass.unknown)
                 owner := some (if wordAt pl 4 = 0 then .nobody
                   else lookupOwner (BitVec.ofNat 16 (wordAt pl 4)) s.patterns)
                 pattern := if wordAt pl 4 = 0 then none else some (BitVec.ofNat 16 (wordAt pl 4))
                 broken := yesAt pl 2
                 confidence := some (min (byteAt pl 3) 100) }
               let u := decidedInTurn (older.map Entry.unnamed) s
               t.find e.ref = some (decidedEntry u e' none) ∧ AccountsOf (decidedAccounts u e' none) t)

/-- At the end of its ID window a PENDING entry becomes UNKNOWN with owner NONE and is decided by the route unit, and ID_EXPIRED rises (R34, R87); 2000 ms of silence set IDENTIFIER_SILENT (R35). -/
def Obligations.IdWindowAndSilence : Prop :=
  ∀ s : State, s.inReset = false →
    (∀ (x : Tag) (e : Entry), s.find (.tag x) = some e → e.state = .pending →
      reached s.belt.p (e.r + Machine.dist s.settings.w) = true →
      ∃ t, exec (.idWindowExpiry x) s = .next t ∧ SameExcept [.map, .dests, .counters] s t
        ∧ SameOtherEntries s t (.tag x) ∧ t.map.length = s.map.length
        ∧ t.find (.tag x) = some (decidedEntry s e.unnamed none)
        ∧ AccountsOf (decidedAccounts s e.unnamed none) t
        ∧ t.counter (.ofPart .idExpired) = min (s.counter (.ofPart .idExpired) + 1) 65535)
    ∧ (2000 ≤ s.matcher.silenceMs → s.matcher.silent = false →
      ∃ t, exec .identifierSilent s = .next t ∧ SameExcept [.matcher] s t
        ∧ t.matcher = { s.matcher with silent := true } ∧ t.bank.levels.getLsbD 5 = true)

/-! ### Routing -/

/-- A destination is eligible exactly where it is configured at a configured gate IN_SERVICE, OPEN, free of holds, accepts the class, may receive the item, is in credit by the signed test, and has its arming point ahead of P where the length is closed. The chosen list is the breakage list for a broken item and otherwise the cell of its class and owner. The first eligible member of the chosen list wins; only where it has none, the first eligible member of the overflow list; a reroute leaves the old destination out of both. The entry takes the winner, with R_d and ASSIGNED risen, and is ROUTED, or without one takes T and is TO_TAIL with no account moved (R79, R82, R84, R85, R86, R87, R88, R91). -/
def Obligations.DecisionTakesEligibleMember : Prop :=
  ∀ (s : State) (e : Entry) (leftOut : Option DestId),
    (∀ d : DestId, eligible s e d = true ↔
      (s.dest d).configured = true ∧ (s.gate (destGate d)).configured = true
        ∧ (s.dest d).state = .opened ∧ (s.dest d).holds = {}
        ∧ (∃ c, e.cls = some c ∧ (s.dest d).classes.getLsbD c.val = true)
        ∧ mayReceive (s.dest d).owner e
        ∧ ((s.dest d).margin : Int) < ((s.dest d).free : Int) - ((s.dest d).reserved : Int)
        ∧ (s.gate (destGate d)).service = .inService
        ∧ ∀ n, e.length = some n →
            reached s.belt.p
              (e.r + Machine.dist (s.gate (destGate d)).d + Machine.dist (n / 2)
                - Machine.dist (s.gate (destGate d)).a) = false)
    ∧ (e.broken = true → chosenList s e = s.routes.breakage)
    ∧ (∀ (c : ItemClass) (o : ItemOwner), e.broken = false → e.cls = some c → e.owner = some o →
        chosenList s e = s.cell c o)
    ∧ (let may : DestId → Prop := fun d => leftOut ≠ some d ∧ eligible s e d = true
       (∀ d : DestId, search s e leftOut = some d →
          (∃ before after, chosenList s e = before ++ d :: after ∧ may d ∧ ∀ x ∈ before, ¬ may x)
          ∨ (∀ x ∈ chosenList s e, ¬ may x)
            ∧ ∃ before after, s.routes.overflow = before ++ d :: after ∧ may d ∧ ∀ x ∈ before, ¬ may x)
       ∧ (search s e leftOut = none → ∀ d ∈ chosenList s e ++ s.routes.overflow, ¬ may d))
    ∧ ∀ r : EntryRef, s.find r = some e →
        (let t := decideRoute r leftOut s
         SameExcept [.map, .dests, .counters] s t ∧ SameOtherEntries s t r ∧ t.map.length = s.map.length
           ∧ (∀ d : DestId, search s e leftOut = some d →
               t.find r = some { e with dest := some (.gateDest d), state := .routed }
                 ∧ t.dest d = { s.dest d with reserved := (s.dest d).reserved + 1 } ∧ SameOtherDests s t d
                 ∧ Raised [.ofDest d .assigned] s t)
           ∧ (search s e leftOut = none →
               t.find r = some { e with dest := some .tail, state := .toTail }
                 ∧ SameDests s t ∧ Raised [] s t))

/-- A station's WRITE-ROUTE: the checks in their order, each refusal leaving every list, and otherwise its cell of the class replaced by the kept list, which every reply carries; DONE_TRUNCATED where the kept list is shorter than the list sent (R73, R75; that an ARGUMENT refusal carries the kept list is log 16). -/
def Obligations.StationWritesItsCell : Prop :=
  ∀ (s : State) (st : Station) (tag x : Byte) (l : List Byte), ServedCommissioned s (.station st) →
    l.length < 40 →
    ∃ t, exec (.writeRoute (.sender (.station st)) tag (x :: byteOf l.length :: l)) s = .next t
      ∧ Took (.station st) [.routes] s t
      ∧ (if 14 ≤ x.toNat ∨ ∃ b ∈ l, 24 ≤ b.toNat then
          t.routes = s.routes ∧ Replied s t (.station st) tag .writeRoute .argument (listBytes (keptList l))
        else if ∃ d ∈ asDests (keptList l), (s.gate (destGate d)).configured = false then
          t.routes = s.routes ∧ Replied s t (.station st) tag .writeRoute .badConfig (listBytes (keptList l))
        else if ∃ d ∈ asDests (keptList l),
            (s.dest d).owner ≠ some (.station st) ∧ (s.dest d).owner ≠ some .site then
          t.routes = s.routes ∧ Replied s t (.station st) tag .writeRoute .notOwner (listBytes (keptList l))
        else
          (∀ c : ItemClass, c.val = x.toNat → t.cell c (.outlet st) = asDests (keptList l))
            ∧ (∀ (c : ItemClass) (o : ItemOwner), c.val ≠ x.toNat ∨ o ≠ .outlet st → t.cell c o = s.cell c o)
            ∧ t.routes.overflow = s.routes.overflow ∧ t.routes.breakage = s.routes.breakage
            ∧ Replied s t (.station st) tag .writeRoute
                (if (keptList l).length = l.length then .done else .doneTruncated) (listBytes (keptList l)))

/-- SET-LIST and WRITE-ROUTE from the site: a selector that names no list, a class above 13, an owner above 6 or a member out of range is ARGUMENT; before COMMISSION there is no other check, and after it a kept member at an unconfigured gate is BAD_CONFIG and one that is not SITE's is NOT_OWNER, but for the cells of O0 to O5; otherwise the list named is replaced by the kept list. Every reply carries the kept list. READ-ROUTE replies with the list it names and changes nothing, and is ARGUMENT for a class above 13, an owner above 6 or a selector above 2 (R74, R75, R76; the kept list of an ARGUMENT is log 16, and that READ-ROUTE's ARGUMENT has no result is log 28). -/
def Obligations.SiteLoadsListsAndReadsThem : Prop :=
  ∀ (s : State) (tag : Byte),
    (∀ l : List Byte, Served s .site → l.length < 40 →
      (∃ t, exec (.setList (.sender .site) tag (1 :: byteOf l.length :: l)) s = .next t
        ∧ Took .site [.routes] s t
        ∧ (if ∃ b ∈ l, 24 ≤ b.toNat then
            t.routes = s.routes ∧ Replied s t .site tag .setList .argument (listBytes (keptList l))
          else if s.belt.state ≠ .unconfigured
              ∧ ∃ d ∈ asDests (keptList l), (s.gate (destGate d)).configured = false then
            t.routes = s.routes ∧ Replied s t .site tag .setList .badConfig (listBytes (keptList l))
          else if s.belt.state ≠ .unconfigured ∧ ∃ d ∈ asDests (keptList l), (s.dest d).owner ≠ some .site then
            t.routes = s.routes ∧ Replied s t .site tag .setList .notOwner (listBytes (keptList l))
          else t.routes = { s.routes with overflow := asDests (keptList l) }
            ∧ Replied s t .site tag .setList
                (if (keptList l).length = l.length then .done else .doneTruncated) (listBytes (keptList l))))
      ∧ (∃ t, exec (.setList (.sender .site) tag (2 :: byteOf l.length :: l)) s = .next t
        ∧ Took .site [.routes] s t
        ∧ (if ∃ b ∈ l, 24 ≤ b.toNat then
            t.routes = s.routes ∧ Replied s t .site tag .setList .argument (listBytes (keptList l))
          else if s.belt.state ≠ .unconfigured
              ∧ ∃ d ∈ asDests (keptList l), (s.gate (destGate d)).configured = false then
            t.routes = s.routes ∧ Replied s t .site tag .setList .badConfig (listBytes (keptList l))
          else if s.belt.state ≠ .unconfigured ∧ ∃ d ∈ asDests (keptList l), (s.dest d).owner ≠ some .site then
            t.routes = s.routes ∧ Replied s t .site tag .setList .notOwner (listBytes (keptList l))
          else t.routes = { s.routes with breakage := asDests (keptList l) }
            ∧ Replied s t .site tag .setList
                (if (keptList l).length = l.length then .done else .doneTruncated) (listBytes (keptList l))))
      ∧ (∀ (c : ItemClass) (o : ItemOwner),
        ∃ t, exec (.writeRoute (.sender .site) tag (byteOf c.val :: byteOf o.number :: byteOf l.length :: l)) s
            = .next t
          ∧ Took .site [.routes] s t
          ∧ (if ∃ b ∈ l, 24 ≤ b.toNat then
              t.routes = s.routes ∧ Replied s t .site tag .writeRoute .argument (listBytes (keptList l))
            else if s.belt.state ≠ .unconfigured
                ∧ ∃ d ∈ asDests (keptList l), (s.gate (destGate d)).configured = false then
              t.routes = s.routes ∧ Replied s t .site tag .writeRoute .badConfig (listBytes (keptList l))
            else if s.belt.state ≠ .unconfigured ∧ o = .nobody
                ∧ ∃ d ∈ asDests (keptList l), (s.dest d).owner ≠ some .site then
              t.routes = s.routes ∧ Replied s t .site tag .writeRoute .notOwner (listBytes (keptList l))
            else t.cell c o = asDests (keptList l)
              ∧ (∀ (c' : ItemClass) (o' : ItemOwner), c' ≠ c ∨ o' ≠ o → t.cell c' o' = s.cell c' o')
              ∧ t.routes.overflow = s.routes.overflow ∧ t.routes.breakage = s.routes.breakage
              ∧ Replied s t .site tag .writeRoute
                  (if (keptList l).length = l.length then .done else .doneTruncated) (listBytes (keptList l))))
      ∧ ∀ x y : Byte,
        (x ≠ 1 → x ≠ 2 → ∃ t, exec (.setList (.sender .site) tag (x :: byteOf l.length :: l)) s = .next t
          ∧ Took .site [] s t ∧ Replied s t .site tag .setList .argument (listBytes (keptList l)))
        ∧ (14 ≤ x.toNat ∨ 7 ≤ y.toNat →
          ∃ t, exec (.writeRoute (.sender .site) tag (x :: y :: byteOf l.length :: l)) s = .next t
            ∧ Took .site [] s t ∧ Replied s t .site tag .writeRoute .argument (listBytes (keptList l))))
    ∧ (∀ (st : Station) (x : Byte), ServedCommissioned s (.station st) →
      ∃ t, exec (.readRoute (.sender (.station st)) tag [x]) s = .next t
        ∧ Took (.station st) [] s t
        ∧ match inRange? 14 x.toNat with
          | none => Replied s t (.station st) tag .readRoute .argument []
          | some c =>
            Replied s t (.station st) tag .readRoute .done (listBytes (destBytes (s.cell c (.outlet st)))))
    ∧ (∀ (c : ItemClass) (o : ItemOwner) (x y z : Byte), Served s .site →
      (∃ t, exec (.readRoute (.sender .site) tag [0, byteOf c.val, byteOf o.number]) s = .next t
        ∧ Took .site [] s t ∧ Replied s t .site tag .readRoute .done (listBytes (destBytes (s.cell c o))))
      ∧ (∃ t, exec (.readRoute (.sender .site) tag [1, x, y]) s = .next t
        ∧ Took .site [] s t ∧ Replied s t .site tag .readRoute .done (listBytes (destBytes s.routes.overflow)))
      ∧ (∃ t, exec (.readRoute (.sender .site) tag [2, x, y]) s = .next t
        ∧ Took .site [] s t ∧ Replied s t .site tag .readRoute .done (listBytes (destBytes s.routes.breakage)))
      ∧ (2 < z.toNat ∨ z = 0 ∧ (14 ≤ x.toNat ∨ 7 ≤ y.toNat) →
        ∃ t, exec (.readRoute (.sender .site) tag [z, x, y]) s = .next t
          ∧ Took .site [] s t ∧ Replied s t .site tag .readRoute .argument []))

/-! ### Gates -/

/-- At its arming point an entry whose spacing is kept is ARMED with F = N − Λ, the lead Λ being V × L_g / 1000 rounded half up and clamped to A_g, LATE where the clamp acted, at its place in the fire queue; the token's F and LATE go to the test record. A refused entry raises SPACING_CONFLICTS and is assigned elsewhere with one more route attempt and REROUTES counted, and where its old destination closes by that DEST-STATE is offered to the owner; a refused token ends with CONFLICT. The place of F is behind every queued F that P reaches at or before it and before the rest. A queue of 4 refuses it, and so does a gap less than S to the F just before its place, to the F just behind it, or, where it would take the head of a cycling gate, to the last fired F, from which a new F that lies behind it has the gap 0. An IDLE gate with an empty queue refuses nothing (R65, R91, R102, R114, R120, R121, R122, R123, R135; that a free port takes a notice as the event ends is log 11). -/
def Obligations.ArmingFixesFirePosition : Prop :=
  ∀ (s : State) (r : EntryRef) (e : Entry) (d : DestId) (n : Nat), s.inReset = false →
    s.find r = some e → e.state = .routed → e.dest = some (.gateDest d) → e.length = some n →
    reached s.belt.p (armingPoint e.r (s.gate (destGate d)) n) = true →
    (let g := destGate d
     let f := e.r + Machine.dist (s.gate g).d + Machine.dist (n / 2)
       - Machine.dist (min ((s.belt.v * (s.gate g).l + 500) / 1000) (s.gate g).a)
     let late := decide ((s.gate g).a < (s.belt.v * (s.gate g).l + 500) / 1000)
     (armingRefused s g f = false →
        ∃ t, exec (.arming r) s = .next t ∧ SameExcept [.map, .gates, .test] s t
          ∧ t.find r = some { e with state := .armed, late := late, fireAt := some f }
          ∧ t.map.length = s.map.length ∧ SameOtherEntries s t r
          ∧ t.gate g = { s.gate g with queue := (s.gate g).queue.insertIdx (queuePlace s g f) r }
          ∧ SameOtherGates s t g
          ∧ t.test = if r = .token then { s.test with late := late, fireAt := some f } else s.test)
      ∧ (armingRefused s g f = true → r ∉ (s.gate g).queue →
          (∀ x : Tag, r = .tag x →
            ∃ t e', exec (.arming r) s = .next t ∧ SameExcept [.map, .dests, .counters, .notices] s t
              ∧ t.find r = some e' ∧ t.map.length = s.map.length ∧ SameOtherEntries s t r
              ∧ e'.dest ≠ some (.gateDest d) ∧ e'.attempts = min (e.attempts + 1) 7 ∧ e'.fireAt = none
              ∧ (e'.state = .routed ∨ e'.state = .toTail) ∧ DestNotices none s t
              ∧ t.counter (.ofGate g .spacingConflicts) = min (s.counter (.ofGate g .spacingConflicts) + 1) 65535
              ∧ t.counter (.ofPart .reroutes) = min (s.counter (.ofPart .reroutes) + 1) 65535)
          ∧ (r = .token → MapLaw s →
            ∃ t, exec (.arming r) s = .next t ∧ SameExcept [.map, .test, .counters] s t
              ∧ Raised [.ofGate g .spacingConflicts] s t ∧ t.find .token = none
              ∧ t.map.length + 1 = s.map.length ∧ SameOtherEntries s t .token
              ∧ t.test = { s.test with result := .conflict } ∧ t.bank.latches.getLsbD 12 = true))
      ∧ ((s.gate g).queue = [] → (s.gate g).cycle = none → armingRefused s g f = false)
      ∧ (4 ≤ (s.gate g).queue.length → armingRefused s g f = true)
      ∧ (∀ last : Pos, (s.gate g).queue = [] → (s.gate g).cycle ≠ none → (s.gate g).lastFired = some last →
          (f - last).toNat < 8388608 →
          armingRefused s g f = decide ((f - last).toNat < (s.belt.v * (s.gate g).t + 999) / 1000))
      ∧ ∀ before after : List (EntryRef × Pos), (s.gate g).queue = (before ++ after).map Prod.fst →
          (∀ x ∈ before ++ after, fireAtOf s x.1 = some x.2) →
          (∀ x ∈ before, ahead s.belt.p x.2 ≤ ahead s.belt.p f) →
          (∀ x ∈ after, ahead s.belt.p f < ahead s.belt.p x.2) →
          let sp := (s.belt.v * (s.gate g).t + 999) / 1000
          queuePlace s g f = before.length
            ∧ (armingRefused s g f = true ↔
                4 ≤ (s.gate g).queue.length
                ∨ (∃ x, before.getLast? = some x ∧ (f - x.2).toNat < sp)
                ∨ (before = [] ∧ (s.gate g).cycle ≠ none ∧ ∃ last, (s.gate g).lastFired = some last
                    ∧ (if (f - last).toNat < 8388608 then (f - last).toNat else 0) < sp)
                ∨ ∃ x, after.head? = some x ∧ (x.2 - f).toNat < sp))

/-- At its fire target with the gate IDLE, an entry leaves the map and its record joins the awaiting-confirm queue with the window C_g, R_d unchanged, after the forced miss of the oldest where 4 records wait, which offers an ARRIVAL to the owner; the gate is CYCLING for T_g with the drive of that side on for floor(T_g / 2), the last fired F is F, an actuator check of 2 L_g starts, behind any check still in progress (log 34), where the switch does not already read extended, and FIRES rises, with LATE_FIRES for a LATE entry. A token fires likewise and stays in the map with no record, or passes at once where the switch reads extended. With the gate CYCLING the head entry misses its fire: the cycle and the last fired F stand, MISSED_FIRES rises, and the entry is withdrawn and assigned elsewhere, or the token ends with CONFLICT. A destination whose state or holds the forced miss or the reroute changes is offered to its owner (R59, R66, R91, R102, R114, R125, R126, R127, R135, R139, R140, R144, R146, R150; that a free port takes a notice as the event ends is log 11). -/
def Obligations.FireTargetFiresOrMisses : Prop :=
  ∀ (s : State) (g : GateId) (r : EntryRef) (rest : List EntryRef) (e : Entry) (d : DestId) (f : Pos),
    s.inReset = false → MapLaw s →
    (s.gate g).queue = r :: rest → s.find r = some e → destGate d = g →
    e.dest = some (.gateDest d) → e.fireAt = some f → reached s.belt.p f = true → r ∉ rest →
    ((s.gate g).cycle = none →
      ∃ t, exec (.fireTarget g) s = .next t
        ∧ t.gate g = { s.gate g with
            queue := (t.gate g).queue
            cycle := some { side := destSide d, endIn := (s.gate g).t, offIn := (s.gate g).t / 2 }
            lastFired := some f
            driveLeft := destSide d == .left
            driveRight := destSide d == .right
            checks := if s.switchExtended g (destSide d) = true then (s.gate g).checks
              else (s.gate g).checks
                ++ [{ side := destSide d, leftMs := 2 * (s.gate g).l, forToken := decide (r = .token) }] }
        ∧ SameOtherGates s t g
        ∧ t.counter (.ofGate g .fires) = min (s.counter (.ofGate g .fires) + 1) 65535
        ∧ t.counter (.ofGate g .lateFires)
            = (if e.late = true then min (s.counter (.ofGate g .lateFires) + 1) 65535
              else s.counter (.ofGate g .lateFires))
        ∧ (∀ (x : Tag) (c : ItemClass) (o : ItemOwner), r = .tag x → e.cls = some c → e.owner = some o →
            t.find r = none ∧ t.map.length + 1 = s.map.length
              ∧ ((s.dest d).awaiting.length < 4 →
                SameExcept [.map, .dests, .gates, .counters] s t
                  ∧ (t.gate g).queue = rest ∧ SameOtherEntries s t r
                  ∧ t.dest d = { s.dest d with
                      awaiting := (s.dest d).awaiting
                        ++ [{ tag := x, cls := c, owner := o, leftMs := (s.gate g).c }] }
                  ∧ SameOtherDests s t d)
              ∧ (4 ≤ (s.dest d).awaiting.length →
                SameExcept [.map, .dests, .gates, .counters, .notices] s t
                  ∧ (∀ (a : Awaiting) (l : List Awaiting), (s.dest d).awaiting = a :: l → ArrivalNotices d a false s t)
                  ∧ (t.dest d).awaiting = (s.dest d).awaiting.tail
                      ++ [{ tag := x, cls := c, owner := o, leftMs := (s.gate g).c }]
                  ∧ t.counter (.ofDest d .misses) = min (s.counter (.ofDest d .misses) + 1) 65535))
        ∧ (r = .token → (t.gate g).queue = rest
            ∧ (s.switchExtended g (destSide d) = false → SameExcept [.gates, .counters] s t)
            ∧ (s.switchExtended g (destSide d) = true → SameExcept [.map, .test, .gates, .counters] s t
                ∧ t.find .token = none ∧ t.test = { s.test with result := .pass }
                ∧ t.bank.latches.getLsbD 12 = true)))
    ∧ (∀ cy : Cycle, (s.gate g).cycle = some cy →
        (∀ x : Tag, r = .tag x → e.state = .armed →
          ∃ t e', exec (.fireTarget g) s = .next t
            ∧ SameExcept [.map, .dests, .gates, .counters, .notices] s t ∧ DestNotices none s t
            ∧ t.find r = some e' ∧ t.map.length = s.map.length ∧ SameOtherEntries s t r
            ∧ e'.dest ≠ some (.gateDest d) ∧ e'.fireAt = none ∧ e'.late = false
            ∧ e'.attempts = min (e.attempts + 1) 7 ∧ (e'.state = .routed ∨ e'.state = .toTail)
            ∧ t.gate g = { s.gate g with queue := rest } ∧ SameOtherGates s t g
            ∧ t.counter (.ofGate g .missedFires) = min (s.counter (.ofGate g .missedFires) + 1) 65535
            ∧ t.counter (.ofPart .reroutes) = min (s.counter (.ofPart .reroutes) + 1) 65535)
        ∧ (r = .token →
          ∃ t, exec (.fireTarget g) s = .next t ∧ SameExcept [.map, .test, .gates, .counters] s t
            ∧ Raised [.ofGate g .missedFires] s t ∧ t.find .token = none
            ∧ t.map.length + 1 = s.map.length ∧ SameOtherEntries s t .token
            ∧ t.gate g = { s.gate g with queue := rest } ∧ SameOtherGates s t g
            ∧ t.test = { s.test with result := .conflict } ∧ t.bank.latches.getLsbD 12 = true))

/-- The drive goes off at its time, and the cycle ends at its own: both drives are off and the gate is IDLE. With no switch extended no fault is found; with one switch extended at a configured IN_SERVICE gate of a commissioned belt, with no check in progress, the gate goes OUT_OF_SERVICE with EXTEND_UNCOMMANDED, its queue is emptied, both its destinations carry GATE_OUT, the GATE_FAULT level is set, the entries bound for its destinations are moved off, a token bound for it that has not fired leaves the map with ABORTED and the TEST_DONE latch, any other stays, and each destination that GATE_OUT changes is offered to its owner (R66, R67, R92, R107, R110, R114, R126, R129, R135, R151, R153; that a cycle end switches the drives off is log 35, and that a free port takes a notice as the event ends is log 11). -/
def Obligations.CycleRunsOut : Prop :=
  ∀ (s : State) (g : GateId) (cy : Cycle), s.inReset = false → (s.gate g).cycle = some cy →
    (cy.offIn = 0 → (s.gate g).driveLeft = true ∨ (s.gate g).driveRight = true →
      ∃ t, exec (.gateDriveOff g) s = .next t ∧ SameExcept [.gates] s t ∧ SameOtherGates s t g
        ∧ t.gate g = { s.gate g with driveLeft := false, driveRight := false })
    ∧ (cy.endIn = 0 → s.switchExtended g .left = false → s.switchExtended g .right = false →
      ∃ t, exec (.gateCycleEnd g) s = .next t ∧ SameExcept [.gates] s t ∧ SameOtherGates s t g
        ∧ t.gate g = { s.gate g with cycle := none, driveLeft := false, driveRight := false })
    ∧ ∀ side : Side, cy.endIn = 0 → s.switchExtended g .left = (side == .left) →
      s.switchExtended g .right = (side == .right) → s.belt.state ≠ .unconfigured →
      (s.gate g).configured = true → (s.gate g).service = .inService → (s.gate g).checks = [] →
      ∃ t, exec (.gateCycleEnd g) s = .next t
        ∧ SameExcept [.gates, .dests, .map, .test, .counters, .notices] s t ∧ SameOtherGates s t g
        ∧ t.gate g = { s.gate g with
            cycle := none, driveLeft := false, driveRight := false, service := .outOfService, queue := []
            fault := { cause := .extendUncommanded, side := some side
                       count := min ((s.gate g).fault.count + 1) 255, p := some s.belt.p } }
        ∧ (∀ x : Side, (t.dest (gateDest g x)).holds.gateOut = true) ∧ t.bank.levels.getLsbD 7 = true
        ∧ TokenAborted (fun x => x = g) s t ∧ DestNotices none s t
        ∧ (RouteLaw s → (∀ x : Side, (s.dest (gateDest g x)).holds.gateOut = false) →
            MovedOff [gateDest g .left, gateDest g .right] s t)

/-- A switch that goes back only moves its level, and no switch moves another input. The switch of the side fired ends the actuator check as seen while the gate cycles, with no fault, and a token that waits on it leaves the map with PASS. The same switch of a watched gate, and the switch of the side not fired during a cycle, is recorded as EXTEND_UNCOMMANDED with its side and P, and takes the gate OUT_OF_SERVICE with its queue emptied, GATE_OUT on both destinations, the entries bound for them moved off, and a token bound for it that has not fired ABORTED, out of the map and latched in TEST_DONE. A check that reaches its deadline records ACTUATOR_NO_EXTEND and takes an IN_SERVICE gate out in the same way, its queue emptied, GATE_OUT on both destinations and the GATE_FAULT level set, its cycle running on, and a token that waits on it leaves with ACTUATOR_FAULT, one bound for the gate that has not fired with ABORTED; a gate already out stays out, with no destination, entry or token moved but the token that waits. Each destination that GATE_OUT changes is offered to its owner (R66, R67, R92, R107, R110, R114, R129, R131, R135, R150, R151, R152, R153; several checks at once are log 34, and that a free port takes a notice as the event ends is log 11). -/
def Obligations.ActuatorChecksAndFaults : Prop :=
  ∀ (s : State) (g : GateId) (side : Side), s.inReset = false →
    (s.switchExtended g side = true →
      ∃ t, exec (.extendedSwitchChange g side false) s = .next t ∧ SameExcept [.pins] s t
        ∧ t.pins = (match side with
            | .left => { s.pins with extLeft := s.pins.extLeft.set g false }
            | .right => { s.pins with extRight := s.pins.extRight.set g false })
        ∧ t.switchExtended g side = false
        ∧ ∀ (x : GateId) (y : Side), x ≠ g ∨ y ≠ side → t.switchExtended x y = s.switchExtended x y)
    ∧ (s.switchExtended g side = false →
      (∀ (cy : Cycle) (ms : Nat) (b : Bool), (s.gate g).cycle = some cy →
        (s.gate g).checks = [{ side := side, leftMs := ms, forToken := b }] →
        ∃ t, exec (.extendedSwitchChange g side true) s = .next t
          ∧ t.switchExtended g side = true ∧ (t.gate g).checks = []
          ∧ t.pins = (match side with
              | .left => { s.pins with extLeft := s.pins.extLeft.set g true }
              | .right => { s.pins with extRight := s.pins.extRight.set g true })
          ∧ (b = false → SameExcept [.pins, .gates] s t
              ∧ t.gate g = { s.gate g with checks := [] } ∧ SameOtherGates s t g)
          ∧ (b = true → SameExcept [.pins, .gates, .map, .test] s t)
          ∧ (b = true → MapLaw s → s.find .token ≠ none → t.find .token = none
              ∧ t.map.length + 1 = s.map.length ∧ SameOtherEntries s t .token
              ∧ t.test = { s.test with result := .pass } ∧ t.bank.latches.getLsbD 12 = true))
      ∧ (s.belt.state ≠ .unconfigured → (s.gate g).configured = true → (s.gate g).service = .inService →
        (s.gate g).cycle = none ∧ (s.gate g).checks = []
          ∨ (∃ cy, (s.gate g).cycle = some cy ∧ cy.side ≠ side) ∧ sideChecks side (s.gate g) = [] →
        ∃ t, exec (.extendedSwitchChange g side true) s = .next t
          ∧ SameExcept [.pins, .gates, .dests, .map, .test, .counters, .notices] s t
          ∧ t.switchExtended g side = true
          ∧ t.pins = (match side with
              | .left => { s.pins with extLeft := s.pins.extLeft.set g true }
              | .right => { s.pins with extRight := s.pins.extRight.set g true })
          ∧ t.gate g = { s.gate g with
              service := .outOfService, queue := []
              fault := { cause := .extendUncommanded, side := some side
                         count := min ((s.gate g).fault.count + 1) 255, p := some s.belt.p } }
          ∧ SameOtherGates s t g
          ∧ (t.dest (gateDest g .left)).holds.gateOut = true
          ∧ (t.dest (gateDest g .right)).holds.gateOut = true ∧ t.bank.levels.getLsbD 7 = true
          ∧ TokenAborted (fun x => x = g) s t ∧ DestNotices none s t
          ∧ (RouteLaw s → (∀ x : Side, (s.dest (gateDest g x)).holds.gateOut = false) →
              MovedOff [gateDest g .left, gateDest g .right] s t)))
    ∧ (∀ b : Bool, (s.gate g).checks = [{ side := side, leftMs := 0, forToken := b }] →
      ∃ t, exec (.actuatorCheckDeadline g) s = .next t
        ∧ SameExcept [.gates, .dests, .map, .test, .counters, .notices] s t
        ∧ (t.gate g).checks = [] ∧ (t.gate g).cycle = (s.gate g).cycle ∧ (t.gate g).service = .outOfService
        ∧ (t.gate g).fault = { cause := .actuatorNoExtend, side := some side
                               count := min ((s.gate g).fault.count + 1) 255, p := some s.belt.p }
        ∧ (b = false → SameOtherGates s t g) ∧ t.bank.levels.getLsbD 7 = true
        ∧ ((s.gate g).service = .inService → (t.gate g).queue = []
            ∧ (t.dest (gateDest g .left)).holds.gateOut = true ∧ (t.dest (gateDest g .right)).holds.gateOut = true)
        ∧ ((s.gate g).service = .inService → RouteLaw s →
            (∀ x : Side, (s.dest (gateDest g x)).holds.gateOut = false) →
            MovedOff [gateDest g .left, gateDest g .right] s t)
        ∧ (b = false → (s.gate g).service = .inService → TokenAborted (fun x => x = g) s t)
        ∧ (b = false → (s.gate g).service = .outOfService → SameExcept [.gates] s t)
        ∧ (b = true → (s.gate g).service = .outOfService → SameExcept [.gates, .map, .test] s t)
        ∧ DestNotices none s t
        ∧ (b = true → MapLaw s → s.find .token ≠ none → t.find .token = none ∧ t.map.length + 1 = s.map.length
            ∧ t.test = { s.test with result := .actuatorFault } ∧ t.bank.latches.getLsbD 12 = true))

/-- A TO_TAIL entry leaves the map at R + D_T, TAIL_ARRIVALS rises and no account moves (R60). -/
def Obligations.TailArrivalLeavesMap : Prop :=
  ∀ (s : State) (x : Tag) (e : Entry), s.inReset = false → MapLaw s → s.find (.tag x) = some e →
    e.state = .toTail → reached s.belt.p (e.r + Machine.dist s.settings.dT) = true →
    ∃ t, exec (.tailArrival x) s = .next t ∧ SameExcept [.map, .counters] s t
      ∧ Raised [.ofPart .tailArrivals] s t
      ∧ t.find (.tag x) = none ∧ t.map.length + 1 = s.map.length ∧ SameOtherEntries s t (.tag x)

/-- TEST-FIRE, its checks in order, makes a token of length 0 at P bound for the side, with the test record PENDING, and takes no reservation (R64, R133; that its confidence is absent is log 39). -/
def Obligations.TestFireMakesToken : Prop :=
  ∀ (s : State) (tag x y : Byte), ServedCommissioned s .site →
    ∃ t, exec (.testFire (.sender .site) tag [x, y]) s = .next t ∧ Took .site [.map, .test] s t
      ∧ (if 12 ≤ x.toNat ∨ 2 ≤ y.toNat then
          t.map = s.map ∧ t.test = s.test ∧ Replied s t .site tag .testFire .argument []
        else ∀ (g : GateId) (side : Side), g.val = x.toNat → Side.number side = y.toNat →
          if s.belt.state ≠ .running then
            t.map = s.map ∧ t.test = s.test ∧ Replied s t .site tag .testFire .state []
          else if (s.gate g).configured = false then
            t.map = s.map ∧ t.test = s.test ∧ Replied s t .site tag .testFire .badConfig []
          else if (s.gate g).service = .outOfService then
            t.map = s.map ∧ t.test = s.test ∧ Replied s t .site tag .testFire .state []
          else if s.find .token ≠ none ∨ 64 ≤ s.map.length then
            t.map = s.map ∧ t.test = s.test ∧ Replied s t .site tag .testFire .busy []
          else
            t.map = s.map ++ [{ tag := none, r := s.belt.p, length := some 0, state := .routed,
                                dest := some (.gateDest (gateDest g side)) }]
              ∧ t.test = { gate := some g, side := some side, result := .pending, late := false, fireAt := none }
              ∧ Replied s t .site tag .testFire .done [])

/-- TAKE-GATE-OUT takes a configured IN_SERVICE gate out with TAKEN_OUT in its fault record, GATE_OUT on both its destinations, the GATE_FAULT level set, the entries bound for them moved off and a token bound for it that has not fired ABORTED, out of the map and latched in TEST_DONE, while any other token stays, and changes nothing of a gate already out; RETURN-GATE brings back a gate that is IDLE with both switches clear, GATE_OUT cleared from both its destinations, refuses another that is out with STATE, and changes nothing of one IN_SERVICE; both refuse a number above 11 with ARGUMENT and an unconfigured gate with BAD_CONFIG. Each destination that GATE_OUT changes, set or cleared, is offered to its owner (R66, R67, R92, R107, R110, R114, R129, R130, R132, R135; that a free port takes a notice as the event ends is log 11). -/
def Obligations.GateServiceRequests : Prop :=
  ∀ (s : State) (tag x : Byte), ServedCommissioned s .site →
    (∃ t, exec (.takeGateOut (.sender .site) tag [x]) s = .next t
      ∧ match inRange? 12 x.toNat with
        | none => Took .site [] s t ∧ Replied s t .site tag .takeGateOut .argument []
        | some g =>
          if (s.gate g).configured = false then
            Took .site [] s t ∧ Replied s t .site tag .takeGateOut .badConfig []
          else if (s.gate g).service = .outOfService then
            Took .site [] s t ∧ Replied s t .site tag .takeGateOut .done []
          else
            TookCounting .site [.gates, .dests, .map, .test, .notices] s t
              ∧ t.gate g = { s.gate g with
                  service := .outOfService, queue := []
                  fault := { cause := .takenOut, side := none
                             count := min ((s.gate g).fault.count + 1) 255, p := some s.belt.p } }
              ∧ SameOtherGates s t g
              ∧ (t.dest (gateDest g .left)).holds.gateOut = true
              ∧ (t.dest (gateDest g .right)).holds.gateOut = true ∧ t.bank.levels.getLsbD 7 = true
              ∧ TokenAborted (fun x => x = g) s t ∧ DestNotices (some .site) s t
              ∧ (RouteLaw s → (∀ x : Side, (s.dest (gateDest g x)).holds.gateOut = false) →
                  MovedOff [gateDest g .left, gateDest g .right] s t)
              ∧ Replied s t .site tag .takeGateOut .done [])
    ∧ ∃ t, exec (.returnGate (.sender .site) tag [x]) s = .next t
      ∧ match inRange? 12 x.toNat with
        | none => Took .site [] s t ∧ Replied s t .site tag .returnGate .argument []
        | some g =>
          if (s.gate g).configured = false then
            Took .site [] s t ∧ Replied s t .site tag .returnGate .badConfig []
          else if (s.gate g).service = .inService then
            Took .site [] s t ∧ Replied s t .site tag .returnGate .done []
          else if (s.gate g).cycle ≠ none ∨ s.switchExtended g .left = true ∨ s.switchExtended g .right = true then
            Took .site [] s t ∧ Replied s t .site tag .returnGate .state []
          else
            Took .site [.gates, .dests, .notices] s t ∧ DestNotices (some .site) s t
              ∧ t.gate g = { s.gate g with service := .inService } ∧ SameOtherGates s t g
              ∧ (∀ d : DestId, t.dest d = if destGate d = g then
                  { s.dest d with holds := { (s.dest d).holds with gateOut := false } } else s.dest d)
              ∧ Replied s t .site tag .returnGate .done []

/-- READ-TEST, READ-FAULT and READ-MAP reply with their records, entry by entry for the map and "none" past its end, and change nothing; the bytes of an absent position or length are free, and a gate number above 11 is ARGUMENT in READ-FAULT (R68, R135, R153, R186; log 12, and that the ARGUMENT has no result is log 28). -/
def Obligations.ReadsReturnRecords : Prop :=
  ∀ (s : State) (tag : Byte), Served s .site →
    (∃ t, exec (.readTest (.sender .site) tag []) s = .next t ∧ Took .site [] s t
      ∧ ∃ tail : List Byte, tail.length = 3 ∧ (∀ f, s.test.fireAt = some f → tail = posBytes f)
        ∧ Replied s t .site tag .readTest .done
            ([optByte (fun g : GateId => g.val) s.test.gate, optByte Side.number s.test.side,
              byteOf s.test.result.number, boolByte s.test.late, boolByte s.test.fireAt.isSome] ++ tail))
    ∧ (∀ g : GateId, ∃ t, exec (.readFault (.sender .site) tag [byteOf g.val]) s = .next t ∧ Took .site [] s t
      ∧ ∃ tail : List Byte, tail.length = 3 ∧ (∀ p, (s.gate g).fault.p = some p → tail = posBytes p)
        ∧ Replied s t .site tag .readFault .done
            ([byteOf (s.gate g).fault.cause.number, optByte Side.number (s.gate g).fault.side,
              byteOf (s.gate g).fault.count] ++ tail))
    ∧ (∀ x : Byte, 12 ≤ x.toNat → ∃ t, exec (.readFault (.sender .site) tag [x]) s = .next t ∧ Took .site [] s t
      ∧ Replied s t .site tag .readFault .argument [])
    ∧ ∀ i : Byte, s.belt.state ≠ .unconfigured →
      ∃ t, exec (.readMap (.sender .site) tag [i]) s = .next t ∧ Took .site [] s t
        ∧ match s.map[i.toNat]? with
          | none => Replied s t .site tag .readMap .done [byteOf s.map.length, 0]
          | some e => ∃ len fire : List Byte, len.length = 2 ∧ fire.length = 3
            ∧ (∀ n, e.length = some n → len = wordBytes n) ∧ (∀ f, e.fireAt = some f → fire = posBytes f)
            ∧ Replied s t .site tag .readMap .done
                ([byteOf s.map.length, 1]
                  ++ (match e.tag with
                      | some x => wordBytes x.toNat ++ [byteOf (x.toNat % 16)]
                      | none => [0xFF#8, 0xFF#8, 0xFF#8])
                  ++ posBytes e.r ++ len
                  ++ [optByte Fin.val e.cls, optByte ItemOwner.number e.owner]
                  ++ wordBytes ((e.pattern.map BitVec.toNat).getD 0)
                  ++ [boolByte e.broken, optByte id e.confidence, optByte Target.number e.dest, byteOf e.attempts]
                  ++ fire ++ [byteOf (entryFlags e), byteOf e.state.number])

/-! ### Chutes and racks -/

/-- A sighting with records waiting confirms the oldest: F_d falls by one unless 0, R_d by one, ARRIVED rises, the miss count is 0, and an ARRIVAL notice with outcome CONFIRMED is offered to the owner, which takes the newest of its 16 places, or, with all 16 held, is discarded with NOTICES_DROPPED of the port one higher; in RELEASING the account moves like any other; a DRAINING destination left with R_d = 0 is CLOSED, and a RELEASING one left with no record is UNCLAIMED with the holds of a release. A change of F_d or of the state is offered to the owner station as DEST-STATE, and a completed release as its final notice. With no record waiting it is a stray: STRAYS rises, and the account, the miss count, the holds and the state stand, with no notice offered (R80, R102, R106, R114, R141, R142, R143, R146, R147, R174, R175; the re-arm state a release leaves is log 18, and that a free port takes a notice as the event ends is log 11). -/
def Obligations.SightingConfirmsOldestOrStrays : Prop :=
  ∀ (s : State) (d : DestId), s.inReset = false → (s.dest d).eye = .blocking → 20 ≤ (s.dest d).eyeMs →
    ∃ t, exec (.confirmEyeSighting d) s = .next t ∧ SameOtherDests s t d ∧ (t.dest d).eye = .seen
      ∧ ((s.dest d).awaiting = [] →
          SameExcept [.dests, .counters] s t ∧ Raised [.ofDest d .strays] s t
            ∧ t.dest d = { s.dest d with eye := .seen })
      ∧ ∀ (a : Awaiting) (rest : List Awaiting), (s.dest d).awaiting = a :: rest →
          SameExcept [.dests, .counters, .notices] s t ∧ ArrivalNotices d a true s t
            ∧ t.counter (.ofDest d .arrived) = min (s.counter (.ofDest d .arrived) + 1) 65535
            ∧ (t.dest d).awaiting = rest ∧ (t.dest d).reserved = (s.dest d).reserved - 1
            ∧ (t.dest d).misses = 0
            ∧ (∀ st, (s.dest d).owner = some (.station st) → hears s st = true →
                (s.noticeQueue st).places.length < 16 → (s.link (.station st)).sending ≠ none →
                (t.noticeQueue st).places
                  = (s.noticeQueue st).places ++ [.arrival d a.tag a.cls a.owner true])
            ∧ (∀ st, (s.dest d).owner = some (.station st) → hears s st = true →
                16 ≤ (s.noticeQueue st).places.length → (s.link (.station st)).sending ≠ none →
                (t.noticeQueue st).places = (s.noticeQueue st).places
                  ∧ t.counter (.ofPort (.sender (.station st)) .noticesDropped)
                    = min (s.counter (.ofPort (.sender (.station st)) .noticesDropped) + 1) 65535)
            ∧ ((s.dest d).state ≠ .releasing ∨ rest ≠ [] →
                t.dest d = { s.dest d with
                  eye := .seen, awaiting := rest, free := (s.dest d).free - 1
                  reserved := (s.dest d).reserved - 1, misses := 0
                  state := if (s.dest d).state = .draining ∧ (s.dest d).reserved - 1 = 0 then .closed
                    else (s.dest d).state })
            ∧ ((s.dest d).state = .releasing → rest = [] →
                t.dest d = { s.dest d with
                  eye := .seen, awaiting := [], reserved := (s.dest d).reserved - 1, misses := 0
                  owner := none, state := .unclaimed, free := 0
                  holds := (s.dest d).holdsReleased
                  rearm := (s.dest d).rearmReleased (s.rackSensor d) })

/-- A record whose window has run out is missed, wherever it stands in its queue: R_d falls by one, F_d stands, MISSES rises, an ARRIVAL notice with outcome MISSED is offered to the owner, and the miss count rises by one, up to 4, bringing SILENT as it reaches 4, with the entries bound for d moved off; a DRAINING destination left with R_d = 0 is CLOSED, and a RELEASING one left with no record is UNCLAIMED with the holds of a release. A change of the state or of the holds is offered to the owner station as DEST-STATE, and a completed release as its final notice (R80, R92, R102, R106, R107, R114, R144, R145, R146, R147, R174, R175; that a free port takes a notice as the event ends is log 11). -/
def Obligations.ExpiredWindowIsMissed : Prop :=
  ∀ (s : State) (d : DestId) (older : List Awaiting) (a : Awaiting) (newer : List Awaiting), s.inReset = false →
    (s.dest d).awaiting = older ++ a :: newer → a.leftMs = 0 →
    (∀ x ∈ older, x.tag ≠ a.tag ∨ x.leftMs ≠ 0) →
    ∃ t, exec (.confirmWindowExpiry d a.tag) s = .next t
      ∧ SameExcept [.dests, .map, .gates, .counters, .notices] s t ∧ ArrivalNotices d a false s t
      ∧ (t.dest d).awaiting = older ++ newer
      ∧ t.counter (.ofDest d .misses) = min (s.counter (.ofDest d .misses) + 1) 65535
      ∧ (∀ st, (s.dest d).owner = some (.station st) → hears s st = true →
          (s.noticeQueue st).places.length < 16 → (s.link (.station st)).sending ≠ none →
          (t.noticeQueue st).places = (s.noticeQueue st).places ++ [.arrival d a.tag a.cls a.owner false])
      ∧ ((s.dest d).state ≠ .releasing ∨ older ++ newer ≠ [] →
          (t.dest d).misses = min ((s.dest d).misses + 1) 4 ∧ (t.dest d).free = (s.dest d).free
            ∧ (t.dest d).owner = (s.dest d).owner
            ∧ ((s.dest d).misses = 3 → (t.dest d).holds.silent = true))
      ∧ (RouteLaw s → (s.dest d).misses = 3 → (s.dest d).holds.silent = false → MovedOff [d] s t)
      ∧ ((s.dest d).misses ≠ 3 ∨ (s.dest d).holds.silent = true →
          SameExcept [.dests, .counters, .notices] s t ∧ SameOtherDests s t d)
      ∧ ((s.dest d).misses ≠ 3 ∨ (s.dest d).holds.silent = true →
          (s.dest d).state ≠ .releasing ∨ older ++ newer ≠ [] →
          t.dest d = { s.dest d with
            awaiting := older ++ newer, reserved := (s.dest d).reserved - 1
            misses := min ((s.dest d).misses + 1) 4
            state := if (s.dest d).state = .draining ∧ (s.dest d).reserved - 1 = 0 then .closed
              else (s.dest d).state })
      ∧ ((s.dest d).state = .releasing → older ++ newer = [] →
          (t.dest d).state = .unclaimed ∧ (t.dest d).owner = none ∧ (t.dest d).free = 0
            ∧ (t.dest d).holds = (s.dest d).holdsReleased)

/-- The confirm eye moves through its four states by its level and its 20 ms, with the block and clear timers from 0 at each edge (R141, R148, R149). -/
def Obligations.ConfirmEyeStates : Prop :=
  ∀ (s : State) (d : DestId), s.inReset = false →
    (∀ b : Bool, s.confirmEye d = !b →
      ∃ t, exec (.confirmEyeChange d b) s = .next t ∧ SameExcept [.pins, .dests] s t ∧ SameOtherDests s t d
        ∧ t.pins = { s.pins with confirmEyes := s.pins.confirmEyes.set d b }
        ∧ t.dest d = { s.dest d with eye := (t.dest d).eye, eyeMs := 0, blockMs := 0, clearMs := 0 }
        ∧ ((s.dest d).eye = .clear → (t.dest d).eye = if b = true then .blocking else .clear)
        ∧ ((s.dest d).eye = .blocking → (t.dest d).eye = if b = true then .blocking else .clear)
        ∧ ((s.dest d).eye = .seen → (t.dest d).eye = if b = true then .seen else .clearing)
        ∧ ((s.dest d).eye = .clearing → (t.dest d).eye = if b = true then .seen else .clearing))
    ∧ ((s.dest d).eye = .clearing → 20 ≤ (s.dest d).eyeMs →
      ∃ t, exec (.confirmEyeClearSettled d) s = .next t ∧ SameExcept [.dests] s t
        ∧ t.dest d = { s.dest d with eye := .clear } ∧ SameOtherDests s t d)

/-- A blockage of B lays BLOCKED on the destination and moves the entries bound for it off; 1000 ms of clear eye take BLOCKED away; either change is offered to the owner as DEST-STATE. The DEST_BLOCKED level is set while any destination carries it (R92, R107, R114, R148, R149; that a free port takes a notice as the event ends is log 11). -/
def Obligations.ChuteBlockComesAndGoes : Prop :=
  ∀ (s : State) (d : DestId), s.inReset = false →
    (s.confirmEye d = true → s.settings.b ≤ (s.dest d).blockMs → (s.dest d).holds.blocked = false →
      ∃ t, exec (.chuteBlock d) s = .next t ∧ SameExcept [.dests, .map, .gates, .counters, .notices] s t
        ∧ (t.dest d).holds = { (s.dest d).holds with blocked := true }
        ∧ (t.dest d).awaiting = (s.dest d).awaiting ∧ (t.dest d).free = (s.dest d).free
        ∧ (t.dest d).owner = (s.dest d).owner ∧ t.bank.levels.getLsbD 8 = true ∧ DestNotices none s t
        ∧ (RouteLaw s → MovedOff [d] s t))
    ∧ (s.confirmEye d = false → 1000 ≤ (s.dest d).clearMs → (s.dest d).holds.blocked = true →
      ∃ t, exec (.chuteBlockClear d) s = .next t ∧ SameExcept [.dests, .notices] s t
        ∧ t.dest d = { s.dest d with holds := { (s.dest d).holds with blocked := false } }
        ∧ SameOtherDests s t d ∧ DestNotices none s t
        ∧ (t.bank.levels.getLsbD 8 = true ↔ ∃ x : DestId, x ≠ d ∧ (s.dest x).holds.blocked = true))

/-- In LEVEL mode a rack sensor stable for 50 ms sets and clears FULL; in EDGE mode an armed sensor latches FULL and waits for clear; a destination that gains FULL has the entries bound for it moved off; a change of FULL is offered to the owner as DEST-STATE; a clear input re-arms; an unconfigured destination's sensor is not filtered (R92, R107, R108, R114; that an armed sensor latches also where a latch was cleared during its 50 ms is log 41, and that a free port takes a notice as the event ends is log 11). -/
def Obligations.RackSensorMovesFull : Prop :=
  ∀ (s : State) (d : DestId), s.inReset = false →
    (∀ b : Bool, s.rackSensor d = !b →
      ∃ t, exec (.rackSensorChange d b) s = .next t ∧ SameExcept [.pins, .dests] s t
        ∧ t.pins = { s.pins with racks := s.pins.racks.set d b } ∧ SameOtherDests s t d
        ∧ t.dest d = (if (s.dest d).configured = false then s.dest d
            else if (s.dest d).mode = .edge ∧ b = false then { s.dest d with rackMs := 0, rearm := .armed }
            else { s.dest d with rackMs := 0 }))
    ∧ ((s.dest d).configured = true → 50 ≤ (s.dest d).rackMs →
      ∃ t, exec (.rackSensorSettled d) s = .next t ∧ SameExcept [.dests, .map, .gates, .counters, .notices] s t
        ∧ (t.dest d).owner = (s.dest d).owner ∧ (t.dest d).free = (s.dest d).free ∧ DestNotices none s t
        ∧ (t.dest d).holds = { (s.dest d).holds with full := (t.dest d).holds.full }
        ∧ ((s.dest d).mode = .level → (t.dest d).holds.full = s.rackSensor d)
        ∧ (RouteLaw s → (s.dest d).holds.full = false → s.rackSensor d = true →
            (s.dest d).mode = .level ∨ (s.dest d).rearm = .armed → MovedOff [d] s t)
        ∧ ((s.dest d).mode = .level → s.rackSensor d = false →
            SameExcept [.dests, .notices] s t ∧ SameOtherDests s t d)
        ∧ ((s.dest d).mode = .edge → s.rackSensor d = true → (s.dest d).rearm = .armed →
            (t.dest d).holds.full = true ∧ (t.dest d).rearm = .waitingForClear)
        ∧ ((s.dest d).mode = .edge → s.rackSensor d = false ∨ (s.dest d).rearm = .waitingForClear →
            SameExcept [] s t))

/-! ### Destination requests -/

/-- CLAIM: the checks of its table in order, and otherwise the requester is the owner, the state CLOSED and F_d 0, with R_d at 0 and the holds kept, and DEST-STATE is offered to a station; every reply but ARGUMENT carries the record (R99, R100, R114; that the ARGUMENT has no result is log 28, and that a free port takes a notice as the event ends is log 11). -/
def Obligations.ClaimTable : Prop :=
  ∀ (s : State) (q : Sender) (tag x : Byte), ServedCommissioned s q → OwnerLaw s →
    ∃ t, exec (.claim (.sender q) tag [x]) s = .next t
      ∧ match inRange? 24 x.toNat with
        | none => Took q [] s t ∧ Replied s t q tag .claim .argument []
        | some d =>
          if (s.dest d).configured = false ∨ (s.gate (destGate d)).configured = false then
            Took q [] s t ∧ Replied s t q tag .claim .badConfig (recordBytes (s.dest d))
          else if (s.dest d).owner ≠ none then
            Took q [] s t ∧ Replied s t q tag .claim .notOwner (recordBytes (s.dest d))
          else if (s.dest d).eligible.getLsbD (Sender.index q).val = false then
            Took q [] s t ∧ Replied s t q tag .claim .notEligible (recordBytes (s.dest d))
          else
            Took q [.dests, .notices] s t ∧ SameOtherDests s t d ∧ DestNotices (some q) s t
              ∧ t.dest d = { s.dest d with owner := some q, state := .closed, free := 0 }
              ∧ (t.dest d).reserved = 0
              ∧ (∀ st, q = .station st → .mark d ∈ (t.noticeQueue st).dests)
              ∧ Replied s t q tag .claim .done (recordBytes (t.dest d))

/-- OPEN: NOT_OWNER from another, and otherwise in CLOSED and DRAINING the state OPEN, F_d set to n and SILENT cleared with the miss count at 0; STATE in OPEN and RELEASING. CLOSE of an OPEN destination makes it DRAINING with R_d above 0 and CLOSED with R_d 0, is DONE with no change in CLOSED and DRAINING, and STATE in RELEASING; F_d stands. Where either changes the state, the holds or F_d, DEST-STATE is offered to the owner station: the pending mark of the destination joins its list, once. Both refuse a number above 23 with ARGUMENT (R99, R101, R102, R109, R114, R174; that it carries no record is log 28, and that a free port takes a notice as the event ends is log 11). -/
def Obligations.OpenAndClose : Prop :=
  ∀ (s : State) (q : Sender) (tag n : Byte) (d : DestId), ServedCommissioned s q → OwnerLaw s →
    (∃ t, exec (.openDest (.sender q) tag [byteOf d.val, n]) s = .next t
      ∧ (if (s.dest d).owner ≠ some q then
          Took q [] s t ∧ Replied s t q tag .openDest .notOwner (recordBytes (s.dest d))
        else if (s.dest d).state = .closed ∨ (s.dest d).state = .draining then
          Took q [.dests, .notices] s t ∧ SameOtherDests s t d ∧ DestNotices (some q) s t
            ∧ t.dest d = { s.dest d with
                state := .opened, free := n.toNat, misses := 0
                holds := { (s.dest d).holds with silent := false } }
            ∧ Replied s t q tag .openDest .done (recordBytes (t.dest d))
        else Took q [] s t ∧ Replied s t q tag .openDest .state (recordBytes (s.dest d))))
    ∧ (∃ t, exec (.closeDest (.sender q) tag [byteOf d.val]) s = .next t
      ∧ (if (s.dest d).owner ≠ some q then
          Took q [] s t ∧ Replied s t q tag .closeDest .notOwner (recordBytes (s.dest d))
        else if (s.dest d).state = .opened then
          Took q [.dests, .notices] s t ∧ SameOtherDests s t d ∧ DestNotices (some q) s t
            ∧ t.dest d = { s.dest d with state := if (s.dest d).reserved = 0 then .closed else .draining }
            ∧ Replied s t q tag .closeDest .done (recordBytes (t.dest d))
        else Took q [] s t ∧ Replied s t q tag .closeDest
            (if (s.dest d).state = .releasing then .state else .done) (recordBytes (s.dest d))))
    ∧ ∀ x : Byte, 24 ≤ x.toNat →
      (∃ t, exec (.openDest (.sender q) tag [x, n]) s = .next t
        ∧ Took q [] s t ∧ Replied s t q tag .openDest .argument [])
      ∧ ∃ t, exec (.closeDest (.sender q) tag [x]) s = .next t
        ∧ Took q [] s t ∧ Replied s t q tag .closeDest .argument []

/-- SET-SLOTS and CLEAR-FULL clear SILENT with the miss count at 0 and a latched FULL in EDGE mode, leaving a LEVEL-mode FULL; SET-SLOTS also sets F_d to n and is refused in RELEASING, CLEAR-FULL is taken there, and from the site for any owner. Where either changes the holds or F_d, DEST-STATE is offered to the owner station: the pending mark of the destination joins its list, once. Both refuse a number above 23 with ARGUMENT (R99, R103, R104, R108, R109, R114, R145, R174; that it carries no record is log 28, that the filter of an armed EDGE sensor runs on is log 41, and that a free port takes a notice as the event ends is log 11). -/
def Obligations.SlotsAndClearFull : Prop :=
  ∀ (s : State) (q : Sender) (tag n : Byte) (d : DestId), ServedCommissioned s q → OwnerLaw s →
    (∃ t, exec (.setSlots (.sender q) tag [byteOf d.val, n]) s = .next t
      ∧ (if (s.dest d).owner ≠ some q then
          Took q [] s t ∧ Replied s t q tag .setSlots .notOwner (recordBytes (s.dest d))
        else if (s.dest d).state = .releasing then
          Took q [] s t ∧ Replied s t q tag .setSlots .state (recordBytes (s.dest d))
        else
          Took q [.dests, .notices] s t ∧ SameOtherDests s t d ∧ DestNotices (some q) s t
            ∧ t.dest d = { s.dest d with
                free := n.toNat, misses := 0
                holds := { (s.dest d).holds with
                  silent := false, full := if (s.dest d).mode = .edge then false else (s.dest d).holds.full } }
            ∧ Replied s t q tag .setSlots .done (recordBytes (t.dest d))))
    ∧ (∃ t, exec (.clearFull (.sender q) tag [byteOf d.val]) s = .next t
      ∧ (if (s.dest d).owner ≠ some q ∧ q ≠ .site then
          Took q [] s t ∧ Replied s t q tag .clearFull .notOwner (recordBytes (s.dest d))
        else if (s.dest d).state = .unclaimed then
          Took q [] s t ∧ Replied s t q tag .clearFull .state (recordBytes (s.dest d))
        else
          Took q [.dests, .notices] s t ∧ SameOtherDests s t d ∧ DestNotices (some q) s t
            ∧ t.dest d = { s.dest d with
                misses := 0
                holds := { (s.dest d).holds with
                  silent := false, full := if (s.dest d).mode = .edge then false else (s.dest d).holds.full } }
            ∧ Replied s t q tag .clearFull .done (recordBytes (t.dest d))))
    ∧ ∀ x : Byte, 24 ≤ x.toNat →
      (∃ t, exec (.setSlots (.sender q) tag [x, n]) s = .next t
        ∧ Took q [] s t ∧ Replied s t q tag .setSlots .argument [])
      ∧ ∃ t, exec (.clearFull (.sender q) tag [x]) s = .next t
        ∧ Took q [] s t ∧ Replied s t q tag .clearFull .argument []

/-- RELEASE of a CLOSED destination with R_d 0 makes it UNCLAIMED with F_d 0 and SILENT, ORPHANED and a latched FULL cleared; BUSY with R_d above 0, STATE elsewhere; a last DEST-STATE fixed from the record goes to the former owner, in the place of a pending mark or at the newest end, and an earlier one for the destination goes. A number above 23 is ARGUMENT (R99, R105, R114, R145, R175; that it carries no record is log 28, the re-arm state of an EDGE sensor is log 18, that a release without SILENT keeps the consecutive-miss count is log 37, and that a free port takes a notice as the event ends is log 11). -/
def Obligations.ReleaseGivesUpDestination : Prop :=
  ∀ (s : State) (q : Sender) (tag : Byte) (d : DestId), ServedCommissioned s q → OwnerLaw s →
    (∃ t, exec (.release (.sender q) tag [byteOf d.val]) s = .next t
      ∧ (if (s.dest d).owner ≠ some q then
          Took q [] s t ∧ Replied s t q tag .release .notOwner (recordBytes (s.dest d))
        else if (s.dest d).state ≠ .closed then
          Took q [] s t ∧ Replied s t q tag .release .state (recordBytes (s.dest d))
        else if (s.dest d).reserved ≠ 0 then
          Took q [] s t ∧ Replied s t q tag .release .busy (recordBytes (s.dest d))
        else
          Took q [.dests, .notices] s t ∧ SameOtherDests s t d ∧ DestNotices (some q) s t
            ∧ t.dest d = { s.dest d with
                owner := none, state := .unclaimed, free := 0
                holds := { (s.dest d).holds with
                  silent := false, orphaned := false
                  full := if (s.dest d).mode = .edge then false else (s.dest d).holds.full }
                rearm := if (s.dest d).mode = .edge then
                    (if s.rackSensor d = true then .waitingForClear else .armed)
                  else (s.dest d).rearm
                misses := if (s.dest d).holds.silent = true then 0 else (s.dest d).misses }
            ∧ (∀ st, q = .station st →
                .lastNotice d (byteOf d.val :: recordBytes (t.dest d)) ∈ (t.noticeQueue st).dests)
            ∧ Replied s t q tag .release .done (recordBytes (t.dest d))))
    ∧ ∀ x : Byte, 24 ≤ x.toNat → ∃ t, exec (.release (.sender q) tag [x]) s = .next t
      ∧ Took q [] s t ∧ Replied s t q tag .release .argument []

/-- FORCE-RELEASE moves every entry off the destination, each reassigned or sent to the tail, with no other entry moved and nothing but R_d of another destination; with no record waiting it is UNCLAIMED with F_d 0, SILENT, ORPHANED and a latched FULL in EDGE mode cleared and the other holds kept, with a final notice to its former owner, and otherwise RELEASING under its owner with the record as it was and DEST-STATE offered. In RELEASING it is DONE with no change, and in UNCLAIMED it is refused with STATE; a number above 23 is ARGUMENT (R90, R91, R92, R99, R105, R106, R114, R175; that it carries no record is log 28, the re-arm state of an EDGE sensor is log 18, that a release without SILENT keeps the consecutive-miss count is log 37, and that a free port takes a notice as the event ends is log 11). -/
def Obligations.ForceReleaseMovesEntries : Prop :=
  ∀ (s : State) (tag : Byte) (d : DestId), ServedCommissioned s .site → RouteLaw s →
    (∃ t, exec (.forceRelease (.sender .site) tag [byteOf d.val]) s = .next t
      ∧ (if (s.dest d).state = .unclaimed then
          Took .site [] s t ∧ Replied s t .site tag .forceRelease .state (recordBytes (s.dest d))
        else if (s.dest d).state = .releasing then
          Took .site [] s t ∧ Replied s t .site tag .forceRelease .done (recordBytes (s.dest d))
        else
          TookCounting .site [.dests, .map, .gates, .notices] s t
            ∧ MovedOff [d] s t ∧ DestNotices (some .site) s t
            ∧ (∀ x : DestId, x ≠ d → t.dest x = { s.dest x with reserved := (t.dest x).reserved })
            ∧ t.dest d = (if (s.dest d).awaiting = [] then
                { s.dest d with
                  owner := none, state := .unclaimed, free := 0, reserved := 0
                  holds := (s.dest d).holdsReleased
                  rearm := (s.dest d).rearmReleased (s.rackSensor d)
                  misses := if (s.dest d).holds.silent = true then 0 else (s.dest d).misses }
              else { s.dest d with state := .releasing, reserved := (s.dest d).awaiting.length })
            ∧ Replied s t .site tag .forceRelease .done (recordBytes (t.dest d))))
    ∧ ∀ x : Byte, 24 ≤ x.toNat → ∃ t, exec (.forceRelease (.sender .site) tag [x]) s = .next t
      ∧ Took .site [] s t ∧ Replied s t .site tag .forceRelease .argument []

/-- QUERY-DEST, from any station after COMMISSION and from the site in every belt state, replies DONE with the record, the class set and the claim eligibility, and changes nothing; a number above 23 is ARGUMENT. At each tick of the refresh grid every destination of a station whose link is ACTIVE or QUIET has its pending mark in that station's list, unless the station's transmitter was free to take it, and no other notice joins (R99, R114, R115, R174, R179; the bits 14 and 15 of the class set and 7 of the eligibility are sent as 0 by the model's choice, log 14, that the ARGUMENT has no result is log 28, and that a free port takes a notice as the event ends is log 11). -/
def Obligations.QueryAndRefresh : Prop :=
  (∀ (s : State) (q : Sender) (tag x : Byte), Served s q → q = .site ∨ s.belt.state ≠ .unconfigured →
    ∃ t, exec (.queryDest (.sender q) tag [x]) s = .next t ∧ Took q [] s t
      ∧ match inRange? 24 x.toNat with
        | none => Replied s t q tag .queryDest .argument []
        | some d => Replied s t q tag .queryDest .done
            (recordBytes (s.dest d) ++ wordBytes (s.dest d).classes.toNat ++ [byteOf (s.dest d).eligible.toNat]))
  ∧ ∀ s : State, s.inReset = false → 1000 ≤ s.refreshMs →
    ∃ t, exec .destStateRefresh s = .next t ∧ SameExcept [.refresh, .notices] s t ∧ t.refreshMs = 0
      ∧ (∀ (st : Station) (d : DestId), (s.dest d).owner = some (.station st) → hears s st = true →
          (s.link (.station st)).sending ≠ none → .mark d ∈ (t.noticeQueue st).dests)
      ∧ ∃ order : List DestId, order.Perm allDests ∧ ∀ st : Station,
          LeavesWaiting none st
            (if hears s st = true then
              (order.filter fun d => decide ((s.dest d).owner = some (.station st))).foldl (fun l d => addMark d l)
                (s.noticeQueue st).dests
            else (s.noticeQueue st).dests)
            (s.noticeQueue st).places s t

/-! ### Patterns -/

/-- DROP-PATTERN: ARGUMENT for code 0, NOT_OWNER for another station's code, and otherwise the code is gone and the others keep their order; CLEAR-PATTERNS removes a station's entries and replies with their number, refusing a station number above 5 with ARGUMENT. Neither offers a notice. DROP-PATTERN from the site is NOT_OWNER (R41, R47, R48; that the refused CLEAR-PATTERNS carries no result is log 28, and that the site's NOT_OWNER carries none is log 29). -/
def Obligations.PatternRemoval : Prop :=
  ∀ (s : State) (tag hi lo : Byte),
    (∀ st : Station, ServedCommissioned s (.station st) →
      ∃ t, exec (.dropPattern (.sender (.station st)) tag [hi, lo]) s = .next t
        ∧ (if hi = 0 ∧ lo = 0 then
            Took (.station st) [] s t ∧ Replied s t (.station st) tag .dropPattern .argument (patternCounts st s)
          else match patternOf (hi ++ lo) s.patterns with
            | none => Took (.station st) [] s t
                ∧ Replied s t (.station st) tag .dropPattern .done (patternCounts st s)
            | some e =>
              if e.owner = st then
                Took (.station st) [.patterns] s t
                  ∧ t.patterns = s.patterns.filter (fun x => x.code != (hi ++ lo : Word16))
                  ∧ Replied s t (.station st) tag .dropPattern .done (patternCounts st t)
              else Took (.station st) [] s t
                ∧ Replied s t (.station st) tag .dropPattern .notOwner (patternCounts st s)))
    ∧ (Served s .site →
      ∃ t, exec (.dropPattern (.sender .site) tag [hi, lo]) s = .next t
        ∧ Took .site [] s t ∧ Replied s t .site tag .dropPattern .notOwner [])
    ∧ (Served s .site →
      ∃ t, exec (.clearPatterns (.sender .site) tag [hi]) s = .next t
        ∧ (if s.belt.state = .unconfigured then
            Took .site [] s t ∧ Replied s t .site tag .clearPatterns .notReady []
          else match inRange? 6 hi.toNat with
            | none => Took .site [] s t ∧ Replied s t .site tag .clearPatterns .argument []
            | some st => Took .site [.patterns] s t
                ∧ t.patterns = s.patterns.filter (fun e => e.owner != st)
                ∧ Replied s t .site tag .clearPatterns .done [byteOf (patternCount st s.patterns)]))

/-- REGISTER-PATTERN: code 0 is ARGUMENT; an absent code joins the most recent end with room in the table, and in a full one after the least recent unlocked entry has gone, whose owner is offered PATTERN-EVICTED with the code and its count after the eviction, joining its notices where its link is ACTIVE or QUIET and there is a place; a present code of the station becomes most recent; the lock is made while the station's count is below 10, with LOCK_LIMIT the reply otherwise; another station's code is CONFLICT. From the site it is NOT_OWNER (R41, R42, R43, R44, R45, R46, R174; that the site's NOT_OWNER carries no result is log 29). -/
def Obligations.PatternRegistration : Prop :=
  ∀ (s : State) (tag hi lo lock : Byte),
    (∀ st : Station, ServedCommissioned s (.station st) → PatternLaw s →
      ∃ t, exec (.registerPattern (.sender (.station st)) tag [hi, lo, lock]) s = .next t
        ∧ (if hi = 0 ∧ lo = 0 then
            Took (.station st) [] s t
              ∧ Replied s t (.station st) tag .registerPattern .argument (patternCounts st s)
          else match patternOf (hi ++ lo) s.patterns with
            | none =>
              TookCounting (.station st) [.patterns, .notices] s t
                ∧ Replied s t (.station st) tag .registerPattern
                    (if lock = 0 ∨ lockedCount st s.patterns < 10 then .done else .lockLimit) (patternCounts st t)
                ∧ (s.patterns.length < 64 → Took (.station st) [.patterns] s t
                    ∧ t.patterns = s.patterns
                      ++ [{ code := hi ++ lo, owner := st,
                            locked := lock != 0 && decide (lockedCount st s.patterns < 10) }])
                ∧ (∀ v, s.patterns.length = 64 → (s.patterns.find? fun e => !e.locked) = some v →
                    t.patterns = (s.patterns.filter fun e => e.code != v.code)
                      ++ [{ code := hi ++ lo, owner := st,
                            locked := lock != 0 && decide (lockedCount st s.patterns < 10) }]
                    ∧ (∀ x : Station, x ≠ v.owner → SameNotices s t x)
                    ∧ (if hears s v.owner = true then
                        (s.noticeQueue v.owner).places.length < 16 →
                          (s.link (.station v.owner)).sending ≠ none →
                          (t.noticeQueue v.owner).dests = (s.noticeQueue v.owner).dests
                            ∧ (t.noticeQueue v.owner).places = (s.noticeQueue v.owner).places
                              ++ [.evicted v.code
                                    (patternCount v.owner (s.patterns.filter fun e => e.code != v.code))]
                      else SameNotices s t v.owner))
            | some e =>
              if e.owner = st then
                Took (.station st) [.patterns] s t
                  ∧ t.patterns = (s.patterns.filter fun x => x.code != e.code)
                      ++ [{ e with locked := lock != 0 && (e.locked || decide (lockedCount st s.patterns < 10)) }]
                  ∧ Replied s t (.station st) tag .registerPattern
                      (if lock = 0 ∨ e.locked = true ∨ lockedCount st s.patterns < 10 then .done else .lockLimit)
                      (patternCounts st t)
              else Took (.station st) [] s t
                ∧ Replied s t (.station st) tag .registerPattern .conflict (patternCounts st s)))
    ∧ (Served s .site →
      ∃ t, exec (.registerPattern (.sender .site) tag [hi, lo, lock]) s = .next t
        ∧ Took .site [] s t ∧ Replied s t .site tag .registerPattern .notOwner [])

/-! ### Links -/

/-- HELLO takes DOWN and LAPSED to ALIGN, counts in ALIGN, and at the third goes to ACTIVE, where the notice sequence is 0 and every destination of the sender loses ORPHANED with OPEN and DRAINING closed, each that changes offered to the station as DEST-STATE, behind the reply; the reply is DONE with the port, the part code 0264h, issue 01h and the link state (R112, R114, R166, R167, R168, R171, R174; that a free port takes a notice as the event ends is log 11). -/
def Obligations.HelloTrainsLink : Prop :=
  ∀ (s : State) (q : Sender) (tag : Byte), s.inReset = false → (s.link q).replies.length < 8 →
    ∃ t, exec (.hello (.sender q) tag []) s = .next t
      ∧ SameExcept [.receivers, .links, .counters, .dests, .notices] s t
      ∧ Raised [.ofPort (.sender q) .framesGood] s t ∧ (∀ x, x ≠ q → SameLink s t x)
      ∧ (t.link q).silenceMs = 0
      ∧ Replied s t q tag .hello .done
          [byteOf (Sender.index q).val, 0x02#8, 0x64#8, 0x01#8, byteOf (t.link q).state.number]
      ∧ ((s.link q).state = .down ∨ (s.link q).state = .lapsed →
          (t.link q).state = .align ∧ (t.link q).hellos = 1
            ∧ SameExcept [.receivers, .links, .counters] s t)
      ∧ ((s.link q).state = .align → (s.link q).hellos < 2 →
          (t.link q).state = .align ∧ (t.link q).hellos = (s.link q).hellos + 1
            ∧ SameExcept [.receivers, .links, .counters] s t)
      ∧ ((s.link q).state = .align → 2 ≤ (s.link q).hellos →
          (t.link q).state = .active ∧ (t.link q).hellos = 0
            ∧ (∀ st, q = .station st → (t.noticeQueue st).seq = 0) ∧ DestNotices (some q) s t
            ∧ ∀ d, t.dest d = if (s.dest d).owner = some q then
                { s.dest d with
                  holds := { (s.dest d).holds with orphaned := false }
                  state := if (s.dest d).state = .opened ∨ (s.dest d).state = .draining then .closed
                    else (s.dest d).state }
              else s.dest d)
      ∧ ((s.link q).state = .active ∨ (s.link q).state = .quiet →
          (t.link q).state = .active ∧ SameExcept [.receivers, .links, .counters] s t)

/-- GOODBYE is DONE in every link state and leaves the link DOWN; from ACTIVE and QUIET, as at a lapse after 4000 ms in QUIET, the sender's destinations gain ORPHANED and keep their entries, and a station's waiting notices go, with those that the loss offers dropped and no notice offered to another station. 1000 ms without a good frame take ACTIVE to QUIET and ALIGN to DOWN with the HELLO count at 0 (R111, R114, R167, R168, R169, R170, R174; that a free port takes a notice as the event ends is log 11). -/
def Obligations.LinkLossOrphansDestinations : Prop :=
  ∀ (s : State) (q : Sender) (tag : Byte), s.inReset = false →
    ((s.link q).replies.length < 8 →
      ∃ t, exec (.goodbye (.sender q) tag []) s = .next t ∧ (t.link q).state = .down
        ∧ Raised [.ofPort (.sender q) .framesGood] s t ∧ (∀ x, x ≠ q → SameLink s t x)
        ∧ SameExcept [.receivers, .links, .counters, .dests, .notices] s t
        ∧ Replied s t q tag .goodbye .done []
        ∧ (if (s.link q).state = .active ∨ (s.link q).state = .quiet then
            (∀ d, t.dest d = if (s.dest d).owner = some q then
              { s.dest d with holds := { (s.dest d).holds with orphaned := true } } else s.dest d)
            ∧ NoticesLost (some q) q s t
          else SameExcept [.receivers, .links, .counters] s t))
    ∧ ((s.link q).state = .quiet → 4000 ≤ (s.link q).silenceMs →
      ∃ t, exec (.linkLapse q) s = .next t ∧ (t.link q).state = .lapsed
        ∧ SameExcept [.links, .dests, .notices] s t ∧ (∀ x, x ≠ q → SameLink s t x)
        ∧ t.bank.levels.getLsbD 10 = true
        ∧ NoticesLost none q s t
        ∧ ∀ d, t.dest d = if (s.dest d).owner = some q then
            { s.dest d with holds := { (s.dest d).holds with orphaned := true } } else s.dest d)
    ∧ (1000 ≤ (s.link q).silenceMs →
      ∃ t, exec (.linkSilence1000 q) s = .next t ∧ SameExcept [.links] s t ∧ (∀ x, x ≠ q → SameLink s t x)
        ∧ ((s.link q).state = .active → (t.link q).state = .quiet)
        ∧ ((s.link q).state = .align → (t.link q).state = .down ∧ (t.link q).hellos = 0)
        ∧ ((s.link q).state = .down ∨ (s.link q).state = .quiet ∨ (s.link q).state = .lapsed →
            SameLink s t q))

/-- Every good request frame is answered by exactly one reply with its frame tag and its kind; a frame of a kind not taken on its port is answered UNKNOWN_KIND with no result and changes nothing else. With 8 replies waiting a frame is dropped with no reply, and FRAMES_BAD rises. On the identifier port, which answers nothing, a frame other than an ITEM-REPORT of 6 bytes is counted as bad (R162, R163, R165). -/
def Obligations.EachRequestHasOneReply : Prop :=
  ∀ (s : State) (q : Sender) (tag : Byte) (pl : List Byte), s.inReset = false →
    (∀ k : Kind, (s.link q).replies.length < 8 →
      ∃ t status result, exec (k.command (.sender q) tag pl) s = .next t ∧ Replied s t q tag k status result)
    ∧ (∀ k : Kind, 8 ≤ (s.link q).replies.length →
      ∃ t, exec (k.command (.sender q) tag pl) s = .next t ∧ SameExcept [.receivers, .links, .counters] s t
        ∧ Raised [.ofPort (.sender q) .framesBad] s t
        ∧ (t.link q).owed = (s.link q).owed ∧ (t.link q).state = (s.link q).state
        ∧ (t.link q).silenceMs = (s.link q).silenceMs ∧ ∀ x, x ≠ q → SameLink s t x)
    ∧ (∀ kind : Byte, kindTakenOn kind (.sender q) = false → (s.link q).replies.length < 8 →
      ∃ t, exec (.unknownKind (.sender q) kind tag pl) s = .next t ∧ Took q [] s t
        ∧ (t.link q).owed = (s.link q).owed ++ [Reply.frame ⟨tag, kind, .unknownKind, []⟩])
    ∧ (∀ kind : Byte, kindTakenOn kind .identifier = false →
      ∃ t, exec (.unknownKind .identifier kind tag pl) s = .next t ∧ SameExcept [.receivers, .counters] s t
        ∧ Raised [.ofPort .identifier .framesBad] s t ∧ t.receiver .identifier = {})
    ∧ ∀ k : Kind, k ≠ .itemReport ∨ pl.length ≠ 6 →
      ∃ t, exec (k.command .identifier tag pl) s = .next t ∧ SameExcept [.receivers, .counters] s t
        ∧ Raised [.ofPort .identifier .framesBad] s t ∧ t.receiver .identifier = {}

/-- The admission checks in order: NOT_ACTIVE off a link that is not ACTIVE or QUIET, NOT_READY to a station before COMMISSION, ARGUMENT for a payload of the wrong length, and NOT_READY to the site before COMMISSION for the requests of its table; a kind not taken on the port is UNKNOWN_KIND before all of them. A request turned away changes nothing, and its reply has no result, but for a station's REGISTER-PATTERN and DROP-PATTERN, which carry its two counts, and a WRITE-ROUTE and SET-LIST of their length, which carry the kept list as it would have been stored (R38, R75, R162, R173, R179; that a kept list is formed also from members out of range, and that a wrong length carries none, is log 16, and that the other NOT_ACTIVE and ARGUMENT replies and the other NOT_READY replies to a station carry none is log 28). -/
def Obligations.AdmissionTurnsAway : Prop :=
  ∀ (s : State) (q : Sender) (k : Kind) (tag : Byte) (pl : List Byte), s.inReset = false →
    (s.link q).replies.length < 8 → k ≠ .hello → k ≠ .goodbye →
    let carried : List Byte :=
      if k = .registerPattern ∨ k = .dropPattern then
        match q with
        | .station st => [byteOf (patternCount st s.patterns), byteOf (lockedCount st s.patterns)]
        | .site => []
      else if k.payloadFits q pl = false then []
      else if k = .writeRoute then
        match q with
        | .station _ => listBytes (keptList (pl.drop 2))
        | .site => listBytes (keptList (pl.drop 3))
      else if k = .setList then listBytes (keptList (pl.drop 2))
      else []
    ∃ t, exec (k.command (.sender q) tag pl) s = .next t
      ∧ (if k.takenFrom q = false then Took q [] s t ∧ Replied s t q tag k .unknownKind []
        else if (s.link q).state ≠ .active ∧ (s.link q).state ≠ .quiet then
          Took q [] s t ∧ Replied s t q tag k .notActive carried
        else if q ≠ .site ∧ s.belt.state = .unconfigured then
          Took q [] s t ∧ Replied s t q tag k .notReady carried
        else if k.payloadFits q pl = false then
          Took q [] s t ∧ Replied s t q tag k .argument carried
        else if q = .site ∧ k.waitsForCommission = true ∧ s.belt.state = .unconfigured then
          Took q [] s t ∧ Replied s t q tag k .notReady carried
        else True)

/-- A frame with no sync in it whose length byte is out of range, whose check byte is not the CRC-8 of the bytes before it, that a line error ends, or that a gap of more than 5 ms ends, is one bad frame: FRAMES_BAD rises once, the receiver hunts, in ALIGN the HELLO count is 0, and the silence timer is not moved. A line error in HUNT does nothing. The bytes after the sync are examined again: a good HELLO among them is taken, behind the bad frame; a sync among them starts a frame of its own, which a line error ends as bad too, and which a gap leaves in progress (R158, R159, R160, R165, R167; whole milliseconds are log 9, and that the byte of a line error is a line error again is log 7). -/
def Obligations.BadFrameIsCounted : Prop :=
  ∀ (s : State) (q : Sender), s.inReset = false →
    ((s.receiver (.sender q)).kept = none →
      (∃ t, exec (.badFrame (.sender q) [.lineError]) s = .next t ∧ SameExcept [] s t)
      ∧ (∀ b : Byte, b ≠ 0xC3#8 → b.toNat < 2 ∨ 50 < b.toNat →
        ∃ t, exec (.badFrame (.sender q) [.byte 0xC3#8, .byte b]) s = .next t ∧ EndedBad s t q)
      ∧ (∀ (kind tag check : Byte) (pl : List Byte), pl.length ≤ 48 → 0xC3#8 ∉ kind :: tag :: check :: pl →
        check ≠ crc8 (byteOf (pl.length + 2) :: kind :: tag :: pl) →
        ∃ t, exec (.badFrame (.sender q) (([0xC3#8, byteOf (pl.length + 2), kind, tag] ++ pl ++ [check]).map
            LineItem.byte)) s = .next t ∧ EndedBad s t q)
      ∧ ∃ t, exec (.badFrame (.sender q) [.byte 0xC3#8, .lineError]) s = .next t ∧ EndedBad s t q)
    ∧ (∀ l : List Byte, (s.receiver (.sender q)).kept = some l → 0xC3#8 ∉ l →
      (∃ t, exec (.badFrame (.sender q) [.lineError]) s = .next t ∧ EndedBad s t q)
      ∧ ∀ ms : Nat, (s.receiver (.sender q)).gapMs = some ms → 5 < ms →
        ∃ t, exec (.frameGapTimeout (.sender q)) s = .next t ∧ EndedBad s t q)
    ∧ (∀ (pre : List Byte) (tag : Byte),
      (s.receiver (.sender q)).kept = some (pre ++ [0xC3#8, 2, 1, tag, crc8 [2, 1, tag]]) → 0xC3#8 ∉ pre →
      (s.link q).replies.length < 8 →
      ∀ i : Instr, i = .badFrame (.sender q) [.lineError]
          ∨ i = .frameGapTimeout (.sender q) ∧ (∃ ms, (s.receiver (.sender q)).gapMs = some ms ∧ 5 < ms) →
        ∃ t, exec i s = .next t ∧ Raised [.ofPort (.sender q) .framesBad, .ofPort (.sender q) .framesGood] s t
          ∧ t.receiver (.sender q) = {} ∧ (t.link q).silenceMs = 0
          ∧ Replied s t q tag .hello .done
              [byteOf (Sender.index q).val, 0x02#8, 0x64#8, 0x01#8, byteOf (t.link q).state.number]
          ∧ ((s.link q).state = .down ∨ (s.link q).state = .lapsed ∨ (s.link q).state = .align →
              (t.link q).state = .align ∧ (t.link q).hellos = 1)
          ∧ ((s.link q).state = .active ∨ (s.link q).state = .quiet → (t.link q).state = .active))
    ∧ (∀ (pre : List Byte) (b : Byte), (s.receiver (.sender q)).kept = some (pre ++ [0xC3#8, b]) → 0xC3#8 ∉ pre →
      2 ≤ b.toNat → b.toNat ≤ 50 →
      (∃ t, exec (.badFrame (.sender q) [.lineError]) s = .next t ∧ SameExcept [.receivers, .links, .counters] s t
        ∧ (t.receiver (.sender q)).kept = none
        ∧ t.counter (.ofPort (.sender q) .framesBad)
            = min (s.counter (.ofPort (.sender q) .framesBad) + 2) 65535)
      ∧ ∀ ms : Nat, (s.receiver (.sender q)).gapMs = some ms → 5 < ms →
        ∃ t, exec (.frameGapTimeout (.sender q)) s = .next t ∧ SameExcept [.receivers, .links, .counters] s t
          ∧ t.receiver (.sender q) = { kept := some [b], gapMs := none }
          ∧ Raised [.ofPort (.sender q) .framesBad] s t)
    ∧ ((s.receiver .identifier).kept = none →
      ∀ b : Byte, b ≠ 0xC3#8 → b.toNat < 2 ∨ 50 < b.toNat →
        ∃ t, exec (.badFrame .identifier [.byte 0xC3#8, .byte b]) s = .next t
          ∧ SameExcept [.receivers, .counters] s t ∧ Raised [.ofPort .identifier .framesBad] s t
          ∧ (t.receiver .identifier).kept = none)

/-- As a frame ends, the transmitter takes the oldest reply, before any notice; with no reply waiting a station's oldest DEST-STATE goes next, a mark formed from the record and a final notice with the contents fixed at the release, each with the port's sequence in its tag, and then the oldest notice; with nothing waiting it is free (R164, R175, R176). -/
def Obligations.TransmitterPrefersReplies : Prop :=
  ∀ (s : State) (q : Sender), s.inReset = false →
    ∃ t, exec (.frameSent q) s = .next t ∧ SameExcept [.links, .notices] s t
      ∧ (∀ r rest, (s.link q).replies = r :: rest →
          (∃ f, (t.link q).sending = some f ∧ f.frame = r.frame) ∧ (t.link q).replies = rest)
      ∧ ((s.link q).replies = [] → q = .site → (t.link q).sending = none)
      ∧ ∀ st : Station, q = .station st → (s.link q).replies = [] →
          (hears s st = true →
            (∀ (d : DestId) (rest : List DestItem), (s.noticeQueue st).dests = .mark d :: rest →
              (∃ f, (t.link q).sending = some f
                ∧ f.frame = ⟨0x90#8, (s.noticeQueue st).seq, byteOf d.val :: recordBytes (s.dest d)⟩)
              ∧ (t.noticeQueue st).dests = rest ∧ (t.noticeQueue st).seq = (s.noticeQueue st).seq + 1)
            ∧ (∀ (d : DestId) (fixed : List Byte) (rest : List DestItem),
                (s.noticeQueue st).dests = .lastNotice d fixed :: rest →
              (∃ f, (t.link q).sending = some f ∧ f.frame = ⟨0x90#8, (s.noticeQueue st).seq, fixed⟩)
              ∧ (t.noticeQueue st).dests = rest ∧ (t.noticeQueue st).seq = (s.noticeQueue st).seq + 1)
            ∧ (∀ (n : Notice) (rest : List Notice), (s.noticeQueue st).dests = [] →
                (s.noticeQueue st).places = n :: rest →
              (∃ f, (t.link q).sending = some f
                ∧ f.frame = ⟨(noticeFrame n).1, (s.noticeQueue st).seq, (noticeFrame n).2⟩)
              ∧ (t.noticeQueue st).places = rest ∧ (t.noticeQueue st).seq = (s.noticeQueue st).seq + 1))
          ∧ (hears s st = false ∨ (s.noticeQueue st).dests = [] ∧ (s.noticeQueue st).places = [] →
            (t.link q).sending = none)

/-! ### Site -/

/-- SET-BELT clamps its five values, is BUSY where D_T or W would change while the belt runs or the map holds an entry, on a commissioned belt refuses a change of them that fails check 4 or 5, and otherwise stores the values, a new idle time and a new B acting at once, each destination that gains BLOCKED so being offered to its owner; the result is the five values as stored (R9, R114, R148, R180; the place of the check number is log 15, that the window count s stands as the belt leaves RUNNING is log 38, and that a free port takes a notice as the event ends is log 11). -/
def Obligations.SetBeltClampsAndStores : Prop :=
  ∀ (s : State) (tag : Byte) (pl : List Byte), Served s .site → pl.length = 9 →
    ∃ t, exec (.setBelt (.sender .site) tag pl) s = .next t
      ∧ (let asked := readSettings pl
         let v := clampSettings asked
         if (v.dT ≠ s.settings.dT ∨ v.w ≠ s.settings.w) ∧ (s.belt.state = .running ∨ s.map ≠ []) then
           Took .site [] s t ∧ Replied s t .site tag .setBelt .busy (setBeltBytes s.settings)
         else match (if (v.dT ≠ s.settings.dT ∨ v.w ≠ s.settings.w) ∧ s.belt.state ≠ .unconfigured then
             firstFailed [(4, windowFits v.w (configuredGates s.gates)), (5, tailFits v.dT (configuredGates s.gates))]
           else none) with
         | some n => Took .site [] s t
             ∧ Replied s t .site tag .setBelt .badConfig (setBeltBytes s.settings ++ [byteOf n])
         | none => t.settings = v
             ∧ (if s.belt.state = .running ∧ v.idleTime ≠ 0 ∧ 1000 * v.idleTime ≤ s.belt.idleMs then
                 t.belt.still = { s.belt.still with state := .idleStopped, motor := false, runGuard := none }
               else t.belt.still = s.belt.still)
             ∧ (if ∃ d : DestId, s.confirmEye d = true ∧ (s.dest d).holds.blocked = false ∧ v.b ≤ (s.dest d).blockMs then
                 TookCounting .site [.settings, .belt, .dests, .map, .gates, .notices] s t
                   ∧ DestNotices (some .site) s t
                   ∧ ∀ d : DestId, (t.dest d).holds.blocked
                       = ((s.dest d).holds.blocked || (s.confirmEye d && decide (v.b ≤ (s.dest d).blockMs)))
               else Took .site [.settings, .belt] s t)
             ∧ Replied s t .site tag .setBelt (if v = asked then .done else .doneClamped) (setBeltBytes v))

/-- SET-GATE clamps its fields, is BUSY where D_g, A_g or the configured flag would change while the belt runs or the map holds an entry, STATE where it would unconfigure a gate with a claimed destination, BAD_CONFIG where a commissioned belt's geometry would fail a check, and otherwise stores every field; a number above 11 is ARGUMENT. A gate that becomes watched with a switch extended goes OUT_OF_SERVICE at once, with EXTEND_UNCOMMANDED, GATE_OUT on both its destinations, each that changes offered to its owner, and the GATE_FAULT level set; the map is then empty, so that no entry and no token moves (R110, R114, R118, R119, R129, R151, R181; the place of the check number is log 15, that the ARGUMENT of a number above 11 has no result is log 28, and that a free port takes a notice as the event ends is log 11). -/
def Obligations.SetGateClampsAndStores : Prop :=
  ∀ (s : State) (tag x : Byte) (pl : List Byte), Served s .site → pl.length = 10 →
    ∃ t, exec (.setGate (.sender .site) tag (x :: pl)) s = .next t
      ∧ match inRange? 12 x.toNat with
        | none => Took .site [] s t ∧ Replied s t .site tag .setGate .argument []
        | some g =>
          let asked := readGate (x :: pl) (s.gate g)
          let h := clampGate asked
          if gateGeometryDiffers (s.gate g) h = true ∧ (s.belt.state = .running ∨ s.map ≠ []) then
            Took .site [] s t ∧ Replied s t .site tag .setGate .busy (setGateBytes g (s.gate g))
          else if (s.gate g).configured = true ∧ h.configured = false
              ∧ ((s.dest (gateDest g .left)).owner ≠ none ∨ (s.dest (gateDest g .right)).owner ≠ none) then
            Took .site [] s t ∧ Replied s t .site tag .setGate .state (setGateBytes g (s.gate g))
          else match (if gateGeometryDiffers (s.gate g) h = true ∧ s.belt.state ≠ .unconfigured then
              firstFailed (geometryChecks (s.gates.set g h) s.settings s.routes) else none) with
          | some n => Took .site [] s t
              ∧ Replied s t .site tag .setGate .badConfig (setGateBytes g (s.gate g) ++ [byteOf n])
          | none =>
            if s.belt.state ≠ .unconfigured ∧ (s.gate g).configured = false ∧ h.configured = true
                ∧ (s.gate g).service = .inService ∧ (s.gate g).cycle = none ∧ (s.gate g).checks = []
                ∧ (s.switchExtended g .left = true ∨ s.switchExtended g .right = true) then
              Took .site [.gates, .dests, .notices] s t ∧ DestNotices (some .site) s t ∧ s.map = []
                ∧ t.gate g = { h with service := .outOfService, queue := [], fault := (t.gate g).fault }
                ∧ (t.gate g).fault.cause = .extendUncommanded ∧ SameOtherGates s t g
                ∧ (∀ y : Side, (t.dest (gateDest g y)).holds.gateOut = true) ∧ t.bank.levels.getLsbD 7 = true
                ∧ Replied s t .site tag .setGate (if h = asked then .done else .doneClamped) (setGateBytes g (t.gate g))
            else Took .site [.gates] s t ∧ t.gate g = h ∧ SameOtherGates s t g
              ∧ Replied s t .site tag .setGate (if h = asked then .done else .doneClamped) (setGateBytes g h)

/-- SET-DEST writes the class set, the eligibility, the mode and the margin brought into range, and the configured flag of an UNCLAIMED destination; a change of that flag on a claimed one is STATE with nothing written, and a number above 23 is ARGUMENT. A change of the flag starts the rack filter afresh, arms the re-arm state and, to no, clears FULL. A change from LEVEL to EDGE latches a set FULL, waiting for clear where the input is asserted; a change from EDGE to LEVEL gives FULL the level that the input has held for 50 ms (log 36), and a destination that so gains FULL has the entries bound for it moved off; otherwise no other destination and no entry moves. A change of FULL is offered to the owner as DEST-STATE (R81, R92, R98, R107, R108, R114, R182; that the ARGUMENT has no result is log 28, and that a free port takes a notice as the event ends is log 11). -/
def Obligations.SetDestWritesFields : Prop :=
  ∀ (s : State) (tag x cfg hi lo el mode margin : Byte), Served s .site →
    ∃ t, exec (.setDest (.sender .site) tag [x, cfg, hi, lo, el, mode, margin]) s = .next t
      ∧ match inRange? 24 x.toNat with
        | none => Took .site [] s t ∧ Replied s t .site tag .setDest .argument []
        | some d =>
          if (cfg != 0) ≠ (s.dest d).configured ∧ (s.dest d).owner ≠ none then
            Took .site [] s t ∧ Replied s t .site tag .setDest .state (setDestBytes (s.dest d))
          else
            let newMode : RackMode := if mode = 0 then .level else .edge
            let full := if (cfg != 0) ≠ (s.dest d).configured then (s.dest d).holds.full && (cfg != 0)
              else if (s.dest d).mode = .edge ∧ newMode = .level ∧ (s.dest d).configured = true
                ∧ 50 ≤ (s.dest d).rackMs then s.rackSensor d
              else (s.dest d).holds.full
            t.dest d = { s.dest d with
                configured := cfg != 0
                classes := BitVec.ofNat 14 (hi ++ lo).toNat
                eligible := BitVec.ofNat 7 el.toNat
                mode := newMode
                margin := min margin.toNat 3
                holds := { (s.dest d).holds with full := full }
                rackMs := if (cfg != 0) ≠ (s.dest d).configured then 0 else (s.dest d).rackMs
                rearm := if (cfg != 0) ≠ (s.dest d).configured then .armed
                  else if newMode = (s.dest d).mode then (s.dest d).rearm
                  else if newMode = .edge ∧ (s.dest d).holds.full = true ∧ s.rackSensor d = true then .waitingForClear
                  else .armed
                state := (t.dest d).state, reserved := (t.dest d).reserved }
              ∧ DestNotices (some .site) s t
              ∧ (if full = true ∧ (s.dest d).holds.full = false then
                  TookCounting .site [.dests, .map, .gates, .notices] s t ∧ (RouteLaw s → MovedOff [d] s t)
                else Took .site [.dests, .notices] s t ∧ SameOtherDests s t d
                  ∧ (t.dest d).state = (s.dest d).state ∧ (t.dest d).reserved = (s.dest d).reserved)
              ∧ Replied s t .site tag .setDest
                  (if 3 < margin.toNat ∨ 1 < mode.toNat then .doneClamped else .done) (setDestBytes (t.dest d))

/-- COMMISSION in any state but UNCONFIGURED is STATE; in UNCONFIGURED the first check that fails is answered BAD_CONFIG with its number, and where all pass the belt is STOPPED with its motor off and every gate watched: one with both switches clear stays as it is, and a configured one that is IDLE, IN_SERVICE, with no check in progress and a switch extended goes OUT_OF_SERVICE with EXTEND_UNCOMMANDED in its fault record, its queue emptied, GATE_OUT on both its destinations, each that changes offered to its owner, and the GATE_FAULT level set; a token bound for such a gate that has not fired leaves the map with ABORTED and the TEST_DONE latch, and any other stays (R66, R67, R110, R114, R129, R135, R151, R153, R183, R184; that a free port takes a notice as the event ends is log 11). -/
def Obligations.CommissionChecksGeometry : Prop :=
  ∀ (s : State) (tag : Byte), Served s .site →
    ∃ t, exec (.commission (.sender .site) tag []) s = .next t
      ∧ (if s.belt.state ≠ .unconfigured then
          Took .site [] s t ∧ Replied s t .site tag .commission .state []
        else match firstFailed (geometryChecks s.gates s.settings s.routes) with
          | some n => Took .site [] s t ∧ Replied s t .site tag .commission .badConfig [byteOf n]
          | none =>
            TookCounting .site [.belt, .gates, .dests, .map, .test, .notices] s t
              ∧ t.belt.still = { s.belt.still with
                  state := .stopped, motor := false, runGuard := none, tailMs := 0 }
              ∧ (∀ g : GateId, s.switchExtended g .left = false → s.switchExtended g .right = false →
                  t.gate g = s.gate g)
              ∧ (∀ (g : GateId) (side : Side), (s.gate g).configured = true →
                  (s.gate g).service = .inService → (s.gate g).cycle = none → (s.gate g).checks = [] →
                  s.switchExtended g side = true →
                  t.gate g = { s.gate g with service := .outOfService, queue := [], fault := (t.gate g).fault }
                    ∧ (t.gate g).fault.cause = .extendUncommanded
                    ∧ (t.gate g).fault.count = min ((s.gate g).fault.count + 1) 255
                    ∧ (t.gate g).fault.p = some s.belt.p
                    ∧ ((∀ y : Side, s.switchExtended g y = true → y = side) → (t.gate g).fault.side = some side)
                    ∧ (∀ x : Side, (t.dest (gateDest g x)).holds.gateOut = true)
                    ∧ t.bank.levels.getLsbD 7 = true)
              ∧ TokenAborted (fun g => (s.gate g).configured = true ∧ (s.gate g).service = .inService
                  ∧ (s.gate g).cycle = none ∧ (s.gate g).checks = []
                  ∧ (s.switchExtended g .left = true ∨ s.switchExtended g .right = true)) s t
              ∧ DestNotices (some .site) s t
              ∧ Replied s t .site tag .commission .done [])

/-- RESTART empties the map, the fire queues and the awaiting-confirm queues, sets every R_d, V and the timers of the belt to 0, puts the belt in STOPPED or leaves it HALTED, closes DRAINING and completes RELEASING destinations, each of them offered to its owner or former owner, and keeps P, F_d, the lists, the patterns, the tag counter, the service states and the other owners (R18, R28, R70, R95, R114, R117, R138, R155, R175, R187; that a free port takes a notice as the event ends is log 11). -/
def Obligations.RestartEmptiesTracking : Prop :=
  ∀ (s : State) (tag : Byte), ServedCommissioned s .site →
    ∃ t, exec (.restart (.sender .site) tag []) s = .next t
      ∧ Took .site [.belt, .reader, .map, .gates, .dests, .test, .notices] s t
      ∧ t.map = [] ∧ DestNotices (some .site) s t
      ∧ t.belt.still = { s.belt.still with
          v := 0, zeroWindows := 0, runGuard := none, motor := false
          state := if s.belt.state = .halted then .halted else .stopped }
      ∧ t.belt.idleMs = 0
      ∧ t.reader = { s.reader with
          capture := if s.pins.readEye then .clearWait none else .ready, eyeBlocked := false }
      ∧ (∀ g : GateId, t.gate g = { s.gate g with
          queue := [], checks := (s.gate g).checks.map fun c => { c with forToken := false } })
      ∧ (∀ d : DestId, (t.dest d).reserved = 0 ∧ (t.dest d).awaiting = []
          ∧ ((s.dest d).state = .draining → (t.dest d).state = .closed ∧ (t.dest d).owner = (s.dest d).owner
              ∧ (t.dest d).free = (s.dest d).free ∧ (t.dest d).holds = (s.dest d).holds)
          ∧ ((s.dest d).state = .releasing →
              (t.dest d).state = .unclaimed ∧ (t.dest d).owner = none ∧ (t.dest d).free = 0
                ∧ (t.dest d).holds.silent = false ∧ (t.dest d).holds.orphaned = false)
          ∧ ((s.dest d).state = .unclaimed ∨ (s.dest d).state = .closed ∨ (s.dest d).state = .opened →
              t.dest d = { s.dest d with reserved := 0, awaiting := [] }))
      ∧ t.test = (if s.find .token = none then s.test else { s.test with result := .aborted })
      ∧ (s.find .token ≠ none → t.bank.latches.getLsbD 12 = true)
      ∧ Replied s t .site tag .restart .done (beltBytes t.belt)

/-! ### Counters and conditions -/

/-- SNAPSHOT copies every live counter and leaves it; SNAPSHOT-CLEAR makes the same copy and sets every live counter to 0, which clears COUNTER_SATURATED and sets its latch where it was set; both copies count the request's own frame, and both replies are DONE with no result (R162, R189). -/
def Obligations.SnapshotCopiesCounters : Prop :=
  ∀ (s : State) (tag : Byte), Served s .site →
    (∃ t, exec (.snapshot (.sender .site) tag []) s = .next t ∧ Took .site [.bank] s t
      ∧ (∀ c : Counter, t.bank.snapshot[c.index] = t.counter c)
      ∧ t.bank.enables = s.bank.enables ∧ t.bank.globalEnable = s.bank.globalEnable
      ∧ t.bank.levels.getLsbD 11 = levelCounterSaturated t
      ∧ Replied s t .site tag .snapshot .done [])
    ∧ ∃ t, exec (.snapshotClear (.sender .site) tag []) s = .next t ∧ Heard s t .site
      ∧ SameExcept [.receivers, .links, .counters, .bank] s t
      ∧ (∀ c : Counter, t.bank.snapshot[c.index]
          = if c = .ofPort (.sender .site) .framesGood then min (s.counter c + 1) 65535 else s.counter c)
      ∧ (∀ c : Counter, t.counter c = 0) ∧ t.bank.levels.getLsbD 11 = false
      ∧ (s.bank.levels.getLsbD 11 = true → t.bank.latches.getLsbD 11 = true)
      ∧ t.bank.enables = s.bank.enables ∧ t.bank.globalEnable = s.bank.globalEnable
      ∧ Replied s t .site tag .snapshotClear .done []

/-- READ-SNAPSHOT replies with the counters of a group of the snapshot set, two bytes each, and refuses a group above 44 with ARGUMENT; it changes nothing (R190; that the ARGUMENT has no result is log 28). -/
def Obligations.ReadSnapshotGroups : Prop :=
  ∀ (s : State) (tag n : Byte), Served s .site →
    ∃ t, exec (.readSnapshot (.sender .site) tag [n]) s = .next t ∧ Took .site [] s t
      ∧ (44 < n.toNat → Replied s t .site tag .readSnapshot .argument [])
      ∧ (n = 0 → Replied s t .site tag .readSnapshot .done
          (n :: (([.captures, .reportsMatched, .reportUnmatched, .idLost, .idExpired, .mapOverrun, .reroutes,
              .tailArrivals, .suspectDiscards, .encoderLosses] : List GlobalCounter).map fun c =>
            wordBytes s.bank.snapshot[(Counter.ofPart c).index]).flatten))
      ∧ (∀ g : GateId, n.toNat = g.val + 1 → Replied s t .site tag .readSnapshot .done
          (n :: (([.fires, .lateFires, .missedFires, .spacingConflicts] : List GateCounter).map fun c =>
            wordBytes s.bank.snapshot[(Counter.ofGate g c).index]).flatten))
      ∧ (∀ d : DestId, n.toNat = d.val + 13 → Replied s t .site tag .readSnapshot .done
          (n :: (([.assigned, .arrived, .misses, .strays] : List DestCounter).map fun c =>
            wordBytes s.bank.snapshot[(Counter.ofDest d c).index]).flatten))
      ∧ (∀ p : Port, n.toNat = (Port.index p).val + 37 → Replied s t .site tag .readSnapshot .done
          (n :: (([.framesGood, .framesBad, .noticesDropped] : List PortCounter).map fun c =>
            wordBytes s.bank.snapshot[(Counter.ofPort p c).index]).flatten))

/-- READ-CONDITIONS reports the levels, the latches as they stand after its own frame is counted, and the global enable, and clears every latch, with ATTN released; SET-ENABLES stores the global enable and the 13 enables and touches no latch, and ATTN follows at once (R191, R192, R193). That the bits 13 to 15 of levels, latches and enables are sent as 0 is the model's choice (log 14), and that the latch of a level moved by the request's own frame is among those reported is deduced (log 27). -/
def Obligations.ConditionsAreReadAndEnabled : Prop :=
  ∀ (s : State) (tag : Byte), Served s .site →
    (∃ t, exec (.readConditions (.sender .site) tag []) s = .next t ∧ Took .site [] s t
      ∧ t.bank.levels = condLevels t ∧ t.bank.latches = 0 ∧ t.bank.attn = false
      ∧ Replied s t .site tag .readConditions .done
          (wordBytes t.bank.levels.toNat ++ wordBytes (s.bank.latches ||| (s.bank.levels ^^^ t.bank.levels)).toNat
            ++ [boolByte s.bank.globalEnable]))
    ∧ ∀ en hi lo : Byte, ∃ t, exec (.setEnables (.sender .site) tag [en, hi, lo]) s = .next t
      ∧ Took .site [.bank] s t ∧ t.bank.snapshot = s.bank.snapshot
      ∧ t.bank.globalEnable = (en != 0) ∧ t.bank.enables = BitVec.ofNat 13 (hi ++ lo).toNat
      ∧ t.bank.levels = condLevels t
      ∧ t.bank.latches = s.bank.latches ||| (s.bank.levels ^^^ t.bank.levels)
      ∧ t.bank.attn = ((en != 0) && (t.bank.latches &&& BitVec.ofNat 13 (hi ++ lo).toNat) != 0)
      ∧ Replied s t .site tag .setEnables .done
          (boolByte (en != 0) :: wordBytes (BitVec.ofNat 13 (hi ++ lo).toNat).toNat)

/-! ### Laws that every step keeps -/

/-- The laws hold in the state after reset. -/
def Obligations.LawsHoldAtReset : Prop :=
  BeltLaw State.reset ∧ PatternLaw State.reset ∧ QueueLaw State.reset ∧ ConditionLaw State.reset
    ∧ RouteLaw State.reset ∧ FireLaw State.reset ∧ GateOutLaw State.reset

/-- Every step keeps the belt unit's law: the motor on exactly while RUNNING, a cause recorded exactly while HALTED, V within 0..4095 (R4, R5, R6, R11, R13, R14). -/
def Obligations.StepsKeepBeltLaw : Prop :=
  ∀ s t : State, BeltLaw s → step s = .next t → BeltLaw t

/-- Every step keeps the pattern table's law and the bounds of the queues, and leaves the bank's levels at the blocks' levels and ATTN as the latches and enables give it. It keeps every fire queue in fire order, of ARMED entries bound for its gate, where no F has been left half the circle behind P, and GATE_OUT on a destination exactly while its gate is OUT_OF_SERVICE (R38, R110, R122, R123, R139, R163, R174, R191, R192; that a fire target can be left untaken at all is log 4). -/
def Obligations.StepsKeepTableLaws : Prop :=
  ∀ s t : State, step s = .next t →
    (PatternLaw s → PatternLaw t) ∧ (QueueLaw s → QueueLaw t) ∧ (ConditionLaw s → ConditionLaw t)
      ∧ (MapLaw s → FireLaw s → FiresInTime s → FireLaw t) ∧ (GateOutLaw s → GateOutLaw t)

/-- Every step keeps the transit map's law and the entries' shape, R_d equal to the entries bound for d and the records that await confirm there, no entry bound for a RELEASING destination, an owner exactly where the state is not UNCLAIMED, and every entry bound for a destination that may receive it (R51, R79, R88, R105, R106). -/
def Obligations.StepsKeepRouteLaw : Prop :=
  ∀ s t : State, RouteLaw s → step s = .next t → RouteLaw t
end

