-- ==== Sys2Proof/Laws/State.lean ====
section
/-! SUPPORT. What each update of the state does to each field and each named read: true by unfolding, so that no later proof unfolds a record update. -/

namespace Sys2Proof.Machine

@[simp] theorem modDest_belt (s : State) (d : DestId) (f : Dest → Dest) : (s.modDest d f).belt = s.belt := rfl
@[simp] theorem modDest_pins (s : State) (d : DestId) (f : Dest → Dest) : (s.modDest d f).pins = s.pins := rfl
@[simp] theorem modDest_reader (s : State) (d : DestId) (f : Dest → Dest) : (s.modDest d f).reader = s.reader := rfl
@[simp] theorem modDest_matcher (s : State) (d : DestId) (f : Dest → Dest) : (s.modDest d f).matcher = s.matcher := rfl
@[simp] theorem modDest_patterns (s : State) (d : DestId) (f : Dest → Dest) : (s.modDest d f).patterns = s.patterns := rfl
@[simp] theorem modDest_map (s : State) (d : DestId) (f : Dest → Dest) : (s.modDest d f).map = s.map := rfl
@[simp] theorem modDest_routes (s : State) (d : DestId) (f : Dest → Dest) : (s.modDest d f).routes = s.routes := rfl
@[simp] theorem modDest_gates (s : State) (d : DestId) (f : Dest → Dest) : (s.modDest d f).gates = s.gates := rfl
@[simp] theorem modDest_test (s : State) (d : DestId) (f : Dest → Dest) : (s.modDest d f).test = s.test := rfl
@[simp] theorem modDest_receivers (s : State) (d : DestId) (f : Dest → Dest) : (s.modDest d f).receivers = s.receivers := rfl
@[simp] theorem modDest_links (s : State) (d : DestId) (f : Dest → Dest) : (s.modDest d f).links = s.links := rfl
@[simp] theorem modDest_notices (s : State) (d : DestId) (f : Dest → Dest) : (s.modDest d f).notices = s.notices := rfl
@[simp] theorem modDest_settings (s : State) (d : DestId) (f : Dest → Dest) : (s.modDest d f).settings = s.settings := rfl
@[simp] theorem modDest_bank (s : State) (d : DestId) (f : Dest → Dest) : (s.modDest d f).bank = s.bank := rfl
@[simp] theorem modDest_refreshMs (s : State) (d : DestId) (f : Dest → Dest) : (s.modDest d f).refreshMs = s.refreshMs := rfl
@[simp] theorem modDest_inReset (s : State) (d : DestId) (f : Dest → Dest) : (s.modDest d f).inReset = s.inReset := rfl
@[simp] theorem modDest_draws (s : State) (d : DestId) (f : Dest → Dest) : (s.modDest d f).draws = s.draws := rfl
@[simp] theorem modDest_orders (s : State) (d : DestId) (f : Dest → Dest) : (s.modDest d f).orders = s.orders := rfl
@[simp] theorem modDest_pending (s : State) (d : DestId) (f : Dest → Dest) : (s.modDest d f).pending = s.pending := rfl
@[simp] theorem modDest_gate (s : State) (d : DestId) (f : Dest → Dest) (x : GateId) : (s.modDest d f).gate x = s.gate x := rfl
@[simp] theorem modDest_link (s : State) (d : DestId) (f : Dest → Dest) (x : Sender) : (s.modDest d f).link x = s.link x := rfl
@[simp] theorem modDest_receiver (s : State) (d : DestId) (f : Dest → Dest) (x : Port) : (s.modDest d f).receiver x = s.receiver x := rfl
@[simp] theorem modDest_noticeQueue (s : State) (d : DestId) (f : Dest → Dest) (x : Station) : (s.modDest d f).noticeQueue x = s.noticeQueue x := rfl
@[simp] theorem modDest_counter (s : State) (d : DestId) (f : Dest → Dest) (x : Counter) : (s.modDest d f).counter x = s.counter x := rfl
@[simp] theorem modDest_find (s : State) (d : DestId) (f : Dest → Dest) (x : EntryRef) : (s.modDest d f).find x = s.find x := rfl
@[simp] theorem modDest_confirmEye (s : State) (d : DestId) (f : Dest → Dest) (x : DestId) : (s.modDest d f).confirmEye x = s.confirmEye x := rfl
@[simp] theorem modDest_rackSensor (s : State) (d : DestId) (f : Dest → Dest) (x : DestId) : (s.modDest d f).rackSensor x = s.rackSensor x := rfl
@[simp] theorem modDest_switchExtended (s : State) (d : DestId) (f : Dest → Dest) (x : GateId) (y : Side) : (s.modDest d f).switchExtended x y = s.switchExtended x y := by cases y <;> rfl
@[simp] theorem modDest_isRunning (s : State) (d : DestId) (f : Dest → Dest) : (s.modDest d f).isRunning = s.isRunning := rfl
@[simp] theorem modDest_commissioned (s : State) (d : DestId) (f : Dest → Dest) : (s.modDest d f).commissioned = s.commissioned := rfl

@[simp] theorem modGate_belt (s : State) (g : GateId) (f : Gate → Gate) : (s.modGate g f).belt = s.belt := rfl
@[simp] theorem modGate_pins (s : State) (g : GateId) (f : Gate → Gate) : (s.modGate g f).pins = s.pins := rfl
@[simp] theorem modGate_reader (s : State) (g : GateId) (f : Gate → Gate) : (s.modGate g f).reader = s.reader := rfl
@[simp] theorem modGate_matcher (s : State) (g : GateId) (f : Gate → Gate) : (s.modGate g f).matcher = s.matcher := rfl
@[simp] theorem modGate_patterns (s : State) (g : GateId) (f : Gate → Gate) : (s.modGate g f).patterns = s.patterns := rfl
@[simp] theorem modGate_map (s : State) (g : GateId) (f : Gate → Gate) : (s.modGate g f).map = s.map := rfl
@[simp] theorem modGate_routes (s : State) (g : GateId) (f : Gate → Gate) : (s.modGate g f).routes = s.routes := rfl
@[simp] theorem modGate_dests (s : State) (g : GateId) (f : Gate → Gate) : (s.modGate g f).dests = s.dests := rfl
@[simp] theorem modGate_test (s : State) (g : GateId) (f : Gate → Gate) : (s.modGate g f).test = s.test := rfl
@[simp] theorem modGate_receivers (s : State) (g : GateId) (f : Gate → Gate) : (s.modGate g f).receivers = s.receivers := rfl
@[simp] theorem modGate_links (s : State) (g : GateId) (f : Gate → Gate) : (s.modGate g f).links = s.links := rfl
@[simp] theorem modGate_notices (s : State) (g : GateId) (f : Gate → Gate) : (s.modGate g f).notices = s.notices := rfl
@[simp] theorem modGate_settings (s : State) (g : GateId) (f : Gate → Gate) : (s.modGate g f).settings = s.settings := rfl
@[simp] theorem modGate_bank (s : State) (g : GateId) (f : Gate → Gate) : (s.modGate g f).bank = s.bank := rfl
@[simp] theorem modGate_refreshMs (s : State) (g : GateId) (f : Gate → Gate) : (s.modGate g f).refreshMs = s.refreshMs := rfl
@[simp] theorem modGate_inReset (s : State) (g : GateId) (f : Gate → Gate) : (s.modGate g f).inReset = s.inReset := rfl
@[simp] theorem modGate_draws (s : State) (g : GateId) (f : Gate → Gate) : (s.modGate g f).draws = s.draws := rfl
@[simp] theorem modGate_orders (s : State) (g : GateId) (f : Gate → Gate) : (s.modGate g f).orders = s.orders := rfl
@[simp] theorem modGate_pending (s : State) (g : GateId) (f : Gate → Gate) : (s.modGate g f).pending = s.pending := rfl
@[simp] theorem modGate_dest (s : State) (g : GateId) (f : Gate → Gate) (x : DestId) : (s.modGate g f).dest x = s.dest x := rfl
@[simp] theorem modGate_link (s : State) (g : GateId) (f : Gate → Gate) (x : Sender) : (s.modGate g f).link x = s.link x := rfl
@[simp] theorem modGate_receiver (s : State) (g : GateId) (f : Gate → Gate) (x : Port) : (s.modGate g f).receiver x = s.receiver x := rfl
@[simp] theorem modGate_noticeQueue (s : State) (g : GateId) (f : Gate → Gate) (x : Station) : (s.modGate g f).noticeQueue x = s.noticeQueue x := rfl
@[simp] theorem modGate_counter (s : State) (g : GateId) (f : Gate → Gate) (x : Counter) : (s.modGate g f).counter x = s.counter x := rfl
@[simp] theorem modGate_find (s : State) (g : GateId) (f : Gate → Gate) (x : EntryRef) : (s.modGate g f).find x = s.find x := rfl
@[simp] theorem modGate_confirmEye (s : State) (g : GateId) (f : Gate → Gate) (x : DestId) : (s.modGate g f).confirmEye x = s.confirmEye x := rfl
@[simp] theorem modGate_rackSensor (s : State) (g : GateId) (f : Gate → Gate) (x : DestId) : (s.modGate g f).rackSensor x = s.rackSensor x := rfl
@[simp] theorem modGate_switchExtended (s : State) (g : GateId) (f : Gate → Gate) (x : GateId) (y : Side) : (s.modGate g f).switchExtended x y = s.switchExtended x y := by cases y <;> rfl
@[simp] theorem modGate_isRunning (s : State) (g : GateId) (f : Gate → Gate) : (s.modGate g f).isRunning = s.isRunning := rfl
@[simp] theorem modGate_commissioned (s : State) (g : GateId) (f : Gate → Gate) : (s.modGate g f).commissioned = s.commissioned := rfl

@[simp] theorem modLink_belt (s : State) (q : Sender) (f : Link → Link) : (s.modLink q f).belt = s.belt := rfl
@[simp] theorem modLink_pins (s : State) (q : Sender) (f : Link → Link) : (s.modLink q f).pins = s.pins := rfl
@[simp] theorem modLink_reader (s : State) (q : Sender) (f : Link → Link) : (s.modLink q f).reader = s.reader := rfl
@[simp] theorem modLink_matcher (s : State) (q : Sender) (f : Link → Link) : (s.modLink q f).matcher = s.matcher := rfl
@[simp] theorem modLink_patterns (s : State) (q : Sender) (f : Link → Link) : (s.modLink q f).patterns = s.patterns := rfl
@[simp] theorem modLink_map (s : State) (q : Sender) (f : Link → Link) : (s.modLink q f).map = s.map := rfl
@[simp] theorem modLink_routes (s : State) (q : Sender) (f : Link → Link) : (s.modLink q f).routes = s.routes := rfl
@[simp] theorem modLink_dests (s : State) (q : Sender) (f : Link → Link) : (s.modLink q f).dests = s.dests := rfl
@[simp] theorem modLink_gates (s : State) (q : Sender) (f : Link → Link) : (s.modLink q f).gates = s.gates := rfl
@[simp] theorem modLink_test (s : State) (q : Sender) (f : Link → Link) : (s.modLink q f).test = s.test := rfl
@[simp] theorem modLink_receivers (s : State) (q : Sender) (f : Link → Link) : (s.modLink q f).receivers = s.receivers := rfl
@[simp] theorem modLink_notices (s : State) (q : Sender) (f : Link → Link) : (s.modLink q f).notices = s.notices := rfl
@[simp] theorem modLink_settings (s : State) (q : Sender) (f : Link → Link) : (s.modLink q f).settings = s.settings := rfl
@[simp] theorem modLink_bank (s : State) (q : Sender) (f : Link → Link) : (s.modLink q f).bank = s.bank := rfl
@[simp] theorem modLink_refreshMs (s : State) (q : Sender) (f : Link → Link) : (s.modLink q f).refreshMs = s.refreshMs := rfl
@[simp] theorem modLink_inReset (s : State) (q : Sender) (f : Link → Link) : (s.modLink q f).inReset = s.inReset := rfl
@[simp] theorem modLink_draws (s : State) (q : Sender) (f : Link → Link) : (s.modLink q f).draws = s.draws := rfl
@[simp] theorem modLink_orders (s : State) (q : Sender) (f : Link → Link) : (s.modLink q f).orders = s.orders := rfl
@[simp] theorem modLink_pending (s : State) (q : Sender) (f : Link → Link) : (s.modLink q f).pending = s.pending := rfl
@[simp] theorem modLink_dest (s : State) (q : Sender) (f : Link → Link) (x : DestId) : (s.modLink q f).dest x = s.dest x := rfl
@[simp] theorem modLink_gate (s : State) (q : Sender) (f : Link → Link) (x : GateId) : (s.modLink q f).gate x = s.gate x := rfl
@[simp] theorem modLink_receiver (s : State) (q : Sender) (f : Link → Link) (x : Port) : (s.modLink q f).receiver x = s.receiver x := rfl
@[simp] theorem modLink_noticeQueue (s : State) (q : Sender) (f : Link → Link) (x : Station) : (s.modLink q f).noticeQueue x = s.noticeQueue x := rfl
@[simp] theorem modLink_counter (s : State) (q : Sender) (f : Link → Link) (x : Counter) : (s.modLink q f).counter x = s.counter x := rfl
@[simp] theorem modLink_find (s : State) (q : Sender) (f : Link → Link) (x : EntryRef) : (s.modLink q f).find x = s.find x := rfl
@[simp] theorem modLink_confirmEye (s : State) (q : Sender) (f : Link → Link) (x : DestId) : (s.modLink q f).confirmEye x = s.confirmEye x := rfl
@[simp] theorem modLink_rackSensor (s : State) (q : Sender) (f : Link → Link) (x : DestId) : (s.modLink q f).rackSensor x = s.rackSensor x := rfl
@[simp] theorem modLink_switchExtended (s : State) (q : Sender) (f : Link → Link) (x : GateId) (y : Side) : (s.modLink q f).switchExtended x y = s.switchExtended x y := by cases y <;> rfl
@[simp] theorem modLink_isRunning (s : State) (q : Sender) (f : Link → Link) : (s.modLink q f).isRunning = s.isRunning := rfl
@[simp] theorem modLink_commissioned (s : State) (q : Sender) (f : Link → Link) : (s.modLink q f).commissioned = s.commissioned := rfl

@[simp] theorem modReceiver_belt (s : State) (p : Port) (f : Receiver → Receiver) : (s.modReceiver p f).belt = s.belt := rfl
@[simp] theorem modReceiver_pins (s : State) (p : Port) (f : Receiver → Receiver) : (s.modReceiver p f).pins = s.pins := rfl
@[simp] theorem modReceiver_reader (s : State) (p : Port) (f : Receiver → Receiver) : (s.modReceiver p f).reader = s.reader := rfl
@[simp] theorem modReceiver_matcher (s : State) (p : Port) (f : Receiver → Receiver) : (s.modReceiver p f).matcher = s.matcher := rfl
@[simp] theorem modReceiver_patterns (s : State) (p : Port) (f : Receiver → Receiver) : (s.modReceiver p f).patterns = s.patterns := rfl
@[simp] theorem modReceiver_map (s : State) (p : Port) (f : Receiver → Receiver) : (s.modReceiver p f).map = s.map := rfl
@[simp] theorem modReceiver_routes (s : State) (p : Port) (f : Receiver → Receiver) : (s.modReceiver p f).routes = s.routes := rfl
@[simp] theorem modReceiver_dests (s : State) (p : Port) (f : Receiver → Receiver) : (s.modReceiver p f).dests = s.dests := rfl
@[simp] theorem modReceiver_gates (s : State) (p : Port) (f : Receiver → Receiver) : (s.modReceiver p f).gates = s.gates := rfl
@[simp] theorem modReceiver_test (s : State) (p : Port) (f : Receiver → Receiver) : (s.modReceiver p f).test = s.test := rfl
@[simp] theorem modReceiver_links (s : State) (p : Port) (f : Receiver → Receiver) : (s.modReceiver p f).links = s.links := rfl
@[simp] theorem modReceiver_notices (s : State) (p : Port) (f : Receiver → Receiver) : (s.modReceiver p f).notices = s.notices := rfl
@[simp] theorem modReceiver_settings (s : State) (p : Port) (f : Receiver → Receiver) : (s.modReceiver p f).settings = s.settings := rfl
@[simp] theorem modReceiver_bank (s : State) (p : Port) (f : Receiver → Receiver) : (s.modReceiver p f).bank = s.bank := rfl
@[simp] theorem modReceiver_refreshMs (s : State) (p : Port) (f : Receiver → Receiver) : (s.modReceiver p f).refreshMs = s.refreshMs := rfl
@[simp] theorem modReceiver_inReset (s : State) (p : Port) (f : Receiver → Receiver) : (s.modReceiver p f).inReset = s.inReset := rfl
@[simp] theorem modReceiver_draws (s : State) (p : Port) (f : Receiver → Receiver) : (s.modReceiver p f).draws = s.draws := rfl
@[simp] theorem modReceiver_orders (s : State) (p : Port) (f : Receiver → Receiver) : (s.modReceiver p f).orders = s.orders := rfl
@[simp] theorem modReceiver_pending (s : State) (p : Port) (f : Receiver → Receiver) : (s.modReceiver p f).pending = s.pending := rfl
@[simp] theorem modReceiver_dest (s : State) (p : Port) (f : Receiver → Receiver) (x : DestId) : (s.modReceiver p f).dest x = s.dest x := rfl
@[simp] theorem modReceiver_gate (s : State) (p : Port) (f : Receiver → Receiver) (x : GateId) : (s.modReceiver p f).gate x = s.gate x := rfl
@[simp] theorem modReceiver_link (s : State) (p : Port) (f : Receiver → Receiver) (x : Sender) : (s.modReceiver p f).link x = s.link x := rfl
@[simp] theorem modReceiver_noticeQueue (s : State) (p : Port) (f : Receiver → Receiver) (x : Station) : (s.modReceiver p f).noticeQueue x = s.noticeQueue x := rfl
@[simp] theorem modReceiver_counter (s : State) (p : Port) (f : Receiver → Receiver) (x : Counter) : (s.modReceiver p f).counter x = s.counter x := rfl
@[simp] theorem modReceiver_find (s : State) (p : Port) (f : Receiver → Receiver) (x : EntryRef) : (s.modReceiver p f).find x = s.find x := rfl
@[simp] theorem modReceiver_confirmEye (s : State) (p : Port) (f : Receiver → Receiver) (x : DestId) : (s.modReceiver p f).confirmEye x = s.confirmEye x := rfl
@[simp] theorem modReceiver_rackSensor (s : State) (p : Port) (f : Receiver → Receiver) (x : DestId) : (s.modReceiver p f).rackSensor x = s.rackSensor x := rfl
@[simp] theorem modReceiver_switchExtended (s : State) (p : Port) (f : Receiver → Receiver) (x : GateId) (y : Side) : (s.modReceiver p f).switchExtended x y = s.switchExtended x y := by cases y <;> rfl
@[simp] theorem modReceiver_isRunning (s : State) (p : Port) (f : Receiver → Receiver) : (s.modReceiver p f).isRunning = s.isRunning := rfl
@[simp] theorem modReceiver_commissioned (s : State) (p : Port) (f : Receiver → Receiver) : (s.modReceiver p f).commissioned = s.commissioned := rfl

@[simp] theorem modNotices_belt (s : State) (st : Station) (f : NoticeQueue → NoticeQueue) : (s.modNotices st f).belt = s.belt := rfl
@[simp] theorem modNotices_pins (s : State) (st : Station) (f : NoticeQueue → NoticeQueue) : (s.modNotices st f).pins = s.pins := rfl
@[simp] theorem modNotices_reader (s : State) (st : Station) (f : NoticeQueue → NoticeQueue) : (s.modNotices st f).reader = s.reader := rfl
@[simp] theorem modNotices_matcher (s : State) (st : Station) (f : NoticeQueue → NoticeQueue) : (s.modNotices st f).matcher = s.matcher := rfl
@[simp] theorem modNotices_patterns (s : State) (st : Station) (f : NoticeQueue → NoticeQueue) : (s.modNotices st f).patterns = s.patterns := rfl
@[simp] theorem modNotices_map (s : State) (st : Station) (f : NoticeQueue → NoticeQueue) : (s.modNotices st f).map = s.map := rfl
@[simp] theorem modNotices_routes (s : State) (st : Station) (f : NoticeQueue → NoticeQueue) : (s.modNotices st f).routes = s.routes := rfl
@[simp] theorem modNotices_dests (s : State) (st : Station) (f : NoticeQueue → NoticeQueue) : (s.modNotices st f).dests = s.dests := rfl
@[simp] theorem modNotices_gates (s : State) (st : Station) (f : NoticeQueue → NoticeQueue) : (s.modNotices st f).gates = s.gates := rfl
@[simp] theorem modNotices_test (s : State) (st : Station) (f : NoticeQueue → NoticeQueue) : (s.modNotices st f).test = s.test := rfl
@[simp] theorem modNotices_receivers (s : State) (st : Station) (f : NoticeQueue → NoticeQueue) : (s.modNotices st f).receivers = s.receivers := rfl
@[simp] theorem modNotices_links (s : State) (st : Station) (f : NoticeQueue → NoticeQueue) : (s.modNotices st f).links = s.links := rfl
@[simp] theorem modNotices_settings (s : State) (st : Station) (f : NoticeQueue → NoticeQueue) : (s.modNotices st f).settings = s.settings := rfl
@[simp] theorem modNotices_bank (s : State) (st : Station) (f : NoticeQueue → NoticeQueue) : (s.modNotices st f).bank = s.bank := rfl
@[simp] theorem modNotices_refreshMs (s : State) (st : Station) (f : NoticeQueue → NoticeQueue) : (s.modNotices st f).refreshMs = s.refreshMs := rfl
@[simp] theorem modNotices_inReset (s : State) (st : Station) (f : NoticeQueue → NoticeQueue) : (s.modNotices st f).inReset = s.inReset := rfl
@[simp] theorem modNotices_draws (s : State) (st : Station) (f : NoticeQueue → NoticeQueue) : (s.modNotices st f).draws = s.draws := rfl
@[simp] theorem modNotices_orders (s : State) (st : Station) (f : NoticeQueue → NoticeQueue) : (s.modNotices st f).orders = s.orders := rfl
@[simp] theorem modNotices_pending (s : State) (st : Station) (f : NoticeQueue → NoticeQueue) : (s.modNotices st f).pending = s.pending := rfl
@[simp] theorem modNotices_dest (s : State) (st : Station) (f : NoticeQueue → NoticeQueue) (x : DestId) : (s.modNotices st f).dest x = s.dest x := rfl
@[simp] theorem modNotices_gate (s : State) (st : Station) (f : NoticeQueue → NoticeQueue) (x : GateId) : (s.modNotices st f).gate x = s.gate x := rfl
@[simp] theorem modNotices_link (s : State) (st : Station) (f : NoticeQueue → NoticeQueue) (x : Sender) : (s.modNotices st f).link x = s.link x := rfl
@[simp] theorem modNotices_receiver (s : State) (st : Station) (f : NoticeQueue → NoticeQueue) (x : Port) : (s.modNotices st f).receiver x = s.receiver x := rfl
@[simp] theorem modNotices_counter (s : State) (st : Station) (f : NoticeQueue → NoticeQueue) (x : Counter) : (s.modNotices st f).counter x = s.counter x := rfl
@[simp] theorem modNotices_find (s : State) (st : Station) (f : NoticeQueue → NoticeQueue) (x : EntryRef) : (s.modNotices st f).find x = s.find x := rfl
@[simp] theorem modNotices_confirmEye (s : State) (st : Station) (f : NoticeQueue → NoticeQueue) (x : DestId) : (s.modNotices st f).confirmEye x = s.confirmEye x := rfl
@[simp] theorem modNotices_rackSensor (s : State) (st : Station) (f : NoticeQueue → NoticeQueue) (x : DestId) : (s.modNotices st f).rackSensor x = s.rackSensor x := rfl
@[simp] theorem modNotices_switchExtended (s : State) (st : Station) (f : NoticeQueue → NoticeQueue) (x : GateId) (y : Side) : (s.modNotices st f).switchExtended x y = s.switchExtended x y := by cases y <;> rfl
@[simp] theorem modNotices_isRunning (s : State) (st : Station) (f : NoticeQueue → NoticeQueue) : (s.modNotices st f).isRunning = s.isRunning := rfl
@[simp] theorem modNotices_commissioned (s : State) (st : Station) (f : NoticeQueue → NoticeQueue) : (s.modNotices st f).commissioned = s.commissioned := rfl

@[simp] theorem modBelt_belt (s : State) (f : Belt → Belt) : (s.modBelt f).belt = f s.belt := rfl
@[simp] theorem modBelt_pins (s : State) (f : Belt → Belt) : (s.modBelt f).pins = s.pins := rfl
@[simp] theorem modBelt_reader (s : State) (f : Belt → Belt) : (s.modBelt f).reader = s.reader := rfl
@[simp] theorem modBelt_matcher (s : State) (f : Belt → Belt) : (s.modBelt f).matcher = s.matcher := rfl
@[simp] theorem modBelt_patterns (s : State) (f : Belt → Belt) : (s.modBelt f).patterns = s.patterns := rfl
@[simp] theorem modBelt_map (s : State) (f : Belt → Belt) : (s.modBelt f).map = s.map := rfl
@[simp] theorem modBelt_routes (s : State) (f : Belt → Belt) : (s.modBelt f).routes = s.routes := rfl
@[simp] theorem modBelt_dests (s : State) (f : Belt → Belt) : (s.modBelt f).dests = s.dests := rfl
@[simp] theorem modBelt_gates (s : State) (f : Belt → Belt) : (s.modBelt f).gates = s.gates := rfl
@[simp] theorem modBelt_test (s : State) (f : Belt → Belt) : (s.modBelt f).test = s.test := rfl
@[simp] theorem modBelt_receivers (s : State) (f : Belt → Belt) : (s.modBelt f).receivers = s.receivers := rfl
@[simp] theorem modBelt_links (s : State) (f : Belt → Belt) : (s.modBelt f).links = s.links := rfl
@[simp] theorem modBelt_notices (s : State) (f : Belt → Belt) : (s.modBelt f).notices = s.notices := rfl
@[simp] theorem modBelt_settings (s : State) (f : Belt → Belt) : (s.modBelt f).settings = s.settings := rfl
@[simp] theorem modBelt_bank (s : State) (f : Belt → Belt) : (s.modBelt f).bank = s.bank := rfl
@[simp] theorem modBelt_refreshMs (s : State) (f : Belt → Belt) : (s.modBelt f).refreshMs = s.refreshMs := rfl
@[simp] theorem modBelt_inReset (s : State) (f : Belt → Belt) : (s.modBelt f).inReset = s.inReset := rfl
@[simp] theorem modBelt_draws (s : State) (f : Belt → Belt) : (s.modBelt f).draws = s.draws := rfl
@[simp] theorem modBelt_orders (s : State) (f : Belt → Belt) : (s.modBelt f).orders = s.orders := rfl
@[simp] theorem modBelt_pending (s : State) (f : Belt → Belt) : (s.modBelt f).pending = s.pending := rfl
@[simp] theorem modBelt_dest (s : State) (f : Belt → Belt) (x : DestId) : (s.modBelt f).dest x = s.dest x := rfl
@[simp] theorem modBelt_gate (s : State) (f : Belt → Belt) (x : GateId) : (s.modBelt f).gate x = s.gate x := rfl
@[simp] theorem modBelt_link (s : State) (f : Belt → Belt) (x : Sender) : (s.modBelt f).link x = s.link x := rfl
@[simp] theorem modBelt_receiver (s : State) (f : Belt → Belt) (x : Port) : (s.modBelt f).receiver x = s.receiver x := rfl
@[simp] theorem modBelt_noticeQueue (s : State) (f : Belt → Belt) (x : Station) : (s.modBelt f).noticeQueue x = s.noticeQueue x := rfl
@[simp] theorem modBelt_counter (s : State) (f : Belt → Belt) (x : Counter) : (s.modBelt f).counter x = s.counter x := rfl
@[simp] theorem modBelt_find (s : State) (f : Belt → Belt) (x : EntryRef) : (s.modBelt f).find x = s.find x := rfl
@[simp] theorem modBelt_confirmEye (s : State) (f : Belt → Belt) (x : DestId) : (s.modBelt f).confirmEye x = s.confirmEye x := rfl
@[simp] theorem modBelt_rackSensor (s : State) (f : Belt → Belt) (x : DestId) : (s.modBelt f).rackSensor x = s.rackSensor x := rfl
@[simp] theorem modBelt_switchExtended (s : State) (f : Belt → Belt) (x : GateId) (y : Side) : (s.modBelt f).switchExtended x y = s.switchExtended x y := by cases y <;> rfl

@[simp] theorem modPins_belt (s : State) (f : Pins → Pins) : (s.modPins f).belt = s.belt := rfl
@[simp] theorem modPins_pins (s : State) (f : Pins → Pins) : (s.modPins f).pins = f s.pins := rfl
@[simp] theorem modPins_reader (s : State) (f : Pins → Pins) : (s.modPins f).reader = s.reader := rfl
@[simp] theorem modPins_matcher (s : State) (f : Pins → Pins) : (s.modPins f).matcher = s.matcher := rfl
@[simp] theorem modPins_patterns (s : State) (f : Pins → Pins) : (s.modPins f).patterns = s.patterns := rfl
@[simp] theorem modPins_map (s : State) (f : Pins → Pins) : (s.modPins f).map = s.map := rfl
@[simp] theorem modPins_routes (s : State) (f : Pins → Pins) : (s.modPins f).routes = s.routes := rfl
@[simp] theorem modPins_dests (s : State) (f : Pins → Pins) : (s.modPins f).dests = s.dests := rfl
@[simp] theorem modPins_gates (s : State) (f : Pins → Pins) : (s.modPins f).gates = s.gates := rfl
@[simp] theorem modPins_test (s : State) (f : Pins → Pins) : (s.modPins f).test = s.test := rfl
@[simp] theorem modPins_receivers (s : State) (f : Pins → Pins) : (s.modPins f).receivers = s.receivers := rfl
@[simp] theorem modPins_links (s : State) (f : Pins → Pins) : (s.modPins f).links = s.links := rfl
@[simp] theorem modPins_notices (s : State) (f : Pins → Pins) : (s.modPins f).notices = s.notices := rfl
@[simp] theorem modPins_settings (s : State) (f : Pins → Pins) : (s.modPins f).settings = s.settings := rfl
@[simp] theorem modPins_bank (s : State) (f : Pins → Pins) : (s.modPins f).bank = s.bank := rfl
@[simp] theorem modPins_refreshMs (s : State) (f : Pins → Pins) : (s.modPins f).refreshMs = s.refreshMs := rfl
@[simp] theorem modPins_inReset (s : State) (f : Pins → Pins) : (s.modPins f).inReset = s.inReset := rfl
@[simp] theorem modPins_draws (s : State) (f : Pins → Pins) : (s.modPins f).draws = s.draws := rfl
@[simp] theorem modPins_orders (s : State) (f : Pins → Pins) : (s.modPins f).orders = s.orders := rfl
@[simp] theorem modPins_pending (s : State) (f : Pins → Pins) : (s.modPins f).pending = s.pending := rfl
@[simp] theorem modPins_dest (s : State) (f : Pins → Pins) (x : DestId) : (s.modPins f).dest x = s.dest x := rfl
@[simp] theorem modPins_gate (s : State) (f : Pins → Pins) (x : GateId) : (s.modPins f).gate x = s.gate x := rfl
@[simp] theorem modPins_link (s : State) (f : Pins → Pins) (x : Sender) : (s.modPins f).link x = s.link x := rfl
@[simp] theorem modPins_receiver (s : State) (f : Pins → Pins) (x : Port) : (s.modPins f).receiver x = s.receiver x := rfl
@[simp] theorem modPins_noticeQueue (s : State) (f : Pins → Pins) (x : Station) : (s.modPins f).noticeQueue x = s.noticeQueue x := rfl
@[simp] theorem modPins_counter (s : State) (f : Pins → Pins) (x : Counter) : (s.modPins f).counter x = s.counter x := rfl
@[simp] theorem modPins_find (s : State) (f : Pins → Pins) (x : EntryRef) : (s.modPins f).find x = s.find x := rfl
@[simp] theorem modPins_isRunning (s : State) (f : Pins → Pins) : (s.modPins f).isRunning = s.isRunning := rfl
@[simp] theorem modPins_commissioned (s : State) (f : Pins → Pins) : (s.modPins f).commissioned = s.commissioned := rfl

@[simp] theorem modReader_belt (s : State) (f : ReadPoint → ReadPoint) : (s.modReader f).belt = s.belt := rfl
@[simp] theorem modReader_pins (s : State) (f : ReadPoint → ReadPoint) : (s.modReader f).pins = s.pins := rfl
@[simp] theorem modReader_reader (s : State) (f : ReadPoint → ReadPoint) : (s.modReader f).reader = f s.reader := rfl
@[simp] theorem modReader_matcher (s : State) (f : ReadPoint → ReadPoint) : (s.modReader f).matcher = s.matcher := rfl
@[simp] theorem modReader_patterns (s : State) (f : ReadPoint → ReadPoint) : (s.modReader f).patterns = s.patterns := rfl
@[simp] theorem modReader_map (s : State) (f : ReadPoint → ReadPoint) : (s.modReader f).map = s.map := rfl
@[simp] theorem modReader_routes (s : State) (f : ReadPoint → ReadPoint) : (s.modReader f).routes = s.routes := rfl
@[simp] theorem modReader_dests (s : State) (f : ReadPoint → ReadPoint) : (s.modReader f).dests = s.dests := rfl
@[simp] theorem modReader_gates (s : State) (f : ReadPoint → ReadPoint) : (s.modReader f).gates = s.gates := rfl
@[simp] theorem modReader_test (s : State) (f : ReadPoint → ReadPoint) : (s.modReader f).test = s.test := rfl
@[simp] theorem modReader_receivers (s : State) (f : ReadPoint → ReadPoint) : (s.modReader f).receivers = s.receivers := rfl
@[simp] theorem modReader_links (s : State) (f : ReadPoint → ReadPoint) : (s.modReader f).links = s.links := rfl
@[simp] theorem modReader_notices (s : State) (f : ReadPoint → ReadPoint) : (s.modReader f).notices = s.notices := rfl
@[simp] theorem modReader_settings (s : State) (f : ReadPoint → ReadPoint) : (s.modReader f).settings = s.settings := rfl
@[simp] theorem modReader_bank (s : State) (f : ReadPoint → ReadPoint) : (s.modReader f).bank = s.bank := rfl
@[simp] theorem modReader_refreshMs (s : State) (f : ReadPoint → ReadPoint) : (s.modReader f).refreshMs = s.refreshMs := rfl
@[simp] theorem modReader_inReset (s : State) (f : ReadPoint → ReadPoint) : (s.modReader f).inReset = s.inReset := rfl
@[simp] theorem modReader_draws (s : State) (f : ReadPoint → ReadPoint) : (s.modReader f).draws = s.draws := rfl
@[simp] theorem modReader_orders (s : State) (f : ReadPoint → ReadPoint) : (s.modReader f).orders = s.orders := rfl
@[simp] theorem modReader_pending (s : State) (f : ReadPoint → ReadPoint) : (s.modReader f).pending = s.pending := rfl
@[simp] theorem modReader_dest (s : State) (f : ReadPoint → ReadPoint) (x : DestId) : (s.modReader f).dest x = s.dest x := rfl
@[simp] theorem modReader_gate (s : State) (f : ReadPoint → ReadPoint) (x : GateId) : (s.modReader f).gate x = s.gate x := rfl
@[simp] theorem modReader_link (s : State) (f : ReadPoint → ReadPoint) (x : Sender) : (s.modReader f).link x = s.link x := rfl
@[simp] theorem modReader_receiver (s : State) (f : ReadPoint → ReadPoint) (x : Port) : (s.modReader f).receiver x = s.receiver x := rfl
@[simp] theorem modReader_noticeQueue (s : State) (f : ReadPoint → ReadPoint) (x : Station) : (s.modReader f).noticeQueue x = s.noticeQueue x := rfl
@[simp] theorem modReader_counter (s : State) (f : ReadPoint → ReadPoint) (x : Counter) : (s.modReader f).counter x = s.counter x := rfl
@[simp] theorem modReader_find (s : State) (f : ReadPoint → ReadPoint) (x : EntryRef) : (s.modReader f).find x = s.find x := rfl
@[simp] theorem modReader_confirmEye (s : State) (f : ReadPoint → ReadPoint) (x : DestId) : (s.modReader f).confirmEye x = s.confirmEye x := rfl
@[simp] theorem modReader_rackSensor (s : State) (f : ReadPoint → ReadPoint) (x : DestId) : (s.modReader f).rackSensor x = s.rackSensor x := rfl
@[simp] theorem modReader_switchExtended (s : State) (f : ReadPoint → ReadPoint) (x : GateId) (y : Side) : (s.modReader f).switchExtended x y = s.switchExtended x y := by cases y <;> rfl
@[simp] theorem modReader_isRunning (s : State) (f : ReadPoint → ReadPoint) : (s.modReader f).isRunning = s.isRunning := rfl
@[simp] theorem modReader_commissioned (s : State) (f : ReadPoint → ReadPoint) : (s.modReader f).commissioned = s.commissioned := rfl

@[simp] theorem withMap_belt (s : State) (m : List Entry) : (s.withMap m).belt = s.belt := rfl
@[simp] theorem withMap_pins (s : State) (m : List Entry) : (s.withMap m).pins = s.pins := rfl
@[simp] theorem withMap_reader (s : State) (m : List Entry) : (s.withMap m).reader = s.reader := rfl
@[simp] theorem withMap_matcher (s : State) (m : List Entry) : (s.withMap m).matcher = s.matcher := rfl
@[simp] theorem withMap_patterns (s : State) (m : List Entry) : (s.withMap m).patterns = s.patterns := rfl
@[simp] theorem withMap_map (s : State) (m : List Entry) : (s.withMap m).map = m := rfl
@[simp] theorem withMap_routes (s : State) (m : List Entry) : (s.withMap m).routes = s.routes := rfl
@[simp] theorem withMap_dests (s : State) (m : List Entry) : (s.withMap m).dests = s.dests := rfl
@[simp] theorem withMap_gates (s : State) (m : List Entry) : (s.withMap m).gates = s.gates := rfl
@[simp] theorem withMap_test (s : State) (m : List Entry) : (s.withMap m).test = s.test := rfl
@[simp] theorem withMap_receivers (s : State) (m : List Entry) : (s.withMap m).receivers = s.receivers := rfl
@[simp] theorem withMap_links (s : State) (m : List Entry) : (s.withMap m).links = s.links := rfl
@[simp] theorem withMap_notices (s : State) (m : List Entry) : (s.withMap m).notices = s.notices := rfl
@[simp] theorem withMap_settings (s : State) (m : List Entry) : (s.withMap m).settings = s.settings := rfl
@[simp] theorem withMap_bank (s : State) (m : List Entry) : (s.withMap m).bank = s.bank := rfl
@[simp] theorem withMap_refreshMs (s : State) (m : List Entry) : (s.withMap m).refreshMs = s.refreshMs := rfl
@[simp] theorem withMap_inReset (s : State) (m : List Entry) : (s.withMap m).inReset = s.inReset := rfl
@[simp] theorem withMap_draws (s : State) (m : List Entry) : (s.withMap m).draws = s.draws := rfl
@[simp] theorem withMap_orders (s : State) (m : List Entry) : (s.withMap m).orders = s.orders := rfl
@[simp] theorem withMap_pending (s : State) (m : List Entry) : (s.withMap m).pending = s.pending := rfl
@[simp] theorem withMap_dest (s : State) (m : List Entry) (x : DestId) : (s.withMap m).dest x = s.dest x := rfl
@[simp] theorem withMap_gate (s : State) (m : List Entry) (x : GateId) : (s.withMap m).gate x = s.gate x := rfl
@[simp] theorem withMap_link (s : State) (m : List Entry) (x : Sender) : (s.withMap m).link x = s.link x := rfl
@[simp] theorem withMap_receiver (s : State) (m : List Entry) (x : Port) : (s.withMap m).receiver x = s.receiver x := rfl
@[simp] theorem withMap_noticeQueue (s : State) (m : List Entry) (x : Station) : (s.withMap m).noticeQueue x = s.noticeQueue x := rfl
@[simp] theorem withMap_counter (s : State) (m : List Entry) (x : Counter) : (s.withMap m).counter x = s.counter x := rfl
@[simp] theorem withMap_confirmEye (s : State) (m : List Entry) (x : DestId) : (s.withMap m).confirmEye x = s.confirmEye x := rfl
@[simp] theorem withMap_rackSensor (s : State) (m : List Entry) (x : DestId) : (s.withMap m).rackSensor x = s.rackSensor x := rfl
@[simp] theorem withMap_switchExtended (s : State) (m : List Entry) (x : GateId) (y : Side) : (s.withMap m).switchExtended x y = s.switchExtended x y := by cases y <;> rfl
@[simp] theorem withMap_isRunning (s : State) (m : List Entry) : (s.withMap m).isRunning = s.isRunning := rfl
@[simp] theorem withMap_commissioned (s : State) (m : List Entry) : (s.withMap m).commissioned = s.commissioned := rfl

@[simp] theorem withPatterns_belt (s : State) (l : List PatternEntry) : (s.withPatterns l).belt = s.belt := rfl
@[simp] theorem withPatterns_pins (s : State) (l : List PatternEntry) : (s.withPatterns l).pins = s.pins := rfl
@[simp] theorem withPatterns_reader (s : State) (l : List PatternEntry) : (s.withPatterns l).reader = s.reader := rfl
@[simp] theorem withPatterns_matcher (s : State) (l : List PatternEntry) : (s.withPatterns l).matcher = s.matcher := rfl
@[simp] theorem withPatterns_patterns (s : State) (l : List PatternEntry) : (s.withPatterns l).patterns = l := rfl
@[simp] theorem withPatterns_map (s : State) (l : List PatternEntry) : (s.withPatterns l).map = s.map := rfl
@[simp] theorem withPatterns_routes (s : State) (l : List PatternEntry) : (s.withPatterns l).routes = s.routes := rfl
@[simp] theorem withPatterns_dests (s : State) (l : List PatternEntry) : (s.withPatterns l).dests = s.dests := rfl
@[simp] theorem withPatterns_gates (s : State) (l : List PatternEntry) : (s.withPatterns l).gates = s.gates := rfl
@[simp] theorem withPatterns_test (s : State) (l : List PatternEntry) : (s.withPatterns l).test = s.test := rfl
@[simp] theorem withPatterns_receivers (s : State) (l : List PatternEntry) : (s.withPatterns l).receivers = s.receivers := rfl
@[simp] theorem withPatterns_links (s : State) (l : List PatternEntry) : (s.withPatterns l).links = s.links := rfl
@[simp] theorem withPatterns_notices (s : State) (l : List PatternEntry) : (s.withPatterns l).notices = s.notices := rfl
@[simp] theorem withPatterns_settings (s : State) (l : List PatternEntry) : (s.withPatterns l).settings = s.settings := rfl
@[simp] theorem withPatterns_bank (s : State) (l : List PatternEntry) : (s.withPatterns l).bank = s.bank := rfl
@[simp] theorem withPatterns_refreshMs (s : State) (l : List PatternEntry) : (s.withPatterns l).refreshMs = s.refreshMs := rfl
@[simp] theorem withPatterns_inReset (s : State) (l : List PatternEntry) : (s.withPatterns l).inReset = s.inReset := rfl
@[simp] theorem withPatterns_draws (s : State) (l : List PatternEntry) : (s.withPatterns l).draws = s.draws := rfl
@[simp] theorem withPatterns_orders (s : State) (l : List PatternEntry) : (s.withPatterns l).orders = s.orders := rfl
@[simp] theorem withPatterns_pending (s : State) (l : List PatternEntry) : (s.withPatterns l).pending = s.pending := rfl
@[simp] theorem withPatterns_dest (s : State) (l : List PatternEntry) (x : DestId) : (s.withPatterns l).dest x = s.dest x := rfl
@[simp] theorem withPatterns_gate (s : State) (l : List PatternEntry) (x : GateId) : (s.withPatterns l).gate x = s.gate x := rfl
@[simp] theorem withPatterns_link (s : State) (l : List PatternEntry) (x : Sender) : (s.withPatterns l).link x = s.link x := rfl
@[simp] theorem withPatterns_receiver (s : State) (l : List PatternEntry) (x : Port) : (s.withPatterns l).receiver x = s.receiver x := rfl
@[simp] theorem withPatterns_noticeQueue (s : State) (l : List PatternEntry) (x : Station) : (s.withPatterns l).noticeQueue x = s.noticeQueue x := rfl
@[simp] theorem withPatterns_counter (s : State) (l : List PatternEntry) (x : Counter) : (s.withPatterns l).counter x = s.counter x := rfl
@[simp] theorem withPatterns_find (s : State) (l : List PatternEntry) (x : EntryRef) : (s.withPatterns l).find x = s.find x := rfl
@[simp] theorem withPatterns_confirmEye (s : State) (l : List PatternEntry) (x : DestId) : (s.withPatterns l).confirmEye x = s.confirmEye x := rfl
@[simp] theorem withPatterns_rackSensor (s : State) (l : List PatternEntry) (x : DestId) : (s.withPatterns l).rackSensor x = s.rackSensor x := rfl
@[simp] theorem withPatterns_switchExtended (s : State) (l : List PatternEntry) (x : GateId) (y : Side) : (s.withPatterns l).switchExtended x y = s.switchExtended x y := by cases y <;> rfl
@[simp] theorem withPatterns_isRunning (s : State) (l : List PatternEntry) : (s.withPatterns l).isRunning = s.isRunning := rfl
@[simp] theorem withPatterns_commissioned (s : State) (l : List PatternEntry) : (s.withPatterns l).commissioned = s.commissioned := rfl

@[simp] theorem modTest_belt (s : State) (f : TestRecord → TestRecord) : (s.modTest f).belt = s.belt := rfl
@[simp] theorem modTest_pins (s : State) (f : TestRecord → TestRecord) : (s.modTest f).pins = s.pins := rfl
@[simp] theorem modTest_reader (s : State) (f : TestRecord → TestRecord) : (s.modTest f).reader = s.reader := rfl
@[simp] theorem modTest_matcher (s : State) (f : TestRecord → TestRecord) : (s.modTest f).matcher = s.matcher := rfl
@[simp] theorem modTest_patterns (s : State) (f : TestRecord → TestRecord) : (s.modTest f).patterns = s.patterns := rfl
@[simp] theorem modTest_map (s : State) (f : TestRecord → TestRecord) : (s.modTest f).map = s.map := rfl
@[simp] theorem modTest_routes (s : State) (f : TestRecord → TestRecord) : (s.modTest f).routes = s.routes := rfl
@[simp] theorem modTest_dests (s : State) (f : TestRecord → TestRecord) : (s.modTest f).dests = s.dests := rfl
@[simp] theorem modTest_gates (s : State) (f : TestRecord → TestRecord) : (s.modTest f).gates = s.gates := rfl
@[simp] theorem modTest_test (s : State) (f : TestRecord → TestRecord) : (s.modTest f).test = f s.test := rfl
@[simp] theorem modTest_receivers (s : State) (f : TestRecord → TestRecord) : (s.modTest f).receivers = s.receivers := rfl
@[simp] theorem modTest_links (s : State) (f : TestRecord → TestRecord) : (s.modTest f).links = s.links := rfl
@[simp] theorem modTest_notices (s : State) (f : TestRecord → TestRecord) : (s.modTest f).notices = s.notices := rfl
@[simp] theorem modTest_settings (s : State) (f : TestRecord → TestRecord) : (s.modTest f).settings = s.settings := rfl
@[simp] theorem modTest_bank (s : State) (f : TestRecord → TestRecord) : (s.modTest f).bank = s.bank := rfl
@[simp] theorem modTest_refreshMs (s : State) (f : TestRecord → TestRecord) : (s.modTest f).refreshMs = s.refreshMs := rfl
@[simp] theorem modTest_inReset (s : State) (f : TestRecord → TestRecord) : (s.modTest f).inReset = s.inReset := rfl
@[simp] theorem modTest_draws (s : State) (f : TestRecord → TestRecord) : (s.modTest f).draws = s.draws := rfl
@[simp] theorem modTest_orders (s : State) (f : TestRecord → TestRecord) : (s.modTest f).orders = s.orders := rfl
@[simp] theorem modTest_pending (s : State) (f : TestRecord → TestRecord) : (s.modTest f).pending = s.pending := rfl
@[simp] theorem modTest_dest (s : State) (f : TestRecord → TestRecord) (x : DestId) : (s.modTest f).dest x = s.dest x := rfl
@[simp] theorem modTest_gate (s : State) (f : TestRecord → TestRecord) (x : GateId) : (s.modTest f).gate x = s.gate x := rfl
@[simp] theorem modTest_link (s : State) (f : TestRecord → TestRecord) (x : Sender) : (s.modTest f).link x = s.link x := rfl
@[simp] theorem modTest_receiver (s : State) (f : TestRecord → TestRecord) (x : Port) : (s.modTest f).receiver x = s.receiver x := rfl
@[simp] theorem modTest_noticeQueue (s : State) (f : TestRecord → TestRecord) (x : Station) : (s.modTest f).noticeQueue x = s.noticeQueue x := rfl
@[simp] theorem modTest_counter (s : State) (f : TestRecord → TestRecord) (x : Counter) : (s.modTest f).counter x = s.counter x := rfl
@[simp] theorem modTest_find (s : State) (f : TestRecord → TestRecord) (x : EntryRef) : (s.modTest f).find x = s.find x := rfl
@[simp] theorem modTest_confirmEye (s : State) (f : TestRecord → TestRecord) (x : DestId) : (s.modTest f).confirmEye x = s.confirmEye x := rfl
@[simp] theorem modTest_rackSensor (s : State) (f : TestRecord → TestRecord) (x : DestId) : (s.modTest f).rackSensor x = s.rackSensor x := rfl
@[simp] theorem modTest_switchExtended (s : State) (f : TestRecord → TestRecord) (x : GateId) (y : Side) : (s.modTest f).switchExtended x y = s.switchExtended x y := by cases y <;> rfl
@[simp] theorem modTest_isRunning (s : State) (f : TestRecord → TestRecord) : (s.modTest f).isRunning = s.isRunning := rfl
@[simp] theorem modTest_commissioned (s : State) (f : TestRecord → TestRecord) : (s.modTest f).commissioned = s.commissioned := rfl

@[simp] theorem modBank_belt (s : State) (f : Bank → Bank) : (s.modBank f).belt = s.belt := rfl
@[simp] theorem modBank_pins (s : State) (f : Bank → Bank) : (s.modBank f).pins = s.pins := rfl
@[simp] theorem modBank_reader (s : State) (f : Bank → Bank) : (s.modBank f).reader = s.reader := rfl
@[simp] theorem modBank_matcher (s : State) (f : Bank → Bank) : (s.modBank f).matcher = s.matcher := rfl
@[simp] theorem modBank_patterns (s : State) (f : Bank → Bank) : (s.modBank f).patterns = s.patterns := rfl
@[simp] theorem modBank_map (s : State) (f : Bank → Bank) : (s.modBank f).map = s.map := rfl
@[simp] theorem modBank_routes (s : State) (f : Bank → Bank) : (s.modBank f).routes = s.routes := rfl
@[simp] theorem modBank_dests (s : State) (f : Bank → Bank) : (s.modBank f).dests = s.dests := rfl
@[simp] theorem modBank_gates (s : State) (f : Bank → Bank) : (s.modBank f).gates = s.gates := rfl
@[simp] theorem modBank_test (s : State) (f : Bank → Bank) : (s.modBank f).test = s.test := rfl
@[simp] theorem modBank_receivers (s : State) (f : Bank → Bank) : (s.modBank f).receivers = s.receivers := rfl
@[simp] theorem modBank_links (s : State) (f : Bank → Bank) : (s.modBank f).links = s.links := rfl
@[simp] theorem modBank_notices (s : State) (f : Bank → Bank) : (s.modBank f).notices = s.notices := rfl
@[simp] theorem modBank_settings (s : State) (f : Bank → Bank) : (s.modBank f).settings = s.settings := rfl
@[simp] theorem modBank_bank (s : State) (f : Bank → Bank) : (s.modBank f).bank = f s.bank := rfl
@[simp] theorem modBank_refreshMs (s : State) (f : Bank → Bank) : (s.modBank f).refreshMs = s.refreshMs := rfl
@[simp] theorem modBank_inReset (s : State) (f : Bank → Bank) : (s.modBank f).inReset = s.inReset := rfl
@[simp] theorem modBank_draws (s : State) (f : Bank → Bank) : (s.modBank f).draws = s.draws := rfl
@[simp] theorem modBank_orders (s : State) (f : Bank → Bank) : (s.modBank f).orders = s.orders := rfl
@[simp] theorem modBank_pending (s : State) (f : Bank → Bank) : (s.modBank f).pending = s.pending := rfl
@[simp] theorem modBank_dest (s : State) (f : Bank → Bank) (x : DestId) : (s.modBank f).dest x = s.dest x := rfl
@[simp] theorem modBank_gate (s : State) (f : Bank → Bank) (x : GateId) : (s.modBank f).gate x = s.gate x := rfl
@[simp] theorem modBank_link (s : State) (f : Bank → Bank) (x : Sender) : (s.modBank f).link x = s.link x := rfl
@[simp] theorem modBank_receiver (s : State) (f : Bank → Bank) (x : Port) : (s.modBank f).receiver x = s.receiver x := rfl
@[simp] theorem modBank_noticeQueue (s : State) (f : Bank → Bank) (x : Station) : (s.modBank f).noticeQueue x = s.noticeQueue x := rfl
@[simp] theorem modBank_find (s : State) (f : Bank → Bank) (x : EntryRef) : (s.modBank f).find x = s.find x := rfl
@[simp] theorem modBank_confirmEye (s : State) (f : Bank → Bank) (x : DestId) : (s.modBank f).confirmEye x = s.confirmEye x := rfl
@[simp] theorem modBank_rackSensor (s : State) (f : Bank → Bank) (x : DestId) : (s.modBank f).rackSensor x = s.rackSensor x := rfl
@[simp] theorem modBank_switchExtended (s : State) (f : Bank → Bank) (x : GateId) (y : Side) : (s.modBank f).switchExtended x y = s.switchExtended x y := by cases y <;> rfl
@[simp] theorem modBank_isRunning (s : State) (f : Bank → Bank) : (s.modBank f).isRunning = s.isRunning := rfl
@[simp] theorem modBank_commissioned (s : State) (f : Bank → Bank) : (s.modBank f).commissioned = s.commissioned := rfl

@[simp] theorem drew_belt (s : State) (n : Nat) : (s.drew n).belt = s.belt := rfl
@[simp] theorem drew_pins (s : State) (n : Nat) : (s.drew n).pins = s.pins := rfl
@[simp] theorem drew_reader (s : State) (n : Nat) : (s.drew n).reader = s.reader := rfl
@[simp] theorem drew_matcher (s : State) (n : Nat) : (s.drew n).matcher = s.matcher := rfl
@[simp] theorem drew_patterns (s : State) (n : Nat) : (s.drew n).patterns = s.patterns := rfl
@[simp] theorem drew_map (s : State) (n : Nat) : (s.drew n).map = s.map := rfl
@[simp] theorem drew_routes (s : State) (n : Nat) : (s.drew n).routes = s.routes := rfl
@[simp] theorem drew_dests (s : State) (n : Nat) : (s.drew n).dests = s.dests := rfl
@[simp] theorem drew_gates (s : State) (n : Nat) : (s.drew n).gates = s.gates := rfl
@[simp] theorem drew_test (s : State) (n : Nat) : (s.drew n).test = s.test := rfl
@[simp] theorem drew_receivers (s : State) (n : Nat) : (s.drew n).receivers = s.receivers := rfl
@[simp] theorem drew_links (s : State) (n : Nat) : (s.drew n).links = s.links := rfl
@[simp] theorem drew_notices (s : State) (n : Nat) : (s.drew n).notices = s.notices := rfl
@[simp] theorem drew_settings (s : State) (n : Nat) : (s.drew n).settings = s.settings := rfl
@[simp] theorem drew_bank (s : State) (n : Nat) : (s.drew n).bank = s.bank := rfl
@[simp] theorem drew_refreshMs (s : State) (n : Nat) : (s.drew n).refreshMs = s.refreshMs := rfl
@[simp] theorem drew_inReset (s : State) (n : Nat) : (s.drew n).inReset = s.inReset := rfl
@[simp] theorem drew_draws (s : State) (n : Nat) : (s.drew n).draws = s.draws + n := rfl
@[simp] theorem drew_orders (s : State) (n : Nat) : (s.drew n).orders = s.orders := rfl
@[simp] theorem drew_pending (s : State) (n : Nat) : (s.drew n).pending = s.pending := rfl
@[simp] theorem drew_dest (s : State) (n : Nat) (x : DestId) : (s.drew n).dest x = s.dest x := rfl
@[simp] theorem drew_gate (s : State) (n : Nat) (x : GateId) : (s.drew n).gate x = s.gate x := rfl
@[simp] theorem drew_link (s : State) (n : Nat) (x : Sender) : (s.drew n).link x = s.link x := rfl
@[simp] theorem drew_receiver (s : State) (n : Nat) (x : Port) : (s.drew n).receiver x = s.receiver x := rfl
@[simp] theorem drew_noticeQueue (s : State) (n : Nat) (x : Station) : (s.drew n).noticeQueue x = s.noticeQueue x := rfl
@[simp] theorem drew_counter (s : State) (n : Nat) (x : Counter) : (s.drew n).counter x = s.counter x := rfl
@[simp] theorem drew_find (s : State) (n : Nat) (x : EntryRef) : (s.drew n).find x = s.find x := rfl
@[simp] theorem drew_confirmEye (s : State) (n : Nat) (x : DestId) : (s.drew n).confirmEye x = s.confirmEye x := rfl
@[simp] theorem drew_rackSensor (s : State) (n : Nat) (x : DestId) : (s.drew n).rackSensor x = s.rackSensor x := rfl
@[simp] theorem drew_switchExtended (s : State) (n : Nat) (x : GateId) (y : Side) : (s.drew n).switchExtended x y = s.switchExtended x y := by cases y <;> rfl
@[simp] theorem drew_isRunning (s : State) (n : Nat) : (s.drew n).isRunning = s.isRunning := rfl
@[simp] theorem drew_commissioned (s : State) (n : Nat) : (s.drew n).commissioned = s.commissioned := rfl

@[simp] theorem raise_belt (s : State) (c : Counter) : (s.raise c).belt = s.belt := rfl
@[simp] theorem raise_pins (s : State) (c : Counter) : (s.raise c).pins = s.pins := rfl
@[simp] theorem raise_reader (s : State) (c : Counter) : (s.raise c).reader = s.reader := rfl
@[simp] theorem raise_matcher (s : State) (c : Counter) : (s.raise c).matcher = s.matcher := rfl
@[simp] theorem raise_patterns (s : State) (c : Counter) : (s.raise c).patterns = s.patterns := rfl
@[simp] theorem raise_map (s : State) (c : Counter) : (s.raise c).map = s.map := rfl
@[simp] theorem raise_routes (s : State) (c : Counter) : (s.raise c).routes = s.routes := rfl
@[simp] theorem raise_dests (s : State) (c : Counter) : (s.raise c).dests = s.dests := rfl
@[simp] theorem raise_gates (s : State) (c : Counter) : (s.raise c).gates = s.gates := rfl
@[simp] theorem raise_test (s : State) (c : Counter) : (s.raise c).test = s.test := rfl
@[simp] theorem raise_receivers (s : State) (c : Counter) : (s.raise c).receivers = s.receivers := rfl
@[simp] theorem raise_links (s : State) (c : Counter) : (s.raise c).links = s.links := rfl
@[simp] theorem raise_notices (s : State) (c : Counter) : (s.raise c).notices = s.notices := rfl
@[simp] theorem raise_settings (s : State) (c : Counter) : (s.raise c).settings = s.settings := rfl
@[simp] theorem raise_refreshMs (s : State) (c : Counter) : (s.raise c).refreshMs = s.refreshMs := rfl
@[simp] theorem raise_inReset (s : State) (c : Counter) : (s.raise c).inReset = s.inReset := rfl
@[simp] theorem raise_draws (s : State) (c : Counter) : (s.raise c).draws = s.draws := rfl
@[simp] theorem raise_orders (s : State) (c : Counter) : (s.raise c).orders = s.orders := rfl
@[simp] theorem raise_pending (s : State) (c : Counter) : (s.raise c).pending = s.pending := rfl
@[simp] theorem raise_dest (s : State) (c : Counter) (x : DestId) : (s.raise c).dest x = s.dest x := rfl
@[simp] theorem raise_gate (s : State) (c : Counter) (x : GateId) : (s.raise c).gate x = s.gate x := rfl
@[simp] theorem raise_link (s : State) (c : Counter) (x : Sender) : (s.raise c).link x = s.link x := rfl
@[simp] theorem raise_receiver (s : State) (c : Counter) (x : Port) : (s.raise c).receiver x = s.receiver x := rfl
@[simp] theorem raise_noticeQueue (s : State) (c : Counter) (x : Station) : (s.raise c).noticeQueue x = s.noticeQueue x := rfl
@[simp] theorem raise_find (s : State) (c : Counter) (x : EntryRef) : (s.raise c).find x = s.find x := rfl
@[simp] theorem raise_confirmEye (s : State) (c : Counter) (x : DestId) : (s.raise c).confirmEye x = s.confirmEye x := rfl
@[simp] theorem raise_rackSensor (s : State) (c : Counter) (x : DestId) : (s.raise c).rackSensor x = s.rackSensor x := rfl
@[simp] theorem raise_switchExtended (s : State) (c : Counter) (x : GateId) (y : Side) : (s.raise c).switchExtended x y = s.switchExtended x y := by cases y <;> rfl
@[simp] theorem raise_isRunning (s : State) (c : Counter) : (s.raise c).isRunning = s.isRunning := rfl
@[simp] theorem raise_commissioned (s : State) (c : Counter) : (s.raise c).commissioned = s.commissioned := rfl

/-! ### Reads of the record that was changed, and of the others -/

@[simp] theorem modDest_dest_self (s : State) (d : DestId) (f : Dest → Dest) : (s.modDest d f).dest d = f (s.dest d) := by
  simp [State.modDest, State.dest]

theorem modDest_dest_ne (s : State) (d x : DestId) (f : Dest → Dest) (h : x ≠ d) : (s.modDest d f).dest x = s.dest x := by
  have : d.val ≠ x.val := fun e => h (Fin.ext e.symm)
  simp [State.modDest, State.dest, this]

theorem modDest_dest (s : State) (d x : DestId) (f : Dest → Dest) :
    (s.modDest d f).dest x = if x = d then f (s.dest d) else s.dest x := by
  split
  · next h => subst h; simp
  · next h => exact modDest_dest_ne s d x f h

@[simp] theorem modGate_gate_self (s : State) (g : GateId) (f : Gate → Gate) : (s.modGate g f).gate g = f (s.gate g) := by
  simp [State.modGate, State.gate]

theorem modGate_gate_ne (s : State) (g x : GateId) (f : Gate → Gate) (h : x ≠ g) : (s.modGate g f).gate x = s.gate x := by
  have : g.val ≠ x.val := fun e => h (Fin.ext e.symm)
  simp [State.modGate, State.gate, this]

theorem modGate_gate (s : State) (g x : GateId) (f : Gate → Gate) :
    (s.modGate g f).gate x = if x = g then f (s.gate g) else s.gate x := by
  split
  · next h => subst h; simp
  · next h => exact modGate_gate_ne s g x f h

/-- Two senders on one port are one sender. -/
theorem Sender.index_inj {a b : Sender} (h : Sender.index a = Sender.index b) : a = b := by
  cases a <;> cases b <;> simp_all [Sender.index, Fin.ext_iff] <;> omega

/-- Two ports of one number are one port. -/
theorem Port.index_inj {a b : Port} (h : Port.index a = Port.index b) : a = b := by
  cases a with
  | identifier =>
    cases b with
    | identifier => rfl
    | sender q => have := (Sender.index q).isLt; simp [Port.index, Fin.ext_iff] at h; omega
  | sender p =>
    cases b with
    | identifier => have := (Sender.index p).isLt; simp [Port.index, Fin.ext_iff] at h; omega
    | sender q =>
      have : Sender.index p = Sender.index q := by simpa [Port.index, Fin.ext_iff] using h
      rw [Sender.index_inj this]

@[simp] theorem modLink_link_self (s : State) (q : Sender) (f : Link → Link) : (s.modLink q f).link q = f (s.link q) := by
  simp [State.modLink, State.link]

theorem modLink_link_ne (s : State) (q x : Sender) (f : Link → Link) (h : x ≠ q) : (s.modLink q f).link x = s.link x := by
  have : (Sender.index q).val ≠ (Sender.index x).val := fun e => h (Sender.index_inj (Fin.ext e.symm))
  simp [State.modLink, State.link, this]

theorem modLink_link (s : State) (q x : Sender) (f : Link → Link) :
    (s.modLink q f).link x = if x = q then f (s.link q) else s.link x := by
  split
  · next h => subst h; simp
  · next h => exact modLink_link_ne s q x f h

@[simp] theorem modReceiver_receiver_self (s : State) (p : Port) (f : Receiver → Receiver) :
    (s.modReceiver p f).receiver p = f (s.receiver p) := by
  simp [State.modReceiver, State.receiver]

theorem modReceiver_receiver_ne (s : State) (p x : Port) (f : Receiver → Receiver) (h : x ≠ p) :
    (s.modReceiver p f).receiver x = s.receiver x := by
  have : (Port.index p).val ≠ (Port.index x).val := fun e => h (Port.index_inj (Fin.ext e.symm))
  simp [State.modReceiver, State.receiver, this]

@[simp] theorem modNotices_noticeQueue_self (s : State) (st : Station) (f : NoticeQueue → NoticeQueue) :
    (s.modNotices st f).noticeQueue st = f (s.noticeQueue st) := by
  simp [State.modNotices, State.noticeQueue]

theorem modNotices_noticeQueue_ne (s : State) (st x : Station) (f : NoticeQueue → NoticeQueue) (h : x ≠ st) :
    (s.modNotices st f).noticeQueue x = s.noticeQueue x := by
  have : st.val ≠ x.val := fun e => h (Fin.ext e.symm)
  simp [State.modNotices, State.noticeQueue, this]

/-! ### Tables -/

theorem mapTable_get {α : Type} {n : Nat} (f : α → α) (v : Vector α n) (i : Fin n) : (mapTable f v)[i] = f v[i] := by
  rcases v with ⟨⟨l⟩, h⟩
  simp [mapTable]

/-! ### One change after another -/

/-- What every member's change leaves alone, the changes one after another leave alone. -/
theorem forEach_keeps {α β : Type} (g : State → β) (f : α → State → State) (h : ∀ x s, g (f x s) = g s) (l : List α) :
    ∀ s, g (forEach l f s) = g s := by
  induction l with
  | nil => intro s; rfl
  | cons x xs ih => intro s; exact (ih (f x s)).trans (h x s)

/-- What every member's change keeps true, the changes one after another keep true. -/
theorem forEach_invariant {α : Type} (P : State → Prop) (f : α → State → State) (l : List α)
    (h : ∀ x ∈ l, ∀ s, P s → P (f x s)) : ∀ s, P s → P (forEach l f s) := by
  induction l with
  | nil => intro s hs; exact hs
  | cons x xs ih =>
    intro s hs
    exact ih (fun y hy => h y (List.mem_cons_of_mem x hy)) (f x s) (h x List.mem_cons_self s hs)

/-! ### Counters (R188) and names for changes of the map -/

@[simp] theorem raisePart_eq (s : State) (c : GlobalCounter) : s.raisePart c = s.raise (.ofPart c) := rfl

@[simp] theorem raiseGate_eq (s : State) (g : GateId) (c : GateCounter) : s.raiseGate g c = s.raise (.ofGate g c) := rfl

@[simp] theorem raiseDest_eq (s : State) (d : DestId) (c : DestCounter) : s.raiseDest d c = s.raise (.ofDest d c) := rfl

@[simp] theorem raisePort_eq (s : State) (p : Port) (c : PortCounter) : s.raisePort p c = s.raise (.ofPort p c) := rfl

@[simp] theorem modEntry_eq (s : State) (r : EntryRef) (f : Entry → Entry) :
    s.modEntry r f = s.withMap (updateEntry r f s.map) := rfl

@[simp] theorem dropEntry_eq (s : State) (r : EntryRef) : s.dropEntry r = s.withMap (eraseEntry r s.map) := rfl

@[simp] theorem raise_counter_self (s : State) (c : Counter) : (s.raise c).counter c = min (s.counter c + 1) 65535 := by
  simp [State.raise, State.counter]

theorem raise_counter_ne (s : State) (c x : Counter) (h : x.index ≠ c.index) : (s.raise c).counter x = s.counter x := by
  have : c.index.val ≠ x.index.val := fun e => h (Fin.ext e.symm)
  simp [State.raise, State.counter, this]

end Sys2Proof.Machine
end

