-- ==== Sys2Proof/Laws/Ops.lean ====
section
/-! SUPPORT. What the shared operations leave alone, one lemma for each operation, and what they do. -/

namespace Sys2Proof.Machine

/-! ### Routing leaves the rest of the part alone -/

/-- Everything but the map, the destinations, the gates, the notices, the counters, the test record and the free-value counter. -/
structure Kept where
  belt : Belt
  pins : Pins
  reader : ReadPoint
  matcher : Matcher
  patterns : List PatternEntry
  routes : Routes
  receivers : Vector Receiver 8
  links : Vector Link 7
  settings : Settings
  refreshMs : Nat
  inReset : Bool
  orders : Nat
  pending : List Instr

/-- That part of a state. -/
def State.kept (s : State) : Kept :=
  ⟨s.belt, s.pins, s.reader, s.matcher, s.patterns, s.routes, s.receivers, s.links, s.settings, s.refreshMs,
    s.inReset, s.orders, s.pending⟩

@[simp] theorem modDest_kept (s : State) (d : DestId) (f : Dest → Dest) : (s.modDest d f).kept = s.kept := rfl

@[simp] theorem modGate_kept (s : State) (g : GateId) (f : Gate → Gate) : (s.modGate g f).kept = s.kept := rfl

@[simp] theorem modNotices_kept (s : State) (st : Station) (f : NoticeQueue → NoticeQueue) :
    (s.modNotices st f).kept = s.kept := rfl

@[simp] theorem withMap_kept (s : State) (m : List Entry) : (s.withMap m).kept = s.kept := rfl

@[simp] theorem modTest_kept (s : State) (f : TestRecord → TestRecord) : (s.modTest f).kept = s.kept := rfl

@[simp] theorem modBank_kept (s : State) (f : Bank → Bank) : (s.modBank f).kept = s.kept := rfl

@[simp] theorem drew_kept (s : State) (n : Nat) : (s.drew n).kept = s.kept := rfl

@[simp] theorem raise_kept (s : State) (c : Counter) : (s.raise c).kept = s.kept := rfl

@[simp] theorem syncConditions_kept (s : State) : (syncConditions s).kept = s.kept := by
  simp [syncConditions]

@[simp] theorem latchTestDone_kept (s : State) : (latchTestDone s).kept = s.kept := by
  simp [latchTestDone]

@[simp] theorem offerDest_kept (d : DestId) (s : State) : (offerDest d s).kept = s.kept := by
  unfold offerDest; split <;> [split; skip; skip] <;> rfl

@[simp] theorem offerLastDest_kept (d : DestId) (o : Option Sender) (s : State) :
    (offerLastDest d o s).kept = s.kept := by
  unfold offerLastDest; split <;> [split; skip; skip] <;> rfl

@[simp] theorem offerNotice_kept (st : Station) (n : Notice) (s : State) : (offerNotice st n s).kept = s.kept := by
  unfold offerNotice; split <;> [split; skip] <;> rfl

@[simp] theorem changeDest_kept (d : DestId) (f : Dest → Dest) (s : State) : (changeDest d f s).kept = s.kept := by
  unfold changeDest; dsimp only; split <;> simp

@[simp] theorem unreserve_kept (d : DestId) (s : State) : (unreserve d s).kept = s.kept := by
  unfold unreserve; dsimp only; split <;> simp

@[simp] theorem completeRelease_kept (d : DestId) (s : State) : (completeRelease d s).kept = s.kept := by
  simp [completeRelease]

@[simp] theorem leaveQueue_kept (g : GateId) (r : EntryRef) (s : State) : (leaveQueue g r s).kept = s.kept := rfl

@[simp] theorem endToken_kept (t : TestResult) (s : State) : (endToken t s).kept = s.kept := by
  unfold endToken; split
  · rfl
  · dsimp only; split <;> simp

@[simp] theorem assign_kept (r : EntryRef) (d : DestId) (s : State) : (assign r d s).kept = s.kept := rfl

@[simp] theorem assignTail_kept (r : EntryRef) (s : State) : (assignTail r s).kept = s.kept := rfl

@[simp] theorem decideRoute_kept (r : EntryRef) (o : Option DestId) (s : State) :
    (decideRoute r o s).kept = s.kept := by
  unfold decideRoute; split
  · rfl
  · split <;> simp

@[simp] theorem giveBack_kept (r : EntryRef) (d : DestId) (s : State) : (giveBack r d s).kept = s.kept := by
  simp [giveBack]

@[simp] theorem withdraw_kept (r : EntryRef) (d : DestId) (s : State) : (withdraw r d s).kept = s.kept := rfl

@[simp] theorem countReroute_kept (r : EntryRef) (s : State) : (countReroute r s).kept = s.kept := rfl

@[simp] theorem reroute_kept (d : DestId) (r : EntryRef) (s : State) : (reroute d r s).kept = s.kept := by
  unfold reroute; split
  · rfl
  · split
    · split <;> simp
    · rfl

@[simp] theorem cascade_kept (ds : List DestId) (s : State) : (cascade ds s).kept = s.kept :=
  forEach_keeps State.kept _ (fun _ _ => reroute_kept _ _ _) _ s

@[simp] theorem gainHold_kept (f : Holds → Holds) (d : DestId) (s : State) : (gainHold f d s).kept = s.kept := by
  simp [gainHold]

@[simp] theorem gainRerouting_kept (c : Holds → Bool) (f : Holds → Holds) (ds : List DestId) (s : State) :
    (gainRerouting c f ds s).kept = s.kept := by
  simp only [gainRerouting, cascade_kept, syncConditions_kept]
  exact forEach_keeps State.kept _ (fun _ _ => gainHold_kept _ _ _) _ s

@[simp] theorem offerArrival_kept (d : DestId) (a : Awaiting) (c : Bool) (s : State) :
    (offerArrival d a c s).kept = s.kept := by
  unfold offerArrival; split <;> simp

@[simp] theorem settleEmptied_kept (d : DestId) (s : State) : (settleEmptied d s).kept = s.kept := by
  unfold settleEmptied; split <;> simp

@[simp] theorem countMiss_kept (d : DestId) (s : State) : (countMiss d s).kept = s.kept := by
  unfold countMiss; dsimp only; split <;> simp

@[simp] theorem miss_kept (d : DestId) (n : Nat) (s : State) : (miss d n s).kept = s.kept := by
  unfold miss; split <;> simp

@[simp] theorem sighting_kept (d : DestId) (s : State) : (sighting d s).kept = s.kept := by
  unfold sighting; split <;> simp

@[simp] theorem joinAwaiting_kept (d : DestId) (a : Awaiting) (s : State) : (joinAwaiting d a s).kept = s.kept := by
  unfold joinAwaiting; dsimp only; split <;> simp

@[simp] theorem recordFault_kept (g : GateId) (c : FaultCause) (o : Option Side) (s : State) :
    (recordFault g c o s).kept = s.kept := rfl

@[simp] theorem gateOut_kept (g : GateId) (s : State) : (gateOut g s).kept = s.kept := by
  unfold gateOut; dsimp only; split <;> simp

@[simp] theorem handFault_kept (g : GateId) (s : State) : (handFault g s).kept = s.kept := by
  unfold handFault; split <;> simp

@[simp] theorem uncommanded_kept (g : GateId) (sd : Side) (s : State) : (uncommanded g sd s).kept = s.kept := by
  simp [uncommanded]

@[simp] theorem beginWatch_kept (g : GateId) (s : State) : (beginWatch g s).kept = s.kept := by
  unfold beginWatch; split
  · split <;> simp
  · rfl

@[simp] theorem joinQueue_kept (r : EntryRef) (g : GateId) (f : Pos) (l : Bool) (s : State) :
    (joinQueue r g f l s).kept = s.kept := by
  unfold joinQueue; dsimp only; split <;> simp

@[simp] theorem refuseArming_kept (r : EntryRef) (d : DestId) (s : State) : (refuseArming r d s).kept = s.kept := by
  unfold refuseArming; dsimp only; split <;> simp

@[simp] theorem armEntry_kept (r : EntryRef) (e : Entry) (d : DestId) (n : Nat) (s : State) :
    (armEntry r e d n s).kept = s.kept := by
  unfold armEntry; dsimp only; split <;> simp

@[simp] theorem startCheck_kept (g : GateId) (sd : Side) (b : Bool) (s : State) :
    (startCheck g sd b s).kept = s.kept := by
  unfold startCheck; split
  · split <;> simp
  · simp

@[simp] theorem countFire_kept (g : GateId) (l : Bool) (s : State) : (countFire g l s).kept = s.kept := by
  unfold countFire; dsimp only; split <;> simp

@[simp] theorem fire_kept (g : GateId) (e : Entry) (d : DestId) (f : Pos) (s : State) :
    (fire g e d f s).kept = s.kept := by
  unfold fire; dsimp only; split <;> simp

@[simp] theorem missedFire_kept (g : GateId) (r : EntryRef) (d : DestId) (s : State) :
    (missedFire g r d s).kept = s.kept := by
  unfold missedFire; dsimp only; split <;> simp

@[simp] theorem checkSeen_kept (g : GateId) (side : Side) (s : State) : (checkSeen g side s).kept = s.kept := by
  unfold checkSeen; dsimp only; split <;> simp

@[simp] theorem strayExtension_kept (g : GateId) (sd : Side) (s : State) : (strayExtension g sd s).kept = s.kept := by
  unfold strayExtension; split <;> split <;> simp

@[simp] theorem switchGoesExtended_kept (g : GateId) (sd : Side) (s : State) :
    (switchGoesExtended g sd s).kept = s.kept := by
  unfold switchGoesExtended; split <;> simp

@[simp] theorem checkFails_kept (g : GateId) (c : ActuatorCheck) (s : State) : (checkFails g c s).kept = s.kept := by
  unfold checkFails; dsimp only; split <;> simp

@[simp] theorem beginRelease_kept (d : DestId) (s : State) : (beginRelease d s).kept = s.kept := by
  unfold beginRelease; dsimp only; split <;> simp

@[simp] theorem applyRack_kept (d : DestId) (o : RackOutcome) (s : State) : (applyRack d o s).kept = s.kept := by
  cases o <;> simp [applyRack, gainFull]

end Sys2Proof.Machine
end

