-- ==== Sys2Proof/Laws/Settle.lean ====
section
/-! SUPPORT. How an event ends: what settling leaves alone, what it does to the conditions, the idle timer and the transmitters, and that no event touches the queue. -/

namespace Sys2Proof.Machine

/-! ### Transmitters (R164) -/

/-- Everything but the links and the notices. -/
structure Unsent where
  belt : Belt
  pins : Pins
  reader : ReadPoint
  matcher : Matcher
  patterns : List PatternEntry
  map : List Entry
  routes : Routes
  dests : Vector Dest 24
  gates : Vector Gate 12
  test : TestRecord
  receivers : Vector Receiver 8
  settings : Settings
  bank : Bank
  refreshMs : Nat
  inReset : Bool
  draws : Nat
  orders : Nat
  pending : List Instr

/-- That part of a state. -/
def State.unsent (s : State) : Unsent :=
  ⟨s.belt, s.pins, s.reader, s.matcher, s.patterns, s.map, s.routes, s.dests, s.gates, s.test, s.receivers,
    s.settings, s.bank, s.refreshMs, s.inReset, s.draws, s.orders, s.pending⟩

theorem takeNotice_unsent (st : Station) (s : State) : (takeNotice st s).unsent = s.unsent := by
  unfold takeNotice; split
  · dsimp only; split <;> rfl
  · rfl

theorem fillTransmitter_unsent (q : Sender) (s : State) : (fillTransmitter q s).unsent = s.unsent := by
  unfold fillTransmitter; split
  · rfl
  · split
    · rfl
    · split
      · exact takeNotice_unsent _ _
      · rfl

/-- Settling fills the transmitters of a state whose conditions and idle timer are followed, and leaves the rest of it alone. -/
theorem settle_unsent (s : State) : (settle s).unsent = (settleIdle (syncConditions s)).unsent :=
  forEach_keeps State.unsent _ fillTransmitter_unsent _ _

/-- A link's state machine, apart from what it sends. -/
def Link.training (k : Link) : LinkState × Nat × Nat := (k.state, k.hellos, k.silenceMs)

theorem sendFrame_training (f : Frame) (k : Link) : (sendFrame f k).training = k.training := rfl

theorem modLink_training (q x : Sender) (f : Link → Link) (h : ∀ k, (f k).training = k.training) (s : State) :
    ((s.modLink q f).link x).training = (s.link x).training := by
  rw [modLink_link]; split
  · next e => subst e; exact h _
  · rfl

theorem takeNotice_training (st : Station) (x : Sender) (s : State) :
    ((takeNotice st s).link x).training = (s.link x).training := by
  unfold takeNotice; split
  · dsimp only
    split
    · simp only [modNotices_link]; exact modLink_training _ _ _ (sendFrame_training _) s
    · simp only [modNotices_link]; exact modLink_training _ _ _ (sendFrame_training _) s
    · rfl
  · rfl

theorem fillTransmitter_training (x q : Sender) (s : State) :
    ((fillTransmitter q s).link x).training = (s.link x).training := by
  unfold fillTransmitter; split
  · rfl
  · split
    · exact modLink_training _ _ (fun k => sendFrame _ { k with replies := _ }) (fun _ => rfl) s
    · split
      · exact takeNotice_training _ _ _
      · rfl

/-- No transmitter moves a link's state machine. -/
theorem settle_training (x : Sender) (s : State) : ((settle s).link x).training = (s.link x).training := by
  have h := forEach_keeps (fun s => (s.link x).training) _ (fillTransmitter_training x) allSenders
    (settleIdle (syncConditions s))
  refine h.trans ?_
  unfold settleIdle; split <;> simp [syncConditions]

@[simp] theorem settle_link_state (x : Sender) (s : State) : ((settle s).link x).state = (s.link x).state := by
  have h := settle_training x s
  simp only [Link.training, Prod.mk.injEq] at h
  exact h.1

@[simp] theorem settle_link_hellos (x : Sender) (s : State) : ((settle s).link x).hellos = (s.link x).hellos := by
  have h := settle_training x s
  simp only [Link.training, Prod.mk.injEq] at h
  exact h.2.1

@[simp] theorem settle_link_silenceMs (x : Sender) (s : State) :
    ((settle s).link x).silenceMs = (s.link x).silenceMs := by
  have h := settle_training x s
  simp only [Link.training, Prod.mk.injEq] at h
  exact h.2.2

/-! ### The fields settling leaves alone -/

/-- Everything but the belt, the bank, the links and the notices. -/
theorem settle_keeps {α : Type} (g : Unsent → α)
    (hb : ∀ (u : Unsent) (b : Belt), g { u with belt := b } = g u)
    (hk : ∀ (u : Unsent) (b : Bank), g { u with bank := b } = g u) (s : State) : g (settle s).unsent = g s.unsent := by
  rw [settle_unsent]
  have h1 : g (settleIdle (syncConditions s)).unsent = g (syncConditions s).unsent := by
    unfold settleIdle; split
    · exact hb (syncConditions s).unsent _
    · rfl
  exact h1.trans (hk s.unsent _)

@[simp] theorem settle_pins (s : State) : (settle s).pins = s.pins := by
  have h := settle_keeps Unsent.pins (fun _ _ => rfl) (fun _ _ => rfl) s
  simpa only [State.unsent] using h

@[simp] theorem settle_reader (s : State) : (settle s).reader = s.reader := by
  have h := settle_keeps Unsent.reader (fun _ _ => rfl) (fun _ _ => rfl) s
  simpa only [State.unsent] using h

@[simp] theorem settle_matcher (s : State) : (settle s).matcher = s.matcher := by
  have h := settle_keeps Unsent.matcher (fun _ _ => rfl) (fun _ _ => rfl) s
  simpa only [State.unsent] using h

@[simp] theorem settle_patterns (s : State) : (settle s).patterns = s.patterns := by
  have h := settle_keeps Unsent.patterns (fun _ _ => rfl) (fun _ _ => rfl) s
  simpa only [State.unsent] using h

@[simp] theorem settle_map (s : State) : (settle s).map = s.map := by
  have h := settle_keeps Unsent.map (fun _ _ => rfl) (fun _ _ => rfl) s
  simpa only [State.unsent] using h

@[simp] theorem settle_routes (s : State) : (settle s).routes = s.routes := by
  have h := settle_keeps Unsent.routes (fun _ _ => rfl) (fun _ _ => rfl) s
  simpa only [State.unsent] using h

@[simp] theorem settle_dests (s : State) : (settle s).dests = s.dests := by
  have h := settle_keeps Unsent.dests (fun _ _ => rfl) (fun _ _ => rfl) s
  simpa only [State.unsent] using h

@[simp] theorem settle_gates (s : State) : (settle s).gates = s.gates := by
  have h := settle_keeps Unsent.gates (fun _ _ => rfl) (fun _ _ => rfl) s
  simpa only [State.unsent] using h

@[simp] theorem settle_test (s : State) : (settle s).test = s.test := by
  have h := settle_keeps Unsent.test (fun _ _ => rfl) (fun _ _ => rfl) s
  simpa only [State.unsent] using h

@[simp] theorem settle_receivers (s : State) : (settle s).receivers = s.receivers := by
  have h := settle_keeps Unsent.receivers (fun _ _ => rfl) (fun _ _ => rfl) s
  simpa only [State.unsent] using h

@[simp] theorem settle_settings (s : State) : (settle s).settings = s.settings := by
  have h := settle_keeps Unsent.settings (fun _ _ => rfl) (fun _ _ => rfl) s
  simpa only [State.unsent] using h

@[simp] theorem settle_refreshMs (s : State) : (settle s).refreshMs = s.refreshMs := by
  have h := settle_keeps Unsent.refreshMs (fun _ _ => rfl) (fun _ _ => rfl) s
  simpa only [State.unsent] using h

@[simp] theorem settle_inReset (s : State) : (settle s).inReset = s.inReset := by
  have h := settle_keeps Unsent.inReset (fun _ _ => rfl) (fun _ _ => rfl) s
  simpa only [State.unsent] using h

@[simp] theorem settle_draws (s : State) : (settle s).draws = s.draws := by
  have h := settle_keeps Unsent.draws (fun _ _ => rfl) (fun _ _ => rfl) s
  simpa only [State.unsent] using h

@[simp] theorem settle_orders (s : State) : (settle s).orders = s.orders := by
  have h := settle_keeps Unsent.orders (fun _ _ => rfl) (fun _ _ => rfl) s
  simpa only [State.unsent] using h

@[simp] theorem settle_pending (s : State) : (settle s).pending = s.pending := by
  have h := settle_keeps Unsent.pending (fun _ _ => rfl) (fun _ _ => rfl) s
  simpa only [State.unsent] using h

@[simp] theorem settle_dest (s : State) (d : DestId) : (settle s).dest d = s.dest d := by
  simp only [State.dest, settle_dests]

@[simp] theorem settle_gate (s : State) (g : GateId) : (settle s).gate g = s.gate g := by
  simp only [State.gate, settle_gates]

@[simp] theorem settle_receiver (s : State) (p : Port) : (settle s).receiver p = s.receiver p := by
  simp only [State.receiver, settle_receivers]

@[simp] theorem settle_find (s : State) (r : EntryRef) : (settle s).find r = s.find r := by
  simp only [State.find, settle_map]

@[simp] theorem settle_confirmEye (s : State) (d : DestId) : (settle s).confirmEye d = s.confirmEye d := by
  simp only [State.confirmEye, settle_pins]

@[simp] theorem settle_rackSensor (s : State) (d : DestId) : (settle s).rackSensor d = s.rackSensor d := by
  simp only [State.rackSensor, settle_pins]

/-! ### The belt, the bank and what a port owes -/

/-- Settling moves nothing of the belt but the idle timer (R9). -/
theorem settle_belt (s : State) : (settle s).belt = (settleIdle s).belt := by
  have h : (settle s).belt = (settleIdle (syncConditions s)).belt := by
    simpa only [State.unsent] using congrArg Unsent.belt (settle_unsent s)
  rw [h]
  by_cases hc : (!s.map.isEmpty || s.pins.readEye || s.pins.infeedEye) = true <;>
    simp [settleIdle, syncConditions, hc]

@[simp] theorem settle_belt_still (s : State) : (settle s).belt.still = s.belt.still := by
  rw [settle_belt]; unfold settleIdle; split <;> rfl

/-- Settling the idle timer moves nothing but the idle timer (R9): the state apart from the belt is as it was. -/
theorem settleIdle_eq (s : State) : ∃ b : Belt, settleIdle s = { s with belt := b } ∧ b.still = s.belt.still := by
  unfold settleIdle; split
  · exact ⟨{ s.belt with idleMs := 0 }, rfl, rfl⟩
  · exact ⟨s.belt, rfl, rfl⟩

/-- What two belts share apart from the idle timer. -/
theorem belt_of_still {α : Type} (g : Belt → α) (h : ∀ b : Belt, g b.still = g b) {a b : Belt}
    (e : a.still = b.still) : g a = g b := by
  rw [← h a, ← h b, e]

/-- No condition level reads the idle timer. -/
theorem condLevels_idle (s : State) (b : Belt) (h : b.still = s.belt.still) : condLevels { s with belt := b } = condLevels s := by
  have hc : b.causes = s.belt.causes := belt_of_still Belt.causes (fun _ => rfl) h
  have hs : b.state = s.belt.state := belt_of_still Belt.state (fun _ => rfl) h
  have ht : b.tailFull = s.belt.tailFull := belt_of_still Belt.tailFull (fun _ => rfl) h
  have ho : b.overspeed = s.belt.overspeed := belt_of_still Belt.overspeed (fun _ => rfl) h
  simp only [condLevels, levelHalted, hc, hs, ht, ho]
  rfl

/-- The conditions of the idle timer, as one test. -/
theorem settleIdle_of (s : State) (h : (!s.map.isEmpty || s.pins.readEye || s.pins.infeedEye) = true) :
    settleIdle s = { s with belt := s.belt.still } := if_pos h

/-- The idle timer settled behind the last good frame of an event is settled again as the event ends, with no effect of its own. -/
@[simp] theorem settle_settleIdle (s : State) : settle (settleIdle s) = settle s := by
  by_cases h : (!s.map.isEmpty || s.pins.readEye || s.pins.infeedEye) = true
  · have hs : syncConditions { s with belt := s.belt.still } = { syncConditions s with belt := s.belt.still } := by
      unfold syncConditions; rw [condLevels_idle s _ rfl]; rfl
    obtain ⟨k, hk⟩ : ∃ k : Bank, syncConditions s = { s with bank := k } := ⟨_, rfl⟩
    have h1 : settleIdle { s with bank := k } = { s with bank := k, belt := s.belt.still } := if_pos h
    have h2 : settleIdle { s with bank := k, belt := s.belt.still } = { s with bank := k, belt := s.belt.still } := if_pos h
    unfold settle
    rw [settleIdle_of s h, hs, hk, h1, h2]
  · rw [show settleIdle s = s from if_neg h]

@[simp] theorem settle_p (s : State) : (settle s).belt.p = s.belt.p :=
  belt_of_still Belt.p (fun _ => rfl) (settle_belt_still s)

@[simp] theorem settle_v (s : State) : (settle s).belt.v = s.belt.v :=
  belt_of_still Belt.v (fun _ => rfl) (settle_belt_still s)

@[simp] theorem settle_windowCount (s : State) : (settle s).belt.windowCount = s.belt.windowCount :=
  belt_of_still Belt.windowCount (fun _ => rfl) (settle_belt_still s)

@[simp] theorem settle_overspeed (s : State) : (settle s).belt.overspeed = s.belt.overspeed :=
  belt_of_still Belt.overspeed (fun _ => rfl) (settle_belt_still s)

@[simp] theorem settle_cleanWindows (s : State) : (settle s).belt.cleanWindows = s.belt.cleanWindows :=
  belt_of_still Belt.cleanWindows (fun _ => rfl) (settle_belt_still s)

@[simp] theorem settle_state (s : State) : (settle s).belt.state = s.belt.state :=
  belt_of_still Belt.state (fun _ => rfl) (settle_belt_still s)

@[simp] theorem settle_causes (s : State) : (settle s).belt.causes = s.belt.causes :=
  belt_of_still Belt.causes (fun _ => rfl) (settle_belt_still s)

@[simp] theorem settle_tailFull (s : State) : (settle s).belt.tailFull = s.belt.tailFull :=
  belt_of_still Belt.tailFull (fun _ => rfl) (settle_belt_still s)

@[simp] theorem settle_zeroWindows (s : State) : (settle s).belt.zeroWindows = s.belt.zeroWindows :=
  belt_of_still Belt.zeroWindows (fun _ => rfl) (settle_belt_still s)

@[simp] theorem settle_runGuard (s : State) : (settle s).belt.runGuard = s.belt.runGuard :=
  belt_of_still Belt.runGuard (fun _ => rfl) (settle_belt_still s)

@[simp] theorem settle_motor (s : State) : (settle s).belt.motor = s.belt.motor :=
  belt_of_still Belt.motor (fun _ => rfl) (settle_belt_still s)

@[simp] theorem settle_windowMs (s : State) : (settle s).belt.windowMs = s.belt.windowMs :=
  belt_of_still Belt.windowMs (fun _ => rfl) (settle_belt_still s)

@[simp] theorem settle_infeedMs (s : State) : (settle s).belt.infeedMs = s.belt.infeedMs :=
  belt_of_still Belt.infeedMs (fun _ => rfl) (settle_belt_still s)

@[simp] theorem settle_tailMs (s : State) : (settle s).belt.tailMs = s.belt.tailMs :=
  belt_of_still Belt.tailMs (fun _ => rfl) (settle_belt_still s)

/-- Settling follows the conditions, and no later part of it touches the bank (R191, R192). -/
theorem settle_bank (s : State) : (settle s).bank = (syncConditions s).bank := by
  have h : (settle s).bank = (settleIdle (syncConditions s)).bank := by
    simpa only [State.unsent] using congrArg Unsent.bank (settle_unsent s)
  rw [h]; unfold settleIdle; split <;> rfl

@[simp] theorem settle_live (s : State) : (settle s).bank.live = s.bank.live := by
  rw [settle_bank]; simp [syncConditions]

@[simp] theorem settle_snapshot (s : State) : (settle s).bank.snapshot = s.bank.snapshot := by
  rw [settle_bank]; simp [syncConditions]

@[simp] theorem settle_enables (s : State) : (settle s).bank.enables = s.bank.enables := by
  rw [settle_bank]; simp [syncConditions]

@[simp] theorem settle_globalEnable (s : State) : (settle s).bank.globalEnable = s.bank.globalEnable := by
  rw [settle_bank]; simp [syncConditions]

theorem settle_levels (s : State) : (settle s).bank.levels = condLevels s := by
  rw [settle_bank]; simp [syncConditions]

theorem settle_latches (s : State) :
    (settle s).bank.latches = s.bank.latches ||| (s.bank.levels ^^^ condLevels s) := by
  rw [settle_bank]; simp [syncConditions]

@[simp] theorem settle_counter (s : State) (c : Counter) : (settle s).counter c = s.counter c := by
  simp only [State.counter, settle_live]

/-- A port that owes a reply owes the same frames after a transmitter is filled. -/
theorem fillTransmitter_owed (q x : Sender) (s : State) (l : List Frame)
    (h : (s.link q).owed = l ∧ ((s.link q).sending = none → (s.link q).replies ≠ [])) :
    ((fillTransmitter x s).link q).owed = l
      ∧ (((fillTransmitter x s).link q).sending = none → ((fillTransmitter x s).link q).replies ≠ []) := by
  by_cases e : q = x
  · subst e
    unfold fillTransmitter
    split
    · exact h
    · next hs =>
      split
      · next r rest hr =>
        simp only [modLink_link_self, sendFrame]
        refine ⟨?_, by simp⟩
        rw [← h.1]
        simp [Link.owed, hs, hr]
      · next hr => exact absurd hr (h.2 hs)
  · have hl : (fillTransmitter x s).link q = s.link q := by
      unfold fillTransmitter; split
      · rfl
      · split
        · exact modLink_link_ne _ _ _ _ e
        · split
          · unfold takeNotice; split
            · dsimp only
              split
              · simp only [modNotices_link]; exact modLink_link_ne _ _ _ _ e
              · simp only [modNotices_link]; exact modLink_link_ne _ _ _ _ e
              · rfl
            · rfl
          · rfl
    rw [hl]; exact h

/-- A port that owes a reply owes the same frames as the event ends (R164). -/
theorem settle_owed (q : Sender) (s : State) (h : (s.link q).replies ≠ []) :
    ((settle s).link q).owed = (s.link q).owed := by
  have h0 : ((settleIdle (syncConditions s)).link q) = s.link q := by
    unfold settleIdle; split <;> simp [syncConditions]
  have := forEach_invariant
    (fun t => (t.link q).owed = (s.link q).owed ∧ ((t.link q).sending = none → (t.link q).replies ≠ []))
    fillTransmitter allSenders (fun x _ t ht => fillTransmitter_owed q x t _ ht)
    (settleIdle (syncConditions s)) (by rw [h0]; exact ⟨rfl, fun _ => h⟩)
  exact this.1

/-! ### Events -/

/-- Outside reset an event is its change, settled. -/
theorem event_next (f : State → State) (s : State) (h : s.inReset = false) : event f s = .next (settle (f s)) := by
  simp [event, h]

/-- In reset an event does nothing (R178). -/
theorem event_reset (f : State → State) (s : State) (h : s.inReset = true) : event f s = .next s := by
  simp [event, h]

/-- Outside reset a change of an input is its level and its act, settled. -/
theorem inputEvent_next (pin act : State → State) (s : State) (h : s.inReset = false) :
    inputEvent pin act s = .next (settle (act (pin s))) := by
  simp [inputEvent, h]

/-- A property of every result of an event. -/
theorem event_post (P : State → Prop) (f : State → State) (s t : State) (h : event f s = .next t)
    (hr : s.inReset = true → P s) (hn : s.inReset = false → P (settle (f s))) : P t := by
  cases hs : s.inReset with
  | true => rw [event_reset f s hs] at h; cases h; exact hr hs
  | false => rw [event_next f s hs] at h; cases h; exact hn hs

end Sys2Proof.Machine
end

