-- ==== Sys2Proof/Laws/Requests.lean ====
section
/-! SUPPORT. What taking a request does around its owning block: the frame is counted, the link hears it, the block answers, and the reply joins the queue (R162, R163, R168, R173). -/

namespace Sys2Proof.Machine

/-! ### The state a request's block sees -/

/-- The state in which the owning block of a request takes it: the receiver is back in HUNT, the frame is counted good, and the link has heard it. -/
def greeted (q : Sender) (s : State) : State := goodOnPort q (hunt (.sender q) s)

@[simp] theorem greeted_belt (q : Sender) (s : State) : (greeted q s).belt = s.belt := by
  simp [greeted, goodOnPort, hunt, syncConditions]

@[simp] theorem greeted_pins (q : Sender) (s : State) : (greeted q s).pins = s.pins := by
  simp [greeted, goodOnPort, hunt, syncConditions]

@[simp] theorem greeted_reader (q : Sender) (s : State) : (greeted q s).reader = s.reader := by
  simp [greeted, goodOnPort, hunt, syncConditions]

@[simp] theorem greeted_matcher (q : Sender) (s : State) : (greeted q s).matcher = s.matcher := by
  simp [greeted, goodOnPort, hunt, syncConditions]

@[simp] theorem greeted_patterns (q : Sender) (s : State) : (greeted q s).patterns = s.patterns := by
  simp [greeted, goodOnPort, hunt, syncConditions]

@[simp] theorem greeted_map (q : Sender) (s : State) : (greeted q s).map = s.map := by
  simp [greeted, goodOnPort, hunt, syncConditions]

@[simp] theorem greeted_routes (q : Sender) (s : State) : (greeted q s).routes = s.routes := by
  simp [greeted, goodOnPort, hunt, syncConditions]

@[simp] theorem greeted_dests (q : Sender) (s : State) : (greeted q s).dests = s.dests := by
  simp [greeted, goodOnPort, hunt, syncConditions]

@[simp] theorem greeted_gates (q : Sender) (s : State) : (greeted q s).gates = s.gates := by
  simp [greeted, goodOnPort, hunt, syncConditions]

@[simp] theorem greeted_test (q : Sender) (s : State) : (greeted q s).test = s.test := by
  simp [greeted, goodOnPort, hunt, syncConditions]

@[simp] theorem greeted_notices (q : Sender) (s : State) : (greeted q s).notices = s.notices := by
  simp [greeted, goodOnPort, hunt, syncConditions]

@[simp] theorem greeted_settings (q : Sender) (s : State) : (greeted q s).settings = s.settings := by
  simp [greeted, goodOnPort, hunt, syncConditions]

@[simp] theorem greeted_refreshMs (q : Sender) (s : State) : (greeted q s).refreshMs = s.refreshMs := by
  simp [greeted, goodOnPort, hunt, syncConditions]

@[simp] theorem greeted_inReset (q : Sender) (s : State) : (greeted q s).inReset = s.inReset := by
  simp [greeted, goodOnPort, hunt, syncConditions]

@[simp] theorem greeted_draws (q : Sender) (s : State) : (greeted q s).draws = s.draws := by
  simp [greeted, goodOnPort, hunt, syncConditions]

@[simp] theorem greeted_orders (q : Sender) (s : State) : (greeted q s).orders = s.orders := by
  simp [greeted, goodOnPort, hunt, syncConditions]

@[simp] theorem greeted_pending (q : Sender) (s : State) : (greeted q s).pending = s.pending := by
  simp [greeted, goodOnPort, hunt, syncConditions]

@[simp] theorem greeted_dest (q : Sender) (s : State) (x : DestId) : (greeted q s).dest x = s.dest x := by
  simp [greeted, goodOnPort, hunt, syncConditions]

@[simp] theorem greeted_gate (q : Sender) (s : State) (x : GateId) : (greeted q s).gate x = s.gate x := by
  simp [greeted, goodOnPort, hunt, syncConditions]

@[simp] theorem greeted_noticeQueue (q : Sender) (s : State) (x : Station) : (greeted q s).noticeQueue x = s.noticeQueue x := by
  simp [greeted, goodOnPort, hunt, syncConditions]

@[simp] theorem greeted_find (q : Sender) (s : State) (x : EntryRef) : (greeted q s).find x = s.find x := by
  simp [greeted, goodOnPort, hunt, syncConditions]

@[simp] theorem greeted_confirmEye (q : Sender) (s : State) (x : DestId) : (greeted q s).confirmEye x = s.confirmEye x := by
  simp [greeted, goodOnPort, hunt, syncConditions]

@[simp] theorem greeted_rackSensor (q : Sender) (s : State) (x : DestId) : (greeted q s).rackSensor x = s.rackSensor x := by
  simp [greeted, goodOnPort, hunt, syncConditions]

@[simp] theorem greeted_switchExtended (q : Sender) (s : State) (x : GateId) (y : Side) : (greeted q s).switchExtended x y = s.switchExtended x y := by
  simp [greeted, goodOnPort, hunt, syncConditions]

@[simp] theorem greeted_isRunning (q : Sender) (s : State) : (greeted q s).isRunning = s.isRunning := by
  simp [greeted, goodOnPort, hunt, syncConditions]

@[simp] theorem greeted_commissioned (q : Sender) (s : State) : (greeted q s).commissioned = s.commissioned := by
  simp [greeted, goodOnPort, hunt, syncConditions]

theorem greeted_link (q : Sender) (s : State) :
    (greeted q s).link q = { s.link q with
      silenceMs := 0, state := if (s.link q).state = .quiet then .active else (s.link q).state } := by
  have e : ((hunt (.sender q) s).raisePort (.sender q) .framesGood).link q = s.link q := rfl
  simp only [greeted, goodOnPort, syncConditions, modBank_link, modLink_link_self, e]

@[simp] theorem greeted_owed (q : Sender) (s : State) : ((greeted q s).link q).owed = (s.link q).owed := by
  rw [greeted_link]; rfl

theorem greeted_link_ne (q x : Sender) (s : State) (h : x ≠ q) : (greeted q s).link x = s.link x := by
  simp [greeted, goodOnPort, hunt, syncConditions, modLink_link_ne _ _ _ _ h]

@[simp] theorem greeted_snapshot (q : Sender) (s : State) : (greeted q s).bank.snapshot = s.bank.snapshot := by
  simp [greeted, goodOnPort, hunt, syncConditions, State.raise]

@[simp] theorem greeted_enables (q : Sender) (s : State) : (greeted q s).bank.enables = s.bank.enables := by
  simp [greeted, goodOnPort, hunt, syncConditions, State.raise]

@[simp] theorem greeted_globalEnable (q : Sender) (s : State) :
    (greeted q s).bank.globalEnable = s.bank.globalEnable := by
  simp [greeted, goodOnPort, hunt, syncConditions, State.raise]

/-- Of the counters only FRAMES_GOOD of the port has moved (R162). -/
theorem greeted_counter (q : Sender) (s : State) (c : Counter)
    (h : c.index ≠ (Counter.ofPort (.sender q) .framesGood).index) : (greeted q s).counter c = s.counter c := by
  simp [greeted, goodOnPort, hunt, syncConditions, State.counter, State.raise] at *
  rw [Vector.getElem_set_ne]
  exact fun e => h (Fin.ext e.symm)

/-! ### The reply -/

@[simp] theorem queueReply_belt (q : Sender) (tag kind : Byte) (a : Answer) :
    (queueReply q tag kind a).belt = a.state.belt := rfl

@[simp] theorem queueReply_pins (q : Sender) (tag kind : Byte) (a : Answer) :
    (queueReply q tag kind a).pins = a.state.pins := rfl

@[simp] theorem queueReply_reader (q : Sender) (tag kind : Byte) (a : Answer) :
    (queueReply q tag kind a).reader = a.state.reader := rfl

@[simp] theorem queueReply_matcher (q : Sender) (tag kind : Byte) (a : Answer) :
    (queueReply q tag kind a).matcher = a.state.matcher := rfl

@[simp] theorem queueReply_patterns (q : Sender) (tag kind : Byte) (a : Answer) :
    (queueReply q tag kind a).patterns = a.state.patterns := rfl

@[simp] theorem queueReply_map (q : Sender) (tag kind : Byte) (a : Answer) :
    (queueReply q tag kind a).map = a.state.map := rfl

@[simp] theorem queueReply_routes (q : Sender) (tag kind : Byte) (a : Answer) :
    (queueReply q tag kind a).routes = a.state.routes := rfl

@[simp] theorem queueReply_dests (q : Sender) (tag kind : Byte) (a : Answer) :
    (queueReply q tag kind a).dests = a.state.dests := rfl

@[simp] theorem queueReply_gates (q : Sender) (tag kind : Byte) (a : Answer) :
    (queueReply q tag kind a).gates = a.state.gates := rfl

@[simp] theorem queueReply_test (q : Sender) (tag kind : Byte) (a : Answer) :
    (queueReply q tag kind a).test = a.state.test := rfl

@[simp] theorem queueReply_receivers (q : Sender) (tag kind : Byte) (a : Answer) :
    (queueReply q tag kind a).receivers = a.state.receivers := rfl

@[simp] theorem queueReply_notices (q : Sender) (tag kind : Byte) (a : Answer) :
    (queueReply q tag kind a).notices = a.state.notices := rfl

@[simp] theorem queueReply_settings (q : Sender) (tag kind : Byte) (a : Answer) :
    (queueReply q tag kind a).settings = a.state.settings := rfl

@[simp] theorem queueReply_bank (q : Sender) (tag kind : Byte) (a : Answer) :
    (queueReply q tag kind a).bank = a.state.bank := rfl

@[simp] theorem queueReply_refreshMs (q : Sender) (tag kind : Byte) (a : Answer) :
    (queueReply q tag kind a).refreshMs = a.state.refreshMs := rfl

@[simp] theorem queueReply_inReset (q : Sender) (tag kind : Byte) (a : Answer) :
    (queueReply q tag kind a).inReset = a.state.inReset := rfl

@[simp] theorem queueReply_draws (q : Sender) (tag kind : Byte) (a : Answer) :
    (queueReply q tag kind a).draws = a.state.draws := rfl

@[simp] theorem queueReply_orders (q : Sender) (tag kind : Byte) (a : Answer) :
    (queueReply q tag kind a).orders = a.state.orders := rfl

@[simp] theorem queueReply_pending (q : Sender) (tag kind : Byte) (a : Answer) :
    (queueReply q tag kind a).pending = a.state.pending := rfl

@[simp] theorem queueReply_dest (q : Sender) (tag kind : Byte) (a : Answer) (x : DestId) :
    (queueReply q tag kind a).dest x = a.state.dest x := rfl

@[simp] theorem queueReply_gate (q : Sender) (tag kind : Byte) (a : Answer) (x : GateId) :
    (queueReply q tag kind a).gate x = a.state.gate x := rfl

@[simp] theorem queueReply_find (q : Sender) (tag kind : Byte) (a : Answer) (x : EntryRef) :
    (queueReply q tag kind a).find x = a.state.find x := rfl

@[simp] theorem queueReply_counter (q : Sender) (tag kind : Byte) (a : Answer) (x : Counter) :
    (queueReply q tag kind a).counter x = a.state.counter x := rfl

/-- A reply joins what the port owes (R163), and is owed still as the event ends. -/
theorem settle_queueReply_owed (q : Sender) (tag kind : Byte) (a : Answer) :
    ((settle (queueReply q tag kind a)).link q).owed
      = (a.state.link q).owed ++ [Reply.frame ⟨tag, kind, a.status, a.result⟩] := by
  rw [settle_owed]
  · simp [queueReply, Link.owed]
  · simp [queueReply]

/-- An answer that leaves what its port owes alone is answered by exactly one reply (R163). -/
theorem replied_of (q : Sender) (tag : Byte) (k : Kind) (a : Answer) (s : State)
    (h : (a.state.link q).owed = (s.link q).owed) :
    Replied s (settle (queueReply q tag k.code a)) q tag k a.status a.result := by
  unfold Replied; rw [settle_queueReply_owed, h]

/-! ### Admission (R173, R179) -/

/-- Nothing of the admission stands in the way of a request of this kind. -/
def Admissible (k : Kind) (q : Sender) (pl : List Byte) (s : State) : Prop :=
  k.takenFrom q = true ∧ admission k q pl (greeted q s) = none

/-- A request that is served and admissible reaches its owning block, and its answer is queued (R162, R163, R173). -/
theorem frameEvent_served (k : Kind) (handle : Sender → List Byte → State → Answer) (q : Sender) (tag : Byte)
    (pl : List Byte) (s : State) (hr : s.inReset = false) (hq : (s.link q).replies.length < 8)
    (ha : Admissible k q pl s) :
    frameEvent k handle (.sender q) tag pl s
      = .next (settle (queueReply q tag k.code (handle q pl (greeted q s)))) := by
  have h8 : ¬ 8 ≤ ((hunt (.sender q) s).link q).replies.length := by simp only [hunt, modReceiver_link]; omega
  have e1 : takeRequest k handle (.sender q) tag pl (hunt (.sender q) s)
      = queueReply q tag k.code (serveKind k handle q pl (greeted q s)) := by
    simp only [takeRequest, takeOnPort, h8, if_false]; rfl
  have e2 : serveKind k handle q pl (greeted q s) = handle q pl (greeted q s) := by
    simp only [serveKind, ha.1, if_true, ha.2]
  rw [frameEvent, event_next _ _ hr, e1, e2]

/-- The counts of a station are those of the table, which hearing a frame leaves alone, and a kept list is the request's own. -/
@[simp] theorem turnedAwayResult_greeted (k : Kind) (q x : Sender) (pl : List Byte) (s : State) :
    turnedAwayResult k q pl (greeted x s) = turnedAwayResult k q pl s := by
  cases q <;> simp [turnedAwayResult, patternCounts]

/-- A write of a list of its length that is turned away has its kept list sent back (R75). -/
theorem turnedAwayResult_write (k : Kind) (q : Sender) (pl : List Byte) (s : State) (hk : k = .writeRoute ∨ k = .setList)
    (hf : k.payloadFits q pl = true) :
    turnedAwayResult k q pl s
      = listBytes (keptList (if k = .writeRoute then routeMembers q pl else listMembers pl)) := by
  rcases hk with rfl | rfl <;> simp [turnedAwayResult, hf]

/-- The same, for a request that an admission check turns away: the reply has the status and, for the requests on patterns, the counts, for a write of a list, its kept list, and nothing else happens (R38, R75, R173). -/
theorem frameEvent_turnedAway (k : Kind) (handle : Sender → List Byte → State → Answer) (q : Sender) (tag : Byte)
    (pl : List Byte) (s : State) (status : Status) (hr : s.inReset = false) (hq : (s.link q).replies.length < 8)
    (hk : k.takenFrom q = true) (ha : admission k q pl (greeted q s) = some status) :
    frameEvent k handle (.sender q) tag pl s
      = .next (settle (queueReply q tag k.code (turnAway k q pl status (greeted q s)))) := by
  have h8 : ¬ 8 ≤ ((hunt (.sender q) s).link q).replies.length := by simp only [hunt, modReceiver_link]; omega
  have e1 : takeRequest k handle (.sender q) tag pl (hunt (.sender q) s)
      = queueReply q tag k.code (serveKind k handle q pl (greeted q s)) := by
    simp only [takeRequest, takeOnPort, h8, if_false]; rfl
  have e2 : serveKind k handle q pl (greeted q s) = turnAway k q pl status (greeted q s) := by
    simp only [serveKind, hk, if_true, ha]
  rw [frameEvent, event_next _ _ hr, e1, e2]

/-- A request with 8 replies waiting is dropped and counted as bad (R163). -/
theorem frameEvent_full (k : Kind) (handle : Sender → List Byte → State → Answer) (q : Sender) (tag : Byte)
    (pl : List Byte) (s : State) (hr : s.inReset = false) (hq : 8 ≤ (s.link q).replies.length) :
    frameEvent k handle (.sender q) tag pl s
      = .next (settle (badOnPort (.sender q) (hunt (.sender q) s))) := by
  have h8 : 8 ≤ ((hunt (.sender q) s).link q).replies.length := by simpa only [hunt, modReceiver_link] using hq
  rw [frameEvent, event_next _ _ hr]
  simp only [takeRequest, takeOnPort, h8, if_true]

/-- On a commissioned belt, a served sender's request of a kind of its port and of the right length is admissible (R173). -/
theorem admissible_commissioned (k : Kind) (q : Sender) (pl : List Byte) (s : State) (hs : ServedCommissioned s q)
    (hk : k.takenFrom q = true) (hf : k.payloadFits q pl = true) : Admissible k q pl s := by
  refine ⟨hk, ?_⟩
  obtain ⟨⟨_, hl, _⟩, hb⟩ := hs
  have h1 : ((greeted q s).link q).state = .active := by
    rw [greeted_link]; rcases hl with h | h <;> simp [h]
  have h2 : s.commissioned = true := by simpa [State.commissioned] using hb
  unfold admission
  cases q <;> simp [h1, h2, hf]

/-- A served site request that does not wait for COMMISSION is admissible in every belt state (R179). -/
theorem admissible_site (k : Kind) (pl : List Byte) (s : State) (hs : Served s .site)
    (hk : k.takenFrom .site = true) (hf : k.payloadFits .site pl = true) (hw : k.waitsForCommission = false) :
    Admissible k .site pl s := by
  refine ⟨hk, ?_⟩
  obtain ⟨_, hl, _⟩ := hs
  have h1 : ((greeted .site s).link .site).state = .active := by
    rw [greeted_link]; rcases hl with h | h <;> simp [h]
  unfold admission
  simp [h1, hf, hw]

/-! ### What the blocks leave of the links -/

/-- A change that leaves the links alone leaves what a port owes alone. -/
theorem owed_of_links {s t : State} (h : t.links = s.links) (q : Sender) : (t.link q).owed = (s.link q).owed := by
  simp only [State.link, h]

/-- What routing keeps, field by field. -/
theorem links_of_kept {s t : State} (h : t.kept = s.kept) : t.links = s.links := congrArg Kept.links h

theorem belt_of_kept {s t : State} (h : t.kept = s.kept) : t.belt = s.belt := congrArg Kept.belt h

theorem pins_of_kept {s t : State} (h : t.kept = s.kept) : t.pins = s.pins := congrArg Kept.pins h

theorem reader_of_kept {s t : State} (h : t.kept = s.kept) : t.reader = s.reader := congrArg Kept.reader h

theorem matcher_of_kept {s t : State} (h : t.kept = s.kept) : t.matcher = s.matcher := congrArg Kept.matcher h

theorem patterns_of_kept {s t : State} (h : t.kept = s.kept) : t.patterns = s.patterns := congrArg Kept.patterns h

theorem routes_of_kept {s t : State} (h : t.kept = s.kept) : t.routes = s.routes := congrArg Kept.routes h

theorem receivers_of_kept {s t : State} (h : t.kept = s.kept) : t.receivers = s.receivers := congrArg Kept.receivers h

theorem settings_of_kept {s t : State} (h : t.kept = s.kept) : t.settings = s.settings := congrArg Kept.settings h

theorem inReset_of_kept {s t : State} (h : t.kept = s.kept) : t.inReset = s.inReset := congrArg Kept.inReset h

theorem pending_of_kept {s t : State} (h : t.kept = s.kept) : t.pending = s.pending := congrArg Kept.pending h

end Sys2Proof.Machine
end

