-- ==== Sys2Proof/Laws/Frames.lean ====
section
/-! SUPPORT. The frames of the statements: how `SameExcept`, `Raised` and `Took` compose, and what settling and taking a request do to them. -/

namespace Sys2Proof.Machine

/-! ### Composing frames -/

theorem sameLink_refl (s : State) (q : Sender) : SameLink s s q := ⟨rfl, rfl, rfl, rfl⟩

theorem SameLink.trans {s t u : State} {q : Sender} (h : SameLink s t q) (k : SameLink t u q) : SameLink s u q :=
  ⟨k.1.trans h.1, k.2.1.trans h.2.1, k.2.2.1.trans h.2.2.1, k.2.2.2.trans h.2.2.2⟩

theorem sameNotices_refl (s : State) (st : Station) : SameNotices s s st := ⟨List.suffix_refl _, List.suffix_refl _⟩

theorem SameNotices.trans {s t u : State} {st : Station} (h : SameNotices s t st) (k : SameNotices t u st) :
    SameNotices s u st := ⟨k.1.trans h.1, k.2.trans h.2⟩

theorem Block.same_refl (b : Block) (s : State) : b.same s s := by
  cases b <;>
    first
      | exact fun q => sameLink_refl s q
      | exact fun q => sameNotices_refl s q
      | exact ⟨rfl, rfl, rfl⟩
      | exact (rfl : s.dests = s.dests)
      | rfl

theorem Block.same_trans {b : Block} {s t u : State} (h : b.same s t) (k : b.same t u) : b.same s u := by
  cases b <;>
    first
      | exact fun q => (h q).trans (k q)
      | exact ⟨k.1.trans h.1, k.2.1.trans h.2.1, k.2.2.trans h.2.2⟩
      | exact Eq.trans k h

theorem sameExcept_refl (l : List Block) (s : State) : SameExcept l s s := fun b _ => b.same_refl s

theorem SameExcept.trans {l : List Block} {s t u : State} (h : SameExcept l s t) (k : SameExcept l t u) :
    SameExcept l s u := fun b hb => Block.same_trans (h b hb) (k b hb)

theorem SameExcept.mono {l m : List Block} {s t : State} (h : SameExcept l s t) (hm : ∀ b ∈ l, b ∈ m) :
    SameExcept m s t := fun b hb => h b fun hl => hb (hm b hl)

/-! ### Counters -/

/-- No two counters share a place among the 178. -/
theorem Counter.index_injective {a b : Counter} (h : a.index = b.index) : a = b := by
  have hp : ∀ p : Port, p = match (Port.index p).val with
      | 0 => .sender (.station 0) | 1 => .sender (.station 1) | 2 => .sender (.station 2)
      | 3 => .sender (.station 3) | 4 => .sender (.station 4) | 5 => .sender (.station 5)
      | 6 => .sender .site | _ => .identifier := by
    intro p
    rcases p with (st | _) | _
    · revert st; decide
    · rfl
    · rfl
  have hv := congrArg Fin.val h
  rcases a with a | ⟨ga, a⟩ | ⟨da, a⟩ | ⟨pa, a⟩ <;> rcases b with b | ⟨gb, b⟩ | ⟨db, b⟩ | ⟨pb, b⟩ <;>
    simp only [Counter.index] at hv
  · cases a <;> cases b <;> first | rfl | (simp [GlobalCounter.place] at hv)
  · have := a.place.isLt; omega
  · have := a.place.isLt; omega
  · have := a.place.isLt; omega
  · have := b.place.isLt; omega
  · have ha := a.place.isLt
    have hb := b.place.isLt
    obtain rfl : ga = gb := Fin.ext (by omega)
    cases a <;> cases b <;> first | rfl | (simp [GateCounter.place] at hv)
  · have := a.place.isLt; omega
  · have := a.place.isLt; omega
  · have := b.place.isLt; omega
  · have := b.place.isLt; omega
  · have ha := a.place.isLt
    have hb := b.place.isLt
    obtain rfl : da = db := Fin.ext (by omega)
    cases a <;> cases b <;> first | rfl | (simp [DestCounter.place] at hv)
  · have := a.place.isLt; omega
  · have := b.place.isLt; omega
  · have := b.place.isLt; omega
  · have := b.place.isLt; omega
  · have ha := a.place.isLt
    have hb := b.place.isLt
    have hi : (Port.index pa).val = (Port.index pb).val := by omega
    have e : pa = pb := by rw [hp pa, hp pb, hi]
    subst e
    cases a <;> cases b <;> first | rfl | (simp [PortCounter.place] at hv)

/-- A counter after one is raised. -/
theorem raise_counter (s : State) (c x : Counter) :
    (s.raise c).counter x = if x = c then min (s.counter x + 1) 65535 else s.counter x := by
  split
  · next h => subst h; simp
  · next h => exact raise_counter_ne s c x fun e => h (Counter.index_injective e)

/-- No counter moves where the live counters are as they were. -/
theorem raised_nil {s t : State} (h : t.bank.live = s.bank.live) : Raised [] s t := fun c => by
  simp [State.counter, h]

/-- One counter raised. -/
theorem raised_raise (s : State) (c : Counter) : Raised [c] s (s.raise c) := fun x => by
  simp [raise_counter]

/-! ### Settling -/

theorem destItemFrame_kind (s : State) (seq : Byte) (i : DestItem) : (destItemFrame s seq i).kind = destStateCode := by
  cases i <;> rfl

theorem noticeFrame_kind_ne (n : Notice) : (noticeFrame n).1 ≠ replyCode := by
  cases n <;> simp [noticeFrame, replyCode, arrivalCode, patternEvictedCode]

/-- A transmitter that is filled changes no link's owed replies (R164). -/
theorem fillTransmitter_answers (x q : Sender) (s : State) :
    ((fillTransmitter x s).link q).answers = (s.link q).answers := by
  unfold fillTransmitter
  split
  · rfl
  · next hs =>
    split
    · next r rest hr =>
      rw [modLink_link]; split
      · next e => subst e; simp [Link.answers, Link.owed, sendFrame, hs, hr]
      · rfl
    · next hr =>
      split
      · next st =>
        unfold takeNotice; split
        · dsimp only; split
          · rw [modNotices_link, modLink_link]; split
            · next e =>
              subst e
              simp only [Link.answers, Link.owed, sendFrame, hs, hr]
              simp [destItemFrame_kind, replyCode, destStateCode]
            · rfl
          · rw [modNotices_link, modLink_link]; split
            · next e =>
              subst e
              simp only [Link.answers, Link.owed, sendFrame, hs, hr]
              simp [noticeFrame_kind_ne]
            · rfl
          · rfl
        · rfl
      · rfl

theorem takeNotice_sameNotices (x st : Station) (s : State) : SameNotices s (takeNotice x s) st := by
  by_cases e : st = x
  · subst e
    unfold takeNotice; split
    · dsimp only; split
      · next hd => simp [SameNotices, hd]
      · next hp => simp [SameNotices, hp]
      · exact sameNotices_refl _ _
    · exact sameNotices_refl _ _
  · have h : (takeNotice x s).noticeQueue st = s.noticeQueue st := by
      unfold takeNotice; split
      · dsimp only; split <;> first | rfl | (rw [modNotices_noticeQueue_ne _ _ _ _ e]; rfl)
      · rfl
    unfold SameNotices; rw [h]; exact ⟨List.suffix_refl _, List.suffix_refl _⟩

/-- A transmitter that is filled adds no notice to a queue (R164). -/
theorem fillTransmitter_sameNotices (x : Sender) (st : Station) (s : State) :
    SameNotices s (fillTransmitter x s) st := by
  unfold fillTransmitter
  split
  · exact sameNotices_refl _ _
  · split
    · exact sameNotices_refl _ _
    · split
      · exact takeNotice_sameNotices _ _ _
      · exact sameNotices_refl _ _

theorem settle_answers (q : Sender) (s : State) : ((settle s).link q).answers = (s.link q).answers := by
  refine (forEach_keeps (fun s => (s.link q).answers) _ (fun x s => fillTransmitter_answers x q s) allSenders
    (settleIdle (syncConditions s))).trans ?_
  unfold settleIdle; split <;> simp [syncConditions]

/-- Settling leaves every link's state machine and owed replies alone. -/
theorem settle_sameLink (q : Sender) (s : State) : SameLink s (settle s) q :=
  ⟨settle_link_state q s, settle_link_hellos q s, settle_link_silenceMs q s, settle_answers q s⟩

/-- Settling adds no notice. -/
theorem settle_sameNotices (st : Station) (s : State) : SameNotices s (settle s) st := by
  have h0 : SameNotices s (settleIdle (syncConditions s)) st := by
    unfold settleIdle; split <;> simp [SameNotices, syncConditions]
  unfold settle
  exact forEach_invariant (fun t => SameNotices s t st) fillTransmitter allSenders
    (fun x _ t ht => ht.trans (fillTransmitter_sameNotices x st t)) _ h0

/-- Settling leaves every block alone. -/
theorem same_settle (b : Block) (s : State) : b.same s (settle s) := by
  cases b <;> simp only [Block.same, SameDests, settle_belt_still, settle_pins, settle_reader, settle_matcher,
    settle_patterns, settle_map, settle_routes, settle_dests, settle_gates, settle_test, settle_receivers,
    settle_settings, settle_live, settle_snapshot, settle_enables, settle_globalEnable, settle_refreshMs,
    settle_inReset, and_self]
  · exact fun q => settle_sameLink q s
  · exact fun st => settle_sameNotices st s

/-- A frame holds after settling if it held before. -/
theorem SameExcept.settled {l : List Block} {s t : State} (h : SameExcept l s t) : SameExcept l s (settle t) :=
  fun b hb => Block.same_trans (h b hb) (same_settle b t)

theorem Raised.settled {l : List Counter} {s t : State} (h : Raised l s t) : Raised l s (settle t) := fun c => by
  rw [settle_counter]; exact h c

/-! ### Taking a request -/

/-- The state a request's block sees differs from the state before in its port and in the count of its frame alone. -/
theorem greeted_frame (q : Sender) (s : State) : SameExcept [.receivers, .links, .counters] s (greeted q s) := by
  intro b hb
  cases b <;> simp_all [Block.same, SameDests, SameNotices]

theorem greeted_raised (q : Sender) (s : State) : Raised [.ofPort (.sender q) .framesGood] s (greeted q s) := by
  intro c
  have e : (greeted q s).counter c = (s.raise (.ofPort (.sender q) .framesGood)).counter c := by
    simp [greeted, goodOnPort, hunt, syncConditions, State.counter, State.raise]
  rw [e, raise_counter]; simp

theorem greeted_receiver (q : Sender) (p : Port) (s : State) :
    (greeted q s).receiver p = if p = .sender q then {} else s.receiver p := by
  have e : (greeted q s).receiver p = (hunt (.sender q) s).receiver p := by
    simp [greeted, goodOnPort, syncConditions]
  rw [e]; unfold hunt
  split
  · next h => subst h; simp
  · next h => exact modReceiver_receiver_ne _ _ _ _ h

/-- A request whose block leaves the ports and the counters alone: its port has heard it, it is counted, and the rest is as the block leaves it (R162, R163). -/
theorem took_of_answer (q : Sender) (tag kind : Byte) (l : List Block) (s : State) (a : Answer)
    (h : SameExcept l (greeted q s) a.state)
    (hr : Block.receivers ∉ l) (hl : Block.links ∉ l) (hc : Block.counters ∉ l) :
    Took q l s (settle (queueReply q tag kind a)) := by
  have hrec : a.state.receivers = (greeted q s).receivers := h .receivers hr
  have hlink : ∀ x, SameLink (greeted q s) a.state x := h .links hl
  have hlive : a.state.bank.live = (greeted q s).bank.live := h .counters hc
  have hqr : ∀ x, x ≠ q → (queueReply q tag kind a).link x = a.state.link x := fun x hx =>
    modLink_link_ne _ _ _ _ hx
  have hqs : ((queueReply q tag kind a).link q).training = (a.state.link q).training := by
    simp [queueReply, Link.training]
  simp only [Link.training, Prod.mk.injEq] at hqs
  refine ⟨⟨?_, ?_, ?_, ?_, ?_, ?_⟩, ?_, ?_⟩
  · rw [settle_receiver]
    have : (queueReply q tag kind a).receiver (.sender q) = (greeted q s).receiver (.sender q) := by
      simp [State.receiver, hrec]
    rw [this, greeted_receiver]; simp
  · intro p hp
    rw [settle_receiver]
    have : (queueReply q tag kind a).receiver p = (greeted q s).receiver p := by
      simp [State.receiver, hrec]
    rw [this, greeted_receiver]; simp [hp]
  · rw [settle_link_silenceMs, hqs.2.2, (hlink q).2.2.1, greeted_link]
  · rw [settle_link_hellos, hqs.2.1, (hlink q).2.1, greeted_link]
  · rw [settle_link_state, hqs.1, (hlink q).1, greeted_link]
  · intro x hx
    have h1 := (hlink x).trans (show SameLink a.state (queueReply q tag kind a) x by
      unfold SameLink; rw [hqr x hx]; exact ⟨rfl, rfl, rfl, rfl⟩)
    have h2 := h1.trans (settle_sameLink x _)
    unfold SameLink at h2 ⊢
    rwa [greeted_link_ne q x s hx] at h2
  · intro c
    rw [settle_counter, queueReply_counter]
    have : a.state.counter c = (greeted q s).counter c := by simp [State.counter, hlive]
    rw [this]; exact greeted_raised q s c
  · intro b hb
    simp only [List.cons_append, List.nil_append, List.mem_cons, not_or] at hb
    have h1 : b.same s (greeted q s) := greeted_frame q s b (by simp [hb.1, hb.2.1, hb.2.2.1])
    have h2 : b.same a.state (queueReply q tag kind a) := by
      cases b <;> simp_all [Block.same, SameDests, queueReply, SameNotices]
    exact Block.same_trans (Block.same_trans (Block.same_trans h1 (h b hb.2.2.2)) h2) (same_settle b _)

/-- A request refused with a status, or answered with a result, by a block that changes nothing. -/
theorem took_of_unchanged (q : Sender) (tag kind : Byte) (s : State) (status : Status) (result : List Byte) :
    Took q [] s (settle (queueReply q tag kind ⟨greeted q s, status, result⟩)) :=
  took_of_answer q tag kind [] s _ (sameExcept_refl _ _) (by simp) (by simp) (by simp)

end Sys2Proof.Machine
end

