-- ==== Sys2Proof/Laws/Notices.lean ====
section
/-! SUPPORT. What an offer does to the notice queues, and what the end of an event leaves of them (R114, R164, R174, R175, R176). -/

namespace Sys2Proof.Machine

/-! ### Offers (R114, R174, R175) -/

/-- Only the state of a station's link decides whether it hears. -/
theorem hears_of_links {s t : State} (h : t.links = s.links) (st : Station) : hears t st = hears s st := by
  simp only [hears, State.link, h]

@[simp] theorem hears_settle (s : State) (st : Station) : hears (settle s) st = hears s st := by
  simp only [hears, settle_link_state]

/-- The notice queue of one station after a change of another's. -/
theorem modNotices_noticeQueue (s : State) (st x : Station) (f : NoticeQueue → NoticeQueue) :
    (s.modNotices st f).noticeQueue x = if x = st then f (s.noticeQueue st) else s.noticeQueue x := by
  split
  · next h => subst h; simp
  · next h => exact modNotices_noticeQueue_ne s st x f h

/-- An offer of DEST-STATE brings the pending mark to the owner that hears, and nothing to another. -/
theorem offerDest_noticeQueue (d : DestId) (s : State) (st : Station) :
    (offerDest d s).noticeQueue st
      = if (s.dest d).owner = some (.station st) ∧ hears s st = true then
          { s.noticeQueue st with dests := addMark d (s.noticeQueue st).dests }
        else s.noticeQueue st := by
  cases h : (s.dest d).owner with
  | none => simp [offerDest, h]
  | some q =>
    cases q with
    | site => simp [offerDest, h]
    | station x =>
      by_cases e : st = x
      · subst e; by_cases k : hears s st = true <;> simp [offerDest, h, k]
      · have e' : x ≠ st := fun k => e k.symm
        by_cases k : hears s x = true <;> simp [offerDest, h, k, e', modNotices_noticeQueue_ne _ _ _ _ e]

/-- An offer of the last DEST-STATE brings the final notice, of the record as it stands, to the former owner that hears. -/
theorem offerLastDest_noticeQueue (d : DestId) (o : Option Sender) (s : State) (st : Station) :
    (offerLastDest d o s).noticeQueue st
      = if o = some (.station st) ∧ hears s st = true then
          { s.noticeQueue st with dests := addLastNotice d (destStateBytes d (s.dest d)) (s.noticeQueue st).dests }
        else s.noticeQueue st := by
  cases o with
  | none => simp [offerLastDest]
  | some q =>
    cases q with
    | site => simp [offerLastDest]
    | station x =>
      by_cases e : st = x
      · subst e; by_cases k : hears s st = true <;> simp [offerLastDest, k]
      · have e' : x ≠ st := fun k => e k.symm
        by_cases k : hears s x = true <;> simp [offerLastDest, k, e', modNotices_noticeQueue_ne _ _ _ _ e]

/-- An offer of another notice takes the newest of the 16 places of a station that hears (R174). -/
theorem offerNotice_noticeQueue (x st : Station) (n : Notice) (s : State) :
    (offerNotice x n s).noticeQueue st
      = if st = x ∧ hears s x = true ∧ (s.noticeQueue x).places.length < 16 then
          { s.noticeQueue st with places := (s.noticeQueue st).places ++ [n] }
        else s.noticeQueue st := by
  unfold offerNotice
  by_cases k : hears s x = true
  · by_cases l : (s.noticeQueue x).places.length < 16
    · simp only [k, l, if_true, modNotices_noticeQueue, and_true]
      split
      · next e => subst e; rfl
      · rfl
    · simp [k, l]
  · simp [k]

@[simp] theorem offerDest_dests (d : DestId) (s : State) : (offerDest d s).dests = s.dests := by
  unfold offerDest; split
  · split <;> simp
  · rfl
  · rfl

/-- A changed record, the others as they were. -/
theorem changeDest_dests (d : DestId) (f : Dest → Dest) (s : State) :
    (changeDest d f s).dests = (s.modDest d f).dests := by
  unfold changeDest; dsimp only; split <;> simp

theorem changeDest_dest (d x : DestId) (f : Dest → Dest) (s : State) :
    (changeDest d f s).dest x = if x = d then f (s.dest d) else s.dest x := by
  have h : (changeDest d f s).dest x = (s.modDest d f).dest x := by simp only [State.dest, changeDest_dests]
  rw [h, modDest_dest]

/-- A changed record brings its mark to the owner that hears, where the change is one that R114 names. -/
theorem changeDest_noticeQueue (d : DestId) (f : Dest → Dest) (s : State) (st : Station) :
    (changeDest d f s).noticeQueue st
      = if (f (s.dest d)).owner = some (.station st) ∧ hears s st = true
            ∧ sameVisible (s.dest d) (f (s.dest d)) = false then
          { s.noticeQueue st with dests := addMark d (s.noticeQueue st).dests }
        else s.noticeQueue st := by
  unfold changeDest
  by_cases v : sameVisible (s.dest d) (f (s.dest d)) = true
  · simp [v]
  · have hh : hears (s.modDest d f) st = hears s st := rfl
    simp only [Bool.not_eq_true] at v
    simp only [modDest_dest_self, v, Bool.false_eq_true, if_false, offerDest_noticeQueue, hh, modDest_noticeQueue,
      and_true]

/-! ### One destination among all of them -/

/-- A fold whose steps do nothing but for one member does that member's step. -/
theorem foldl_once {α β : Type} (g : β → α → β) (x : α) (l : List α) (b : β) (hn : l.Nodup) (hx : x ∈ l)
    (h : ∀ y ∈ l, y ≠ x → ∀ b, g b y = b) : l.foldl g b = g b x := by
  induction l generalizing b with
  | nil => cases hx
  | cons a l ih =>
    have none : ∀ m : List α, (∀ y ∈ m, y ∈ a :: l) → x ∉ m → ∀ b, m.foldl g b = b := fun m hm hxm => by
      induction m with
      | nil => exact fun _ => rfl
      | cons y m im =>
        intro b
        simp only [List.mem_cons, not_or] at hxm
        rw [List.foldl_cons, h y (hm y (by simp)) (fun e => hxm.1 e.symm) b]
        exact im (fun z hz => hm z (List.mem_cons_of_mem _ hz)) hxm.2 b
    rw [List.nodup_cons] at hn
    by_cases e : a = x
    · subst e; exact none l (fun y hy => List.mem_cons_of_mem _ hy) hn.1 _
    · rw [List.foldl_cons, h a (by simp) e b]
      rcases List.mem_cons.mp hx with hx | hx
      · exact absurd hx.symm e
      · exact ih b hn.2 hx (fun y hy => h y (List.mem_cons_of_mem _ hy))

theorem mem_allDests (d : DestId) : d ∈ allDests := by revert d; decide

theorem nodup_allDests : allDests.Nodup := by decide

/-- A destination that is as it was owes no notice. -/
theorem destNotice_same {s t : State} {d : DestId} (h : t.dest d = s.dest d) (st : Station) (l : List DestItem) :
    destNotice s t st d l = l := by
  unfold destNotice
  rw [h]
  by_cases o : (s.dest d).owner = some (.station st) <;> simp [sameVisible, o]

/-- Where one destination has changed, the notices owed are those of that one. -/
theorem destNotice_one {s t : State} {d : DestId} (h : SameOtherDests s t d) (st : Station) (l : List DestItem) :
    allDests.foldl (fun l x => destNotice s t st x l) l = destNotice s t st d l :=
  foldl_once _ d allDests l nodup_allDests (mem_allDests d) fun y _ hy _ => destNotice_same (h y hy) st _

/-- What a changed record brings to the stations' lists is the notice owed for it, as long as no station loses the destination by it. -/
theorem changeDest_offers (d : DestId) (f : Dest → Dest) (s : State) (st : Station)
    (ho : (s.dest d).owner = none ∨ (f (s.dest d)).owner = (s.dest d).owner) :
    ((changeDest d f s).noticeQueue st).dests
      = if hears s st = true then
          allDests.foldl (fun l x => destNotice s (changeDest d f s) st x l) (s.noticeQueue st).dests
        else (s.noticeQueue st).dests := by
  have hd : SameOtherDests s (changeDest d f s) d := fun x hx => by rw [changeDest_dest, if_neg hx]
  rw [destNotice_one hd, changeDest_noticeQueue]
  have he : (changeDest d f s).dest d = f (s.dest d) := by rw [changeDest_dest, if_pos rfl]
  unfold destNotice
  rw [he]
  by_cases hs : hears s st = true
  · simp only [hs, if_true, true_and]
    by_cases o : (f (s.dest d)).owner = some (.station st)
    · cases v : sameVisible (s.dest d) (f (s.dest d)) <;> simp [o]
    · have o' : (s.dest d).owner ≠ some (.station st) := by
        rcases ho with h | h
        · simp [h]
        · rw [← h]; exact o
      simp [o, o']
  · simp [hs]

/-! ### The end of an event (R164, R176) -/

/-- What decides and what shows whether a station's port takes a notice: its link, its notices and the records. -/
def portView (st : Station) (s : State) : Link × NoticeQueue × Vector Dest 24 :=
  (s.link (.station st), s.noticeQueue st, s.dests)

theorem leavesWaiting_congr {asker : Option Sender} {st : Station} {l : List DestItem} {m : List Notice}
    {s s' t t' : State} (hs : portView st s' = portView st s) (ht : portView st t' = portView st t)
    (h : LeavesWaiting asker st l m s t) : LeavesWaiting asker st l m s' t' := by
  simp only [portView, Prod.mk.injEq] at hs ht
  have e : ∀ n i, destItemFrame t' n i = destItemFrame t n i := fun n i => by
    cases i <;> simp [destItemFrame, State.dest, ht.2.2]
  have hh : hears t' st = hears t st := by simp only [hears, ht.1]
  have hf : freeForNotice asker s' st = freeForNotice asker s st := by simp only [freeForNotice, hs.1]
  unfold LeavesWaiting at h ⊢
  rw [hh, hf, hs.2.1, ht.1, ht.2.1]
  simp only [e]
  exact h

/-- A port that is filled sends the oldest of its notices where it is free for one (R164). -/
theorem fillTransmitter_leaves (st : Station) (s : State) :
    LeavesWaiting none st (s.noticeQueue st).dests (s.noticeQueue st).places s (fillTransmitter (.station st) s) := by
  have hh : hears (fillTransmitter (.station st) s) st = hears s st := by
    have := fillTransmitter_training (.station st) (.station st) s
    simp only [Link.training, Prod.mk.injEq] at this
    simp only [hears, this.1]
  unfold LeavesWaiting
  rw [hh]
  unfold fillTransmitter freeForNotice
  cases hs : (s.link (.station st)).sending with
  | some f => simp
  | none =>
    cases hr : (s.link (.station st)).replies with
    | cons r rest => simp
    | nil =>
      unfold takeNotice
      by_cases hc : hears s st = true
      · simp only [hc, if_true]
        cases hd : (s.noticeQueue st).dests with
        | cons i rest =>
          simp [sendFrame]
          cases i <;> rfl
        | nil =>
          cases hp : (s.noticeQueue st).places with
          | cons n rest => simp [sendFrame, hd]
          | nil => simp [hd, hp, hs]
      · simp [hc]

/-- Filling another port leaves a station's port alone. -/
theorem fillTransmitter_portView (st : Station) (x : Sender) (h : x ≠ .station st) (s : State) :
    portView st (fillTransmitter x s) = portView st s := by
  have h' : Sender.station st ≠ x := fun e => h e.symm
  unfold fillTransmitter
  split
  · rfl
  · split
    · simp [portView, modLink_link_ne _ _ _ _ h']
    · cases x with
      | site => rfl
      | station y =>
        have hy : st ≠ y := fun e => h (by rw [e])
        dsimp only
        unfold takeNotice
        split
        · dsimp only; split <;>
            simp [portView, modNotices_noticeQueue_ne _ _ _ _ hy, modLink_link_ne _ _ _ _ h']
        · rfl

/-- Filling other ports leaves a station's port alone. -/
theorem forEach_portView (st : Station) (l : List Sender) (h : .station st ∉ l) (s : State) :
    portView st (forEach l fillTransmitter s) = portView st s := by
  induction l generalizing s with
  | nil => rfl
  | cons y l ih =>
    simp only [List.mem_cons, not_or] at h
    have e : forEach (y :: l) fillTransmitter s = forEach l fillTransmitter (fillTransmitter y s) := rfl
    rw [e, ih h.2, fillTransmitter_portView st y (fun e => h.1 e.symm)]

/-- A station's port is filled once as an event ends. -/
theorem allSenders_station (st : Station) : ∃ a b : List Sender, allSenders = a ++ .station st :: b
    ∧ .station st ∉ a ∧ .station st ∉ b := by
  refine ⟨(allStations.take st.val).map .station, (allStations.drop (st.val + 1)).map .station ++ [.site], ?_⟩
  revert st; decide

/-- As an event ends, each station's port sends the oldest of its notices where it is free for one, and nothing else moves in its queue (R164; log 11). -/
theorem settle_leaves (st : Station) (s : State) :
    LeavesWaiting none st (s.noticeQueue st).dests (s.noticeQueue st).places s (settle s) := by
  obtain ⟨a, b, hab, ha, hb⟩ := allSenders_station st
  have h0 : portView st (settleIdle (syncConditions s)) = portView st s := by
    unfold settleIdle; split <;> simp [portView, syncConditions]
  have h1 : portView st (forEach a fillTransmitter (settleIdle (syncConditions s))) = portView st s :=
    (forEach_portView st a ha _).trans h0
  have h2 : settle s = forEach b fillTransmitter (fillTransmitter (.station st)
      (forEach a fillTransmitter (settleIdle (syncConditions s)))) := by
    simp only [settle, forEach, hab, List.foldl_append, List.foldl_cons]
  have h3 := fillTransmitter_leaves st (forEach a fillTransmitter (settleIdle (syncConditions s)))
  have hq : (forEach a fillTransmitter (settleIdle (syncConditions s))).noticeQueue st = s.noticeQueue st := by
    simp only [portView, Prod.mk.injEq] at h1; exact h1.2.1
  rw [hq] at h3
  rw [h2]
  exact leavesWaiting_congr h1.symm (forEach_portView st b hb _) h3

/-- The same as seen from a state before the event, where the port was free for a notice just as at the event's end. -/
theorem LeavesWaiting.since {asker : Option Sender} {st : Station} {l : List DestItem} {m : List Notice} {s u t : State}
    (h : LeavesWaiting none st l m u t) (hf : freeForNotice none u st = freeForNotice asker s st)
    (hq : freeForNotice asker s st = true → (u.noticeQueue st).seq = (s.noticeQueue st).seq) :
    LeavesWaiting asker st l m s t := by
  refine ⟨fun ht k => ?_, fun k => h.2 (by rw [hf]; exact k)⟩
  have := h.1 ht (by rw [hf]; exact k)
  rw [hq k] at this
  exact this

/-- The notices of an event that ends in u: the lists of u hold what the event owes, its places are those given, and its ports were as free as before it. -/
theorem noticesOffered_settle {asker : Option Sender} {places : Station → List Notice} {s u : State}
    {order : List DestId} (hp : order.Perm allDests)
    (hl : ∀ st : Station, (u.noticeQueue st).dests
      = if hears u st = true then order.foldl (fun l d => destNotice s u st d l) (s.noticeQueue st).dests
        else (s.noticeQueue st).dests)
    (hm : ∀ st : Station, (u.noticeQueue st).places = places st)
    (hf : ∀ st : Station, freeForNotice none u st = freeForNotice asker s st)
    (hq : ∀ st : Station, freeForNotice asker s st = true → (u.noticeQueue st).seq = (s.noticeQueue st).seq) :
    NoticesOffered asker places s (settle u) := by
  refine ⟨order, hp, fun st => ?_⟩
  have h := (settle_leaves st u).since (hf st) (hq st)
  rw [hl st, hm st] at h
  have e : ∀ d l, destNotice s (settle u) st d l = destNotice s u st d l := fun d l => by
    unfold destNotice; rw [settle_dest]
  simpa only [hears_settle, e] using h

/-- The port of the sender that asks is not free for a notice, and each other port is as free as before (R164). -/
theorem freeForNotice_queueReply (q : Sender) (tag kind : Byte) (a : Answer) (s : State) (st : Station)
    (h : a.state.links = (greeted q s).links) :
    freeForNotice none (queueReply q tag kind a) st = freeForNotice (some q) s st := by
  by_cases e : q = .station st
  · subst e; simp [freeForNotice, queueReply]
  · have e' : Sender.station st ≠ q := fun k => e k.symm
    have n : (some q != some (Sender.station st)) = true := by simpa using e
    have n' : ((none : Option Sender) != some (Sender.station st)) = true := by simp
    have hk : (queueReply q tag kind a).link (.station st) = s.link (.station st) := by
      rw [queueReply, modLink_link_ne _ _ _ _ e', ← greeted_link_ne q _ s e']
      simp only [State.link, h]
    simp only [freeForNotice, hk, n, n']

/-- The notices of a served request whose owning block changes one destination's record, as CLAIM, OPEN, CLOSE, SET-SLOTS and CLEAR-FULL do (R114). -/
theorem destNotices_changeDest (q : Sender) (tag kind : Byte) (d : DestId) (f : Dest → Dest) (s : State)
    (status : Status) (result : List Byte)
    (ho : (s.dest d).owner = none ∨ (f (s.dest d)).owner = (s.dest d).owner) :
    DestNotices (some q) s (settle (queueReply q tag kind ⟨changeDest d f (greeted q s), status, result⟩)) := by
  have hk : (changeDest d f (greeted q s)).links = (greeted q s).links :=
    links_of_kept (changeDest_kept d f (greeted q s))
  have hn : ∀ st : Station, (queueReply q tag kind ⟨changeDest d f (greeted q s), status, result⟩).noticeQueue st
      = (changeDest d f (greeted q s)).noticeQueue st := fun st => by simp only [State.noticeQueue, queueReply_notices]
  have hh : ∀ st : Station, hears (queueReply q tag kind ⟨changeDest d f (greeted q s), status, result⟩) st
      = hears (greeted q s) st := fun st => by
    unfold hears queueReply
    have : ∀ x : Sender, (changeDest d f (greeted q s)).link x = (greeted q s).link x := fun x => by
      simp only [State.link, hk]
    rw [modLink_link]
    split <;> simp [this]
    next e => rw [e]
  refine noticesOffered_settle (order := allDests) (List.Perm.refl _) (fun st => ?_) (fun st => ?_)
    (fun st => freeForNotice_queueReply q tag kind _ s st hk) (fun st _ => ?_)
  · rw [hn, hh, changeDest_offers d f (greeted q s) st (by simpa using ho)]
    simp only [greeted_noticeQueue]
    have e : ∀ x l, destNotice (greeted q s) (changeDest d f (greeted q s)) st x l
        = destNotice s (queueReply q tag kind ⟨changeDest d f (greeted q s), status, result⟩) st x l := fun x l => by
      unfold destNotice; rw [queueReply_dest, greeted_dest]
    simp only [e]
  · rw [hn, changeDest_noticeQueue]; split <;> simp
  · rw [hn, changeDest_noticeQueue]; split <;> simp

end Sys2Proof.Machine
end

