-- ==== Sys2Proof/Laws/Receiver.lean ====
section
/-! SUPPORT. What the receivers do with items of the line: HUNT, the end of a bad frame, and re-examination. -/

namespace Sys2Proof.Machine

/-- A receiver in HUNT passes over every byte but the sync. -/
theorem stepByte_hunting (gap : Option Nat) (p : Port) (b : Byte) (s : State) (h : (s.receiver p).kept = none)
    (hb : b ≠ syncByte) : stepByte gap p b s = (s, []) := by
  unfold stepByte; rw [h]; simp [hb]

/-- The sync starts a frame. -/
theorem stepByte_sync (gap : Option Nat) (p : Port) (s : State) (h : (s.receiver p).kept = none) :
    stepByte gap p syncByte s = (s.modReceiver p fun _ => ⟨some [], gap⟩, []) := by
  unfold stepByte; rw [h]; simp

/-- A byte into a frame in progress: kept, taken with the good frame it ends, or re-examined with the bad one it ends. -/
theorem stepByte_inFrame (gap : Option Nat) (p : Port) (b : Byte) (s : State) (l : List Byte)
    (h : (s.receiver p).kept = some l) :
    stepByte gap p b s = match assemble (l ++ [b]) with
      | .incomplete => (s.modReceiver p fun _ => ⟨some (l ++ [b]), gap⟩, [])
      | .good kind tag pl => (settleIdle (takeGoodFrame p kind tag pl (hunt p s)), [])
      | .bad => (discardFrame p s, asItems (l ++ [b])) := by
  cases ha : assemble (l ++ [b]) <;> simp only [stepByte, h, ha]

/-- A line error in HUNT is ignored (R158). -/
theorem stepError_hunting (p : Port) (s : State) (h : (s.receiver p).kept = none) : stepError p s = (s, []) := by
  unfold stepError; rw [h]

/-- A line error ends the frame in progress, and is re-examined last (R158, R159). -/
theorem stepError_inFrame (p : Port) (s : State) (l : List Byte) (h : (s.receiver p).kept = some l) :
    stepError p s = (discardFrame p s, asItems l ++ [.lineError]) := by
  unfold stepError; rw [h]

@[simp] theorem reexamine_nil (n : Nat) (p : Port) (s : State) : reexamine n p [] s = s := by
  cases n <;> rfl

@[simp] theorem reexamineAll_nil (p : Port) (s : State) : reexamineAll p [] s = s := reexamine_nil _ p s

/-- Re-examination in HUNT passes over everything up to a sync. -/
theorem reexamine_hunting (p : Port) (s : State) (h : (s.receiver p).kept = none) (rest : List LineItem) :
    ∀ (l : List LineItem) (n : Nat), l.length ≤ n → .byte syncByte ∉ l →
      reexamine n p (l ++ rest) s = reexamine (n - l.length) p rest s
  | [], n, _, _ => rfl
  | i :: l, 0, hn, _ => absurd hn (by simp)
  | i :: l, n + 1, hn, hi => by
    have hstep : stepItem none p s i = (s, []) := by
      cases i with
      | byte b => exact stepByte_hunting none p b s h fun hb => hi (by simp [hb])
      | lineError => exact stepError_hunting p s h
    have ih := reexamine_hunting p s h rest l n (by simpa using hn) fun hm => hi (List.mem_cons_of_mem _ hm)
    show reexamine n p ((stepItem none p s i).2 ++ (l ++ rest)) (stepItem none p s i).1 = _
    rw [hstep, List.nil_append, ih]
    simp

/-- Re-examination of what holds no sync changes nothing. -/
theorem reexamineAll_noSync (p : Port) (l : List LineItem) (s : State) (h : (s.receiver p).kept = none)
    (hl : .byte syncByte ∉ l) : reexamineAll p l s = s := by
  have hlen : l.length ≤ reexamineSteps l.length := by
    unfold reexamineSteps; nlinarith
  have := reexamine_hunting p s h [] l _ hlen hl
  rwa [List.append_nil, reexamine_nil] at this

/-- A discarded frame leaves its receiver in HUNT. -/
theorem discardFrame_receiver (p : Port) (s : State) : (discardFrame p s).receiver p = {} := by
  unfold discardFrame badOnPort hunt
  cases p <;> simp

/-- A discarded frame touches the receivers, the links and the counters alone. -/
theorem discardFrame_frame (p : Port) (s : State) : SameExcept [.receivers, .links, .counters] s (discardFrame p s) := by
  intro b hb
  unfold discardFrame badOnPort hunt
  cases p <;> cases b <;>
    first
      | (exact absurd hb (by decide))
      | rfl
      | exact ⟨rfl, rfl, rfl⟩
      | exact fun st => sameNotices_refl s st

/-- FRAMES_BAD of the port rises, and no other counter. -/
theorem discardFrame_raised (p : Port) (s : State) : Raised [.ofPort p .framesBad] s (discardFrame p s) := by
  have h := raised_raise (hunt p s) (.ofPort p .framesBad)
  cases p <;> exact h

/-- A frame without a sync that ends with no byte is discarded, and nothing more. -/
theorem endBad_noSync (p : Port) (s : State) (l : List Byte) (h : (s.receiver p).kept = some l) (hl : syncByte ∉ l) :
    endBad p s = discardFrame p s := by
  unfold endBad; rw [h]
  refine reexamineAll_noSync p _ _ (by rw [discardFrame_receiver]) ?_
  simpa [asItems] using hl

/-- A frame without a sync that a line error ends is discarded, and nothing more. -/
theorem putItem_lineError_noSync (p : Port) (s : State) (l : List Byte) (h : (s.receiver p).kept = some l)
    (hl : syncByte ∉ l) : putItem p s .lineError = discardFrame p s := by
  show reexamineAll p (stepError p s).2 (stepError p s).1 = _
  rw [stepError_inFrame p s l h]
  refine reexamineAll_noSync p _ _ (by rw [discardFrame_receiver]) ?_
  simpa [asItems] using hl

end Sys2Proof.Machine
end

