-- ==== Sys2Proof/Laws/Routing.lean ====
section
/-! SUPPORT. What a route decision reads and what it does. -/

namespace Sys2Proof.Machine

/-- Eligibility reads P, the destinations and the gates (R84). -/
theorem eligible_congr {s t : State} (hp : t.belt.p = s.belt.p) (hd : t.dests = s.dests) (hg : t.gates = s.gates)
    (e : Entry) (d : DestId) : eligible t e d = eligible s e d := by
  simp only [eligible, positionOk, State.dest, State.gate, hp, hd, hg]

/-- The search reads the lists beside (R86, R87). -/
theorem search_congr {s t : State} (hp : t.belt.p = s.belt.p) (hd : t.dests = s.dests) (hg : t.gates = s.gates)
    (hr : t.routes = s.routes) (e : Entry) (o : Option DestId) : search t e o = search s e o := by
  simp only [search, chosenList, State.cell, hr, eligible_congr hp hd hg]

/-- The winner of a search is eligible and is not the one left out. -/
theorem search_eligible {s : State} {e : Entry} {o : Option DestId} {d : DestId} (h : search s e o = some d) :
    o ≠ some d ∧ eligible s e d = true := by
  have key : ∀ l : List DestId, l.find? (fun d => some d != o && eligible s e d) = some d →
      o ≠ some d ∧ eligible s e d = true := fun l hl => by
    have := List.find?_some hl
    simp only [Bool.and_eq_true, bne_iff_ne] at this
    exact ⟨fun h => this.1 h.symm, this.2⟩
  unfold search at h
  rcases Option.or_eq_some_iff.mp h with h | ⟨-, h⟩
  · exact key _ h
  · exact key _ h

/-- An eligible destination carries no hold. -/
theorem eligible_holds {s : State} {e : Entry} {d : DestId} (h : eligible s e d = true) : (s.dest d).holds = {} := by
  simp only [eligible, Bool.and_eq_true, Holds.none, beq_iff_eq] at h
  tauto

/-- The decision assigns the winner of the search. -/
theorem decideRoute_winner {s : State} {r : EntryRef} {e : Entry} {o : Option DestId} {d : DestId}
    (hf : s.find r = some e) (h : search s e o = some d) : decideRoute r o s = assign r d s := by
  simp only [decideRoute, hf, h]

/-- The decision assigns the tail where the search has no winner. -/
theorem decideRoute_tail {s : State} {r : EntryRef} {e : Entry} {o : Option DestId}
    (hf : s.find r = some e) (h : search s e o = none) : decideRoute r o s = assignTail r s := by
  simp only [decideRoute, hf, h]

end Sys2Proof.Machine
end

