-- ==== Sys2Proof/Laws/Token.lean ====
section
/-! SUPPORT. What routing and a gate that goes OUT_OF_SERVICE do to the test token (R65, R67, R129, R135). -/

namespace Sys2Proof.Machine

/-! ### The map's list -/

@[simp] theorem updateEntry_length (r : EntryRef) (f : Entry → Entry) (l : List Entry) :
    (updateEntry r f l).length = l.length := by
  induction l with
  | nil => rfl
  | cons e l ih => unfold updateEntry; split <;> simp [ih]

/-- A change of an item's entry that keeps its tag is none of the token's. -/
theorem updateEntry_find_token (x : Tag) (f : Entry → Entry) (hf : ∀ e, (f e).tag = e.tag) (l : List Entry) :
    (updateEntry (.tag x) f l).find? (fun e => e.ref == .token) = l.find? fun e => e.ref == .token := by
  induction l with
  | nil => rfl
  | cons e l ih =>
    unfold updateEntry
    split
    · next h =>
      have h' : (f e).ref = .tag x := by rw [← h]; simp only [Entry.ref, hf]
      simp [h, h']
    · simp only [List.find?_cons, ih]

/-- An entry that is found and erased makes the list one shorter. -/
theorem eraseEntry_length (r : EntryRef) (l : List Entry) (h : (l.find? fun e => e.ref == r).isSome = true) :
    (eraseEntry r l).length + 1 = l.length := by
  induction l with
  | nil => simp at h
  | cons e l ih =>
    unfold eraseEntry
    split
    · simp
    · next k => simp only [List.find?_cons, beq_eq_false_iff_ne.mpr k] at h; simp [ih h]

/-- With names distinct, an entry that is erased is no longer found. -/
theorem eraseEntry_find (r : EntryRef) (l : List Entry) (h : (l.map Entry.ref).Nodup) :
    (eraseEntry r l).find? (fun e => e.ref == r) = none := by
  induction l with
  | nil => rfl
  | cons e l ih =>
    simp only [List.map_cons, List.nodup_cons, List.mem_map, not_exists, not_and] at h
    unfold eraseEntry
    split
    · next k => simp only [List.find?_eq_none, beq_iff_eq]; intro x hx hr; exact h.1 x hx (hr.trans k.symm)
    · next k => simp only [List.find?_cons, beq_eq_false_iff_ne.mpr k]; exact ih h.2

/-- An entry that is found bears the name. -/
theorem find_ref {s : State} {r : EntryRef} {e : Entry} (h : s.find r = some e) : e.ref = r := by
  have := List.find?_some h
  simpa using this

/-! ### Routing (R65) -/

/-- What there is of the token: its entry, how many entries the map holds with it, its record and the names of the map. -/
def tokenView (s : State) : Option Entry × Nat × TestRecord × List EntryRef :=
  (s.find .token, s.map.length, s.test, s.map.map Entry.ref)

theorem updateEntry_refs (r : EntryRef) (f : Entry → Entry) (hf : ∀ e, (f e).tag = e.tag) (l : List Entry) :
    (updateEntry r f l).map Entry.ref = l.map Entry.ref := by
  induction l with
  | nil => rfl
  | cons e l ih =>
    unfold updateEntry
    split
    · simp [Entry.ref, hf]
    · simp [ih]

/-- A change of an item's entry leaves the token alone. -/
theorem modEntry_tokenView (x : Tag) (f : Entry → Entry) (hf : ∀ e, (f e).tag = e.tag) (s : State) :
    tokenView (s.modEntry (.tag x) f) = tokenView s := by
  simp only [tokenView, modEntry_eq, State.find, State.withMap, updateEntry_find_token x f hf, updateEntry_length,
    updateEntry_refs _ f hf]

theorem changeDest_tokenView (d : DestId) (f : Dest → Dest) (s : State) :
    tokenView (changeDest d f s) = tokenView s := by
  unfold changeDest offerDest; dsimp only
  split
  · rfl
  · split
    · split <;> rfl
    · rfl
    · rfl

theorem unreserve_tokenView (d : DestId) (s : State) : tokenView (unreserve d s) = tokenView s := by
  unfold unreserve; dsimp only
  split
  · rw [changeDest_tokenView]; rfl
  · rfl

theorem decideRoute_tokenView (x : Tag) (o : Option DestId) (s : State) :
    tokenView (decideRoute (.tag x) o s) = tokenView s := by
  unfold decideRoute
  split
  · rfl
  · split
    · next d _ =>
      exact modEntry_tokenView x (fun e => { e with dest := some (.gateDest d), state := .routed }) (fun _ => rfl) s
    · exact modEntry_tokenView x (fun e => { e with dest := some .tail, state := .toTail }) (fun _ => rfl) s

/-- A reroute never moves the token (R65). -/
theorem reroute_tokenView (d : DestId) (r : EntryRef) (s : State) : tokenView (reroute d r s) = tokenView s := by
  unfold reroute
  split
  · rfl
  · next e he =>
    split
    · next h =>
      obtain ⟨x, hx⟩ : ∃ x, r = .tag x := by
        rw [← find_ref he]
        cases t : e.tag with
        | none => simp [Entry.isTest, t] at h
        | some x => exact ⟨x, by simp [Entry.ref, t]⟩
      subst hx
      have w : tokenView (withdraw (.tag x) d s) = tokenView s :=
        modEntry_tokenView x (fun e => { e with fireAt := none, late := false, state := .routed }) (fun _ => rfl)
          (leaveQueue (destGate d) (.tag x) s)
      have gb : ∀ u, tokenView (giveBack (.tag x) d u) = tokenView u := fun u => by
        rw [giveBack, unreserve_tokenView]; exact modEntry_tokenView x (fun e => { e with dest := none }) (fun _ => rfl) u
      have cr : ∀ u, tokenView (countReroute (.tag x) u) = tokenView u := fun u =>
        modEntry_tokenView x (fun e => { e with attempts := min (e.attempts + 1) 7 }) (fun _ => rfl) u
      split
      · rw [decideRoute_tokenView, cr, gb, w]
      · rw [decideRoute_tokenView, cr, gb, w]
      · rw [unreserve_tokenView]; exact modEntry_tokenView x (fun e => { e with dest := some .tail }) (fun _ => rfl) s
      · rfl
      · rfl
    · rfl

theorem cascade_tokenView (ds : List DestId) (s : State) : tokenView (cascade ds s) = tokenView s :=
  forEach_keeps tokenView _ (fun _ _ => reroute_tokenView _ _ _) _ s

theorem gainHold_tokenView (f : Holds → Holds) (d : DestId) (s : State) : tokenView (gainHold f d s) = tokenView s :=
  changeDest_tokenView d _ s

theorem syncConditions_tokenView (s : State) : tokenView (syncConditions s) = tokenView s := by
  simp [tokenView, State.find, syncConditions]

/-- No hold moves the token (R65). -/
theorem gainRerouting_tokenView (c : Holds → Bool) (f : Holds → Holds) (ds : List DestId) (s : State) :
    tokenView (gainRerouting c f ds s) = tokenView s := by
  simp only [gainRerouting, cascade_tokenView, syncConditions_tokenView]
  exact forEach_keeps tokenView _ (fun _ _ => gainHold_tokenView _ _ _) _ s

/-! ### The token's end, and a gate that goes out (R67, R129, R135) -/

/-- A token in the map leaves it with the result and the TEST_DONE latch (R135). -/
theorem endToken_ends (x : TestResult) (s : State) (h : (s.find .token).isSome = true) :
    (endToken x s).test = { s.test with result := x } ∧ (endToken x s).bank.latches.getLsbD 12 = true
      ∧ (endToken x s).map.length + 1 = s.map.length
      ∧ ((s.map.map Entry.ref).Nodup → (endToken x s).find .token = none) := by
  unfold endToken
  cases hf : s.find .token with
  | none => simp [hf] at h
  | some e =>
    have hl := eraseEntry_length .token s.map h
    dsimp only
    cases hg : e.gate? <;>
      refine ⟨rfl, ?_, hl, fun hn => eraseEntry_find .token s.map hn⟩ <;>
      simp [latchTestDone, testDoneBit]

/-- The test of the meaning is the words of the statements. -/
theorem tokenUnfired_iff (g : GateId) (s : State) :
    tokenUnfired g s = true ↔ ∃ e, s.find .token = some e ∧ UnfiredAt (fun x => x = g) s e := by
  unfold tokenUnfired UnfiredAt
  cases s.find .token with
  | none => simp
  | some e => simp

/-- A gate that goes out ends the token that is bound for it and has not fired, with ABORTED, and leaves any other as it is (R67, R129 step 4). -/
theorem gateOut_token (g : GateId) (s : State) :
    (tokenUnfired g s = true →
      (gateOut g s).test = { s.test with result := .aborted } ∧ (gateOut g s).bank.latches.getLsbD 12 = true
        ∧ (gateOut g s).map.length + 1 = s.map.length
        ∧ ((s.map.map Entry.ref).Nodup → (gateOut g s).find .token = none))
    ∧ (tokenUnfired g s = false → tokenView (gateOut g s) = tokenView s) := by
  have hv : ∀ u : State, tokenView (gainRerouting Holds.gateOut setGateOut [gateDest g .left, gateDest g .right] u)
      = tokenView u := gainRerouting_tokenView _ _ _
  unfold gateOut
  refine ⟨fun h => ?_, fun h => ?_⟩
  · simp only [h, if_true]
    have v := hv (s.modGate g fun x => { x with service := .outOfService })
    simp only [tokenView, Prod.mk.injEq] at v
    have hs : (s.find .token).isSome = true := by
      unfold tokenUnfired at h; split at h
      · cases h
      · next e he => simp [he]
    have e := endToken_ends .aborted _ (by rw [v.1]; exact hs)
    rw [v.2.2.1, v.2.1, v.2.2.2] at e
    exact e
  · simp only [h, Bool.false_eq_true, if_false]
    exact hv (s.modGate g fun x => { x with service := .outOfService })

end Sys2Proof.Machine
end

