-- ==== Sys2Proof/Tests/Slice0.lean ====
section
/-! SUPPORT. Tests: the WellFormed smoke, the manual's worked examples, single steps on small states, and for each statement with hypotheses a state and operands that meet them. -/

namespace Sys2Proof.Tests

open Sys2Proof.Machine

-- One test at a time: each waits for the kernel, and many that wait at once would each hold a thread.
set_option Elab.async false

/-! ### WellFormed refuses each ill-formed term -/

theorem test_payload_of_49_bytes_refused :
    (Instr.claim (.sender .site) 0 (List.replicate 49 0)).wellFormed = false := by decide +kernel

theorem test_payload_of_48_bytes_accepted :
    (Instr.claim (.sender .site) 0 (List.replicate 48 0)).wellFormed = true := by decide +kernel

theorem test_unknown_kind_taken_on_its_port_refused :
    (Instr.unknownKind (.sender (.station 3)) 0x10#8 0 []).wellFormed = false := by decide

theorem test_unknown_kind_on_identifier_refused :
    (Instr.unknownKind .identifier 0x10#8 0 []).wellFormed = false := by decide

theorem test_site_kind_on_station_port_is_unknown :
    (Instr.unknownKind (.sender (.station 3)) 0x48#8 0 []).wellFormed = true := by decide

/-! ### Worked examples and tables -/

/-- The check byte of a HELLO with frame tag 05h. -/
theorem test_crc_of_hello : crc8 [0x02#8, 0x01#8, 0x05#8] = 0xD8#8 := by decide +kernel

theorem test_hello_on_the_line : (Frame.lineBytes ⟨0x01#8, 0x05#8, []⟩) = [0xC3#8, 2, 1, 5, 0xD8#8] := by decide +kernel

/-- R75: D6, D6, D2, D9, D10, D11 keeps D6, D2, D9, D10. -/
theorem test_kept_list : keptList [6, 6, 2, 9, 10, 11] = [6, 2, 9, 10] := by decide

/-- R3: 204 counts are 4080, 205 saturate. -/
theorem test_samples : speedSample 204 = 4080 ∧ speedSample 205 = 4095 ∧ saturates 204 = false ∧ saturates 205 = true := by
  decide

/-- R121: lead rounded half up, spacing rounded up. -/
theorem test_lead_and_spacing : rawLead 1000 60 = 60 ∧ rawLead 25 60 = 2 ∧ spacing 1000 250 = 250 ∧ spacing 1 250 = 1 := by
  decide

/-- R2: P has reached X up to half the circle behind it. -/
theorem test_reached : reached 5 5 = true ∧ reached 5 6 = false ∧ reached 2 0xFFFFFE = true ∧ reached 0x800000 0 = false := by
  decide

theorem test_kind_codes_distinct : (Kind.all.map Kind.code).Nodup ∧ Kind.all.length = 36 := by decide

theorem test_no_word_spells_a_command : decodeTableWord 32 0 = none := rfl

/-! ### Single steps -/

/-- The queue's front is taken. -/
theorem test_step_takes_front :
    step { ({} : State) with pending := [.powerOnReset, .encoderPulse] }
      = .next { ({} : State) with inReset := true, pending := [.encoderPulse] } := rfl

/-- A part in reset counts nothing. -/
theorem test_reset_stands_still : step { ({} : State) with inReset := true } = .next { ({} : State) with inReset := true } := rfl

/-- The state a command leaves. -/
def after (i : Instr) (s : State) : State :=
  match exec i s with
  | .next t => t
  | .fault _ => s
  | .refused _ => s

/-- A pulse on a running belt moves P and s, and on a stopped one nothing. -/
theorem test_pulse :
    (after .encoderPulse { ({} : State) with belt := { state := .running, p := 0xFFFFFF } }).belt.p = 0
      ∧ (after .encoderPulse { ({} : State) with belt := { state := .running } }).belt.windowCount = 1
      ∧ (after .encoderPulse { ({} : State) with belt := { state := .stopped } }).belt.p = 0 := by
  decide +kernel

/-- Three HELLOs train a link, and the reply of the first goes straight to the line. -/
theorem test_training :
    let s := after (.hello (.sender .site) 3 []) (after (.hello (.sender .site) 2 []) (after (.hello (.sender .site) 1 []) {}))
    (s.link .site).state = .active ∧ (s.link .site).replies.length = 2
      ∧ (s.link .site).sending = some ⟨⟨0x80#8, 1, [0x01#8, 0, 6, 0x02#8, 0x64#8, 0x01#8, 1]⟩, 2⟩ := by
  decide +kernel

/-- A bad check byte ends a frame as bad; the good HELLO behind it is taken. -/
theorem test_bad_frame_then_good :
    let s := after (.badFrame (.sender .site)
      ([0xC3#8, 2, 1, 5, 0, 0xC3#8, 2, 1, 5, 0xD8#8].map LineItem.byte)) {}
    s.counter (.ofPort (.sender .site) .framesBad) = 1 ∧ s.counter (.ofPort (.sender .site) .framesGood) = 1
      ∧ (s.link .site).state = .align := by
  decide +kernel

/-- A TEST-FIRE and a SET-BELT of idle time 1 s found behind one bad frame: the token takes the idle timer to 0 before the new idle time is compared (R9). -/
theorem test_token_ends_idling_within_an_event :
    let good (k : Kind) (tag : Byte) (pl : List Byte) : List Byte := Frame.lineBytes ⟨k.code, tag, pl⟩
    let s := after (.badFrame (.sender .site)
      (([0xC3#8, 2, 1, 5, 0] ++ good .testFire 1 [2, 0] ++ good .setBelt 2 (setBeltBytes { idleTime := 1 })).map LineItem.byte))
      (({ belt := { state := .running, motor := true, idleMs := 5000 } } : State).modGate 2 (fun g => { g with configured := true })
        |>.modLink .site fun k => { k with state := .active })
    s.map.length = 1 ∧ s.settings.idleTime = 1 ∧ s.belt.state = .running ∧ s.belt.idleMs = 0 := by
  decide +kernel

/-- A station that asks for a pattern before its link is trained reads its counts with the refusal (R38). -/
theorem test_turned_away_with_counts :
    let s := after (.registerPattern (.sender (.station 2)) 7 [0, 9, 1])
      { patterns := [⟨4, 2, true⟩, ⟨5, 2, false⟩, ⟨6, 1, true⟩] }
    (s.link (.station 2)).sending = some ⟨⟨0x80#8, 7, [0x28#8, 0x11#8, 2, 1]⟩, 1⟩ := by decide +kernel

/-- A WRITE-ROUTE before the link is trained reads its kept list with the refusal (R75). -/
theorem test_turned_away_with_kept_list :
    let s := after (.writeRoute (.sender (.station 2)) 7 [3, 4, 6, 6, 2, 9]) {}
    (s.link (.station 2)).sending = some ⟨⟨0x80#8, 7, [0x20#8, 0x11#8, 3, 6, 2, 9]⟩, 1⟩
      ∧ s.routes = {} := by decide +kernel

/-! ### States for the witnesses -/

/-- The site's and station S2's links are ACTIVE. -/
def trained : State :=
  (({} : State).modLink .site fun k => { k with state := .active }).modLink (.station 2) fun k => { k with state := .quiet }

/-- The same with the belt running. -/
def working : State := { trained with belt := { state := .running, motor := true } }

/-- D4 is open under S2, with three places free. -/
def opened4 : State := working.modDest 4 fun _ =>
  { configured := true, classes := 0x3FFF, eligible := 0x7F, owner := some (.station 2), state := .opened, free := 3 }

/-- An item. -/
def item (x : Tag) (st : EntryState) (dest : Option Target) : Entry :=
  { tag := some x, r := 0, length := some 100, cls := some 3, owner := some (.outlet 2), dest := dest, state := st }

/-- The token at gate 2's left side. -/
def token (st : EntryState) : Entry := { tag := none, r := 0, length := some 0, dest := some (.gateDest 4), state := st }

/-- An awaiting-confirm record with so many ms left. -/
def waits (x : Tag) (ms : Nat) : Awaiting := ⟨x, 3, .outlet 2, ms⟩

/-- A state with those links is served on both ports. -/
theorem served_of (s : State) (h : s.links = trained.links) (hr : s.inReset = false) :
    Served s .site ∧ Served s (.station 2) := by
  have e : ∀ q, s.link q = trained.link q := fun q => by simp [State.link, h]
  refine ⟨⟨hr, ?_⟩, ⟨hr, ?_⟩⟩ <;> rw [e] <;> decide +kernel

theorem commissioned_site : ServedCommissioned opened4 .site := by
  unfold ServedCommissioned Served; decide +kernel

theorem commissioned_station : ServedCommissioned opened4 (.station 2) := by
  unfold ServedCommissioned Served; decide +kernel

theorem opened4_map : MapLaw opened4 := by unfold MapLaw; decide +kernel

theorem opened4_patterns : PatternLaw opened4 := by unfold PatternLaw; decide +kernel

theorem opened4_owners : OwnerLaw opened4 := by unfold OwnerLaw; decide +kernel

theorem opened4_routes : RouteLaw opened4 := by
  have hb : ∀ d, boundFor opened4 d = [] := fun _ => rfl
  refine ⟨opened4_map, ?_, ?_, ?_, opened4_owners, ?_⟩
  · intro e he; cases he
  · unfold ReservationLaw; decide +kernel
  · intro d _; exact hb d
  · intro d e he; rw [hb d] at he; cases he

/-- An item bound for D4. -/
def item5 : Entry := item 5 .routed (some (.gateDest 4))

/-- The same with the item in the map and its reservation. -/
def holding : State := { (opened4.modDest 4 fun r => { r with reserved := 1 }) with map := [item5] }

/-- The route laws of a state whose map holds that item alone. -/
theorem holding_routes (s : State) (hm : s.map = [item5]) (hs : (s.dest 4).owner = some (.station 2)) (hr : ReservationLaw s)
    (hl : ReleasingLaw s) (ho : OwnerLaw s) : RouteLaw s := by
  refine ⟨?_, ?_, hr, hl, ho, ?_⟩
  · unfold MapLaw; rw [hm]; decide
  · intro e he
    rw [hm, List.mem_singleton] at he
    subst he
    exact ⟨⟨4, rfl⟩, by decide, by decide⟩
  · intro d e he
    simp only [boundFor, hm, List.mem_filter, List.mem_singleton, Bool.and_eq_true, decide_eq_true_eq] at he
    obtain ⟨rfl, hd, -⟩ := he
    have h4 : d = 4 := by
      have : some (Target.gateDest 4) = some (Target.gateDest d) := hd
      injection this with this
      injection this with this
      exact this.symm
    subst h4
    rw [hs]
    rfl

/-! ### Hypotheses that are met: steps, reset, belt -/

theorem meets_StepTakesFrontCommand : ∃ (c : Instr) (rest : List Instr) (s : State), s.pending = c :: rest :=
  ⟨.encoderPulse, [], { pending := [.encoderPulse] }, rfl⟩

/-- An empty queue with nothing due, and with a window end, a confirm window, a link and a frame gap due. -/
theorem meets_StepOnEmptyQueue :
    (({} : State).pending = [] ∧ dueEvents {} = [] ∧ ({} : State).inReset = false)
    ∧ (let s : State := ((opened4.modDest 4 fun r => { r with awaiting := [waits 5 0] }).modLink .site
          fun k => { k with silenceMs := 1000 }).modReceiver .identifier fun _ => { kept := some [4], gapMs := some 6 }
       s.pending = [] ∧ s.inReset = false ∧ (s.dest 4).awaiting = [waits 5 0] ∧ (s.link .site).state = .active
         ∧ (s.link .site).silenceMs = 1000 ∧ s.receiver .identifier = { kept := some [4], gapMs := some 6 })
    ∧ (({ belt := { windowMs := 50 } } : State).belt.windowMs = 50)
    ∧ ({ inReset := true } : State).inReset = true := by decide +kernel

theorem meets_EveryCommandCompletes : ∃ (c : Instr) (s : State),
    s.inReset = true ∧ c ≠ .powerOnReset ∧ c ≠ .resetPin ∧ c ≠ .resetRelease :=
  ⟨.encoderPulse, { inReset := true }, by decide⟩

theorem meets_ResetSets : ∃ c : Instr, c = .powerOnReset ∨ c = .resetPin := ⟨.resetPin, Or.inr rfl⟩

theorem meets_ReleaseStartsFromEyes : ∃ s : State, s.inReset = true := ⟨{ inReset := true }, rfl⟩

/-- Both belt states, and a window count at either side of the end of its range. -/
theorem meets_PulseAdvancesRunningBelt : ∃ s t u : State,
    (s.inReset = false ∧ s.belt.state = .running ∧ s.belt.windowCount = 0xFFFE#16)
      ∧ (t.inReset = false ∧ t.belt.state = .running ∧ t.belt.windowCount = 0xFFFF#16)
      ∧ u.inReset = false ∧ u.belt.state ≠ .running :=
  ⟨{ belt := { state := .running, windowCount := 0xFFFE } }, { belt := { state := .running, windowCount := 0xFFFF } }, {},
    by decide +kernel⟩

/-- Any window count but 0 (204 and 205 among them), OVERSPEED clear and set, any clean-window count, the guard elapsed and running. -/
theorem meets_WindowEndUpdatesSpeed (n : Word16) (hn : n ≠ 0) (o : Bool) (c : Nat) (g : Option Nat) : ∃ s : State,
    s.inReset = false ∧ s.belt.windowMs = 50 ∧ s.belt.zeroWindows = 7 ∧ s.belt.windowCount ≠ 0 ∧ s.belt.windowCount = n
      ∧ s.belt.overspeed = o ∧ s.belt.cleanWindows = c ∧ s.belt.runGuard = g ∧ s.belt.state = .running :=
  ⟨{ belt := { state := .running, windowMs := 50, windowCount := n, overspeed := o, cleanWindows := c, runGuard := g,
               zeroWindows := 7 } }, rfl, rfl, rfl, hn, rfl, rfl, rfl, rfl, rfl⟩

/-- A loss with an open capture, one with a committed capture, and one with a token that waits. -/
theorem meets_EighthZeroWindowLosesEncoder :
    ∀ c ∈ [Capture.opened 7, .committed 7 3 true], ∀ x ∈ [EntryState.routed, .armed],
      let s : State := ({ belt := { state := .running, windowMs := 50, zeroWindows := 7 }, reader := { capture := c }
                          map := [token x] } : State).modGate 2 fun g => { g with queue := [.token] }
      s.inReset = false ∧ 50 ≤ s.belt.windowMs ∧ s.belt.state = .running ∧ s.belt.runGuard = none
        ∧ s.belt.windowCount = 0 ∧ s.belt.zeroWindows = 7 ∧ s.find .token = some (token x)
        ∧ (token x).dest = some (.gateDest 4)
        ∧ ((token x).state = .routed ∨ .token ∈ (s.gate (destGate 4)).queue) := by decide +kernel

theorem meets_BeltTimersAndFilters :
    (∃ s : State, s.inReset = false ∧ s.belt.runGuard = some 1000)
      ∧ (∃ s : State, s.inReset = false ∧ s.belt.state = .running ∧ s.settings.idleTime ≠ 0
          ∧ 1000 * s.settings.idleTime = s.belt.idleMs)
      ∧ (∃ s : State, s.inReset = false ∧ s.belt.state = .idleStopped ∧ s.pins.infeedEye = true ∧ s.belt.infeedMs = 50)
      ∧ ∀ b : Bool, ∃ s : State, s.inReset = false ∧ s.pins.infeedEye = !b ∧ s.pins.tailFull = !b :=
  ⟨⟨{ belt := { runGuard := some 1000 } }, by decide⟩, ⟨{ belt := { state := .running, idleMs := 180000 } }, by decide⟩,
    ⟨{ belt := { state := .idleStopped, infeedMs := 50 }, pins := { infeedEye := true } }, by decide⟩,
    fun b => ⟨{ pins := { infeedEye := !b, tailFull := !b } }, rfl, rfl, rfl⟩⟩

theorem meets_StopChainHaltsBelt : ∀ b : BeltState, ∃ s : State,
    s.inReset = false ∧ s.pins.chainOpen = false ∧ s.belt.state = b := fun b => ⟨{ belt := { state := b } }, rfl, rfl, rfl⟩

/-- The eighth zero window with the token ROUTED, in its fire queue, and fired. -/
theorem meets_EncoderLossAndToken : ∀ x ∈ [(EntryState.routed, ([] : List EntryRef)), (.armed, [.token]), (.armed, [])],
    let s : State := ({ belt := { state := .running, zeroWindows := 7, windowMs := 50 }, map := [item 5 .toTail (some .tail), token x.1] } :
      State).modGate 2 fun g => { g with queue := x.2 }
    s.inReset = false ∧ s.belt.runGuard = none ∧ s.belt.windowCount = 0 ∧ s.find .token = some (token x.1)
      ∧ (token x.1).dest = some (.gateDest 4) ∧ (s.gate (destGate 4)).queue = x.2
      ∧ (s.map.length ≤ 64 ∧ (s.map.map Entry.ref).Nodup) := by decide +kernel

theorem meets_TailFullLevelMovesBelt : ∀ b : BeltState, b ≠ .unconfigured →
    (∃ s : State, s.inReset = false ∧ s.belt.state ≠ .unconfigured ∧ s.belt.state = b ∧ s.pins.tailFull = true
      ∧ s.belt.tailFull = false ∧ s.belt.tailMs = 50)
    ∧ ∃ s : State, s.inReset = false ∧ s.belt.state ≠ .unconfigured ∧ s.belt.state = b ∧ s.pins.tailFull = false
      ∧ s.belt.tailFull = true ∧ s.belt.tailMs = 2000 := fun b h =>
  ⟨⟨{ belt := { state := b, tailMs := 50 }, pins := { tailFull := true } }, rfl, h, rfl, rfl, rfl, rfl⟩,
    ⟨{ belt := { state := b, tailMs := 2000, tailFull := true } }, rfl, h, rfl, rfl, rfl, rfl⟩⟩

/-- In every belt state, with the stop chain either way. -/
theorem meets_StartAndStop : ∀ (b : BeltState) (c : Bool), ∃ s : State,
    Served s .site ∧ s.belt.state = b ∧ s.pins.chainOpen = c := fun b c =>
  ⟨{ trained with belt := { state := b }, pins := { chainOpen := c } }, (served_of _ rfl rfl).1, rfl, rfl⟩

/-- In every belt state, with every set of causes. -/
theorem meets_ResumeClearsWholeSet : ∀ (b : BeltState) (c : Causes), ∃ s : State,
    Served s .site ∧ MapLaw s ∧ s.belt.state = b ∧ s.belt.causes = c := fun b c =>
  ⟨{ trained with belt := { state := b, causes := c } }, (served_of _ rfl rfl).1, ⟨Nat.zero_le _, List.nodup_nil⟩, rfl, rfl⟩

/-- After an encoder loss, with a SUSPECT entry bound for a DRAINING destination and one bound for the tail. -/
theorem meets_ResumeDiscardsSuspects :
    let s : State := ({ opened4 with
        belt := { state := .halted, causes := { encoderLoss := true } }
        map := [item 5 .suspect (some (.gateDest 4)), item 6 .suspect (some .tail)] } : State).modDest 4
      fun r => { r with state := .draining, reserved := 1 }
    Served s .site ∧ (s.map.length ≤ 64 ∧ (s.map.map Entry.ref).Nodup) ∧ s.belt.state = .halted
      ∧ s.belt.causes.tailFull = false ∧ s.belt.causes.stopChain = false ∧ (s.dest 4).state = .draining
      ∧ (s.dest 4).reserved = 1 := by unfold Served; decide +kernel

/-! ### Read point, identity, map -/

/-- Blockages of 7 and 8 counts, a committed capture with and without its entry, and CLEAR_WAIT. -/
theorem meets_ReadEyeMovesCapture :
    (∀ c ∈ [Capture.ready, .clearWait (some 4)], ∃ s : State,
      s.inReset = false ∧ s.pins.readEye = false ∧ s.reader.capture = c)
    ∧ (∀ n ∈ [(7 : Pos), 8], ∃ s : State, s.inReset = false ∧ s.pins.readEye = true ∧ s.reader.capture = .opened 0
        ∧ (s.belt.p - 0).toNat = n.toNat)
    ∧ (∃ s : State, s.inReset = false ∧ s.pins.readEye = true ∧ s.reader.capture = .committed 0 5 true
        ∧ s.find (.tag 5) = some (item 5 .pending none) ∧ (item 5 .pending none).state ≠ .suspect)
    ∧ (∃ s : State, s.inReset = false ∧ s.pins.readEye = true ∧ s.reader.capture = .committed 0 5 false)
    ∧ ∃ s : State, s.inReset = false ∧ s.pins.readEye = true ∧ s.reader.capture = .clearWait none := by
  refine ⟨fun c _ => ⟨{ reader := { capture := c } }, rfl, rfl, rfl⟩, fun n _ =>
    ⟨{ belt := { p := n }, pins := { readEye := true }, reader := { capture := .opened 0 } }, rfl, rfl, rfl, by simp⟩, ?_, ?_, ?_⟩
  · exact ⟨{ pins := { readEye := true }, reader := { capture := .committed 0 5 true }, map := [item 5 .pending none] },
      by decide⟩
  · exact ⟨{ pins := { readEye := true }, reader := { capture := .committed 0 5 false } }, by decide⟩
  · exact ⟨{ pins := { readEye := true }, reader := { capture := .clearWait none } }, by decide⟩

/-- A clear of an OPEN capture of 8 counts with a free map, with the next tag live, and with 8 entries PENDING. -/
theorem meets_ReadEyeEndsOpenCapture :
    ∀ m ∈ [[], [item 1 .toTail (some .tail)], (List.range 8).map fun n => item (BitVec.ofNat 12 (n + 20)) .pending none],
    let s : State := { belt := { p := 8 }, pins := { readEye := true }, reader := { capture := .opened 0 }, map := m }
    s.inReset = false ∧ 8 ≤ (s.belt.p - 0).toNat ∧ s.map.length < 64 ∧ (s.map.length ≤ 64 ∧ (s.map.map Entry.ref).Nodup)
      ∧ (s.find (.tag (s.reader.tagCounter + 1)) ≠ none ↔ m.length = 1) ∧ ((pendingEntries s).length = 8 ↔ m.length = 8) := by
  decide +kernel

/-- At the commit distance, with a free map and with the next tag live. -/
theorem meets_CommitMakesPendingEntry : ∀ m ∈ [[], [item 1 .toTail (some .tail)]],
    let s : State := { belt := { p := 8 }, reader := { capture := .opened 0 }, map := m }
    s.inReset = false ∧ s.reader.capture = .opened 0 ∧ reached s.belt.p (0 + Machine.dist 8) = true := by decide

/-- The same with 8 entries PENDING. -/
theorem meets_CommitGivesUpOldest :
    let s : State := { belt := { p := 8 }, reader := { capture := .opened 0 }
                       map := item 9 .toTail (some .tail) :: (List.range 8).map fun n => item (BitVec.ofNat 12 (n + 20)) .pending none }
    s.inReset = false ∧ reached s.belt.p (0 + Machine.dist 8) = true ∧ s.map.length < 64
      ∧ s.find (.tag (s.reader.tagCounter + 1)) = none ∧ (pendingEntries s).length = 8
      ∧ (pendingEntries s).head? = some (item 20 .pending none)
      ∧ (s.map.length ≤ 64 ∧ (s.map.map Entry.ref).Nodup) := by decide +kernel

theorem meets_LongBlockageIsClamped :
    (∀ made : Bool, ∃ s : State, s.inReset = false ∧ s.reader.capture = .committed 0 5 made
      ∧ reached s.belt.p (0 + Machine.dist 1200) = true ∧ s.find (.tag 5) = some (item 5 .pending none))
    ∧ ∃ s : State, s.inReset = false ∧ s.reader.capture = .clearWait (some 0) ∧ s.pins.readEye = false
      ∧ reached s.belt.p (0 + Machine.dist 8) = true :=
  ⟨fun made => ⟨{ belt := { p := 1200 }, reader := { capture := .committed 0 5 made }, map := [item 5 .pending none] },
    rfl, rfl, (by decide : reached 1200 (0 + Machine.dist 1200) = true), rfl⟩, ⟨{ belt := { p := 8 }, reader := { capture := .clearWait (some 0) } }, by decide⟩⟩

/-- A report that nothing answers, and one for the oldest PENDING entry, with no code, an absent and a held one. -/
theorem meets_ItemReportIsMatchedOrCounted :
    (∃ s : State, s.inReset = false ∧ (pendingEntries s).find? (hasSeq (byteAt [5, 3, 0, 60, 0, 0] 0)) = none)
    ∧ ∃ s : State, s.inReset = false ∧ MapLaw s ∧ pendingEntries s = [item 5 .pending none]
      ∧ hasSeq (byteAt [5, 3, 0, 60, 0, 9] 0) (item 5 .pending none) = true
      ∧ patternOf (BitVec.ofNat 16 (wordAt [5, 3, 0, 60, 0, 9] 4)) s.patterns = some ⟨9, 2, false⟩
      ∧ patternOf (BitVec.ofNat 16 (wordAt [5, 3, 0, 60, 0, 8] 4)) s.patterns = none :=
  ⟨⟨{}, by decide⟩, ⟨{ map := [item 5 .pending none], patterns := [⟨9, 2, false⟩] }, rfl, by unfold MapLaw; decide, by decide⟩⟩

/-- A report for the third PENDING entry, behind two older ones. -/
theorem meets_ItemReportGivesUpOlder :
    let s : State := { map := [item 3 .pending none, item 4 .pending none, item 5 .pending none, item 6 .pending none] }
    s.inReset = false ∧ (s.map.length ≤ 64 ∧ (s.map.map Entry.ref).Nodup)
      ∧ pendingEntries s = [item 3 .pending none, item 4 .pending none] ++ item 5 .pending none :: [item 6 .pending none]
      ∧ (∀ x ∈ [item 3 .pending none, item 4 .pending none], hasSeq (byteAt [5, 3, 0, 60, 0, 0] 0) x = false)
      ∧ hasSeq (byteAt [5, 3, 0, 60, 0, 0] 0) (item 5 .pending none) = true := by decide +kernel

theorem meets_IdWindowAndSilence :
    (∃ s : State, s.inReset = false ∧ s.find (.tag 5) = some (item 5 .pending none) ∧ (item 5 .pending none).state = .pending
      ∧ reached s.belt.p ((item 5 .pending none).r + Machine.dist s.settings.w) = true)
    ∧ ∃ s : State, s.inReset = false ∧ s.matcher.silenceMs = 2000 ∧ s.matcher.silent = false :=
  ⟨⟨{ belt := { p := 800 }, map := [item 5 .pending none] }, by decide⟩, ⟨{ matcher := { silenceMs := 2000 } }, by decide⟩⟩

/-- A search that finds D4 in the overflow list, one that finds it in the cell behind a member that is not eligible, and one that finds nothing; a broken item and a sound one. -/
theorem meets_DecisionTakesEligibleMember :
    let s : State := { (opened4.modGate 2 fun g => { g with configured := true }) with routes := { overflow := [4] } }
    let u : State := { s with routes := { cells := Vector.replicate 98 [7, 4] } }
    search s (item 5 .routed none) none = some 4 ∧ search s (item 5 .routed none) (some 4) = none
      ∧ search u (item 5 .routed none) none = some 4 ∧ u.cell 3 (.outlet 2) = [7, 4] ∧ eligible u (item 5 .routed none) 7 = false
      ∧ ({ item 5 .routed none with broken := true } : Entry).broken = true ∧ (item 5 .routed none).broken = false
      ∧ { holding with map := [item5] }.find (.tag 5) = some item5 := by decide +kernel

/-! ### Route table -/

theorem meets_StationWritesItsCell : ServedCommissioned opened4 (.station 2) ∧ ([4, 4, 23] : List Byte).length < 40 :=
  ⟨commissioned_station, by decide⟩

/-- A list of two and one with a member out of range, before and after COMMISSION, and the register numbers of the reads. -/
theorem meets_SiteLoadsListsAndReadsThem :
    (∃ s : State, Served s .site ∧ s.belt.state = .unconfigured) ∧ Served opened4 .site
      ∧ opened4.belt.state ≠ .unconfigured ∧ ([0, 23] : List Byte).length < 40
      ∧ (∀ b ∈ ([0, 23] : List Byte), ¬ 24 ≤ b.toNat) ∧ (∃ b ∈ ([0, 24] : List Byte), 24 ≤ b.toNat)
      ∧ (opened4.gate (destGate 23)).configured = false ∧ (opened4.dest 23).owner ≠ some .site
      ∧ ServedCommissioned opened4 (.station 2) ∧ inRange? 14 (13 : Byte).toNat = some 13
      ∧ inRange? 14 (14 : Byte).toNat = none ∧ 2 < (3 : Byte).toNat :=
  ⟨⟨{ trained with belt := {} }, (served_of _ rfl rfl).1, rfl⟩, commissioned_site.1, by decide, by decide, by decide, by decide,
    by decide +kernel, by decide +kernel, commissioned_station, by decide, by decide, by decide⟩

/-! ### Gates -/

/-- At the arming point an item and the token, with the queue empty, with one in it and with four in it. -/
theorem meets_ArmingFixesFirePosition : ∀ e ∈ [item 5 .routed (some (.gateDest 4)), token .routed],
    ∀ q ∈ [[], [EntryRef.tag 1], [.tag 1, .tag 2, .tag 3, .tag 4]],
    let s : State := ({ belt := { p := 1650 }, map := [e] } : State).modGate 2 fun g => { g with queue := q }
    s.inReset = false ∧ s.find e.ref = some e ∧ e.state = .routed ∧ e.dest = some (.gateDest 4)
      ∧ e.length = some (e.length.getD 0)
      ∧ reached s.belt.p (armingPoint e.r (s.gate (destGate 4)) (e.length.getD 0)) = true
      ∧ e.ref ∉ (s.gate (destGate 4)).queue ∧ (s.gate (destGate 4)).cycle = none
      ∧ (s.map.length ≤ 64 ∧ (s.map.map Entry.ref).Nodup)
      ∧ (q.length = 1 ∨ armingRefused s (destGate 4) 2000 = decide (q.length = 4)) := by decide +kernel

/-- Gate 2 in a cycle, with an empty queue and that last fired F. -/
def cycling (last : Pos) : State := ({ belt := { v := 1000 } } : State).modGate 2 fun g =>
  { g with cycle := some ⟨.left, 9, 0⟩, lastFired := some last }

/-- A cycling gate with an empty queue refuses F = 2000 at a last fired F of 1999, and takes it at 1000. -/
theorem meets_ArmingAtCyclingGate :
    ((cycling 1999).gate 2).queue = [] ∧ ((cycling 1999).gate 2).cycle ≠ none
      ∧ ((cycling 1999).gate 2).lastFired = some 1999 ∧ ((2000 : Pos) - 1999).toNat < 8388608
      ∧ armingRefused (cycling 1999) 2 2000 = true ∧ armingRefused (cycling 1000) 2 2000 = false := by decide +kernel

/-- Three ARMED entries in the fire queue of a cycling gate 2, at F = 100, 300 and 300. -/
def queued : State :=
  let armed (x : Tag) (f : Pos) : Entry := { item x .armed (some (.gateDest 4)) with fireAt := some f }
  ({ belt := { v := 400 }, map := [armed 6 300, armed 7 100, armed 8 300] } : State).modGate 2 fun g =>
    { g with queue := [.tag 7, .tag 6, .tag 8], cycle := some ⟨.left, 9, 0⟩, lastFired := some 50 }

/-- A new F at the head, between, on an F that is queued, and at the end, with S = 100: each place, and whether it is refused. -/
theorem meets_ArmingBetweenQueued :
    (queued.gate 2).queue = ([(.tag 7, 100), (.tag 6, 300), (.tag 8, 300)] : List (EntryRef × Pos)).map Prod.fst
      ∧ (∀ x ∈ ([(.tag 7, 100), (.tag 6, 300), (.tag 8, 300)] : List (EntryRef × Pos)), fireAtOf queued x.1 = some x.2)
      ∧ (queuePlace queued 2 99 = 0 ∧ queuePlace queued 2 200 = 1 ∧ queuePlace queued 2 300 = 3 ∧ queuePlace queued 2 400 = 3)
      ∧ armingRefused queued 2 99 = true ∧ armingRefused queued 2 200 = false ∧ armingRefused queued 2 201 = true
      ∧ armingRefused queued 2 300 = true ∧ armingRefused queued 2 399 = true ∧ armingRefused queued 2 400 = false := by
  decide +kernel

/-- A queue in fire order, on a part whose steps may come. -/
theorem meets_FireLaw : MapLaw queued ∧ FireLaw queued ∧ FiresInTime queued ∧ queued.pending = [] := by
  have others : ∀ g : GateId, g ≠ 2 → (queued.gate g).queue = [] := by decide +kernel
  have queue2 : (queued.gate 2).queue = [.tag 7, .tag 6, .tag 8] := by decide +kernel
  have order : [EntryRef.tag 7, .tag 6, .tag 8].Pairwise fun x y => fireAhead queued x ≤ fireAhead queued y := by
    decide +kernel
  refine ⟨by unfold MapLaw; decide +kernel, fun g => ?_, fun g r hr x hx => ?_, rfl⟩
  · by_cases hg : g = 2
    · subst hg
      rw [queue2]
      refine ⟨by decide, fun r hr => ?_, order⟩
      simp only [List.mem_cons, List.not_mem_nil, or_false] at hr
      rcases hr with rfl | rfl | rfl <;> exact ⟨_, rfl, rfl, rfl, rfl⟩
    · rw [others g hg]
      exact ⟨List.nodup_nil, fun _ h => absurd h (by simp), List.Pairwise.nil⟩
  · by_cases hg : g = 2
    · subst hg
      rw [queue2] at hr
      simp only [List.mem_cons, List.not_mem_nil, or_false] at hr
      rcases hr with rfl | rfl | rfl <;> cases hx <;> decide
    · rw [others g hg] at hr
      exact absurd hr (by simp)

/-- An armed entry. -/
def armed5 : Entry := { item 5 .armed (some (.gateDest 4)) with fireAt := some 9 }

/-- An item or the token at its fire position, with the gate IDLE and CYCLING, three and four records awaiting, and the switch clear and extended. -/
theorem meets_FireTargetFiresOrMisses : ∀ e ∈ [armed5, { token .armed with fireAt := some 9 }],
    ∀ c ∈ [none, some (Machine.Cycle.mk .left 0 0)], ∀ l ∈ [3, 4], ∀ b ∈ [true, false],
    let s : State := (({ belt := { p := 9 }, map := [e], pins := { extLeft := Vector.replicate 12 b } } : State).modGate 2
      fun g => { g with queue := [e.ref, .tag 77], cycle := c }).modDest 4
      fun r => { r with awaiting := List.replicate l (waits 1 9) }
    s.inReset = false ∧ (s.map.length ≤ 64 ∧ (s.map.map Entry.ref).Nodup) ∧ (s.gate 2).queue = [e.ref, .tag 77]
      ∧ s.find e.ref = some e ∧ destGate 4 = 2 ∧ e.dest = some (.gateDest 4) ∧ e.fireAt = some 9
      ∧ reached s.belt.p 9 = true ∧ e.ref ∉ [EntryRef.tag 77] ∧ (s.gate 2).cycle = c ∧ e.state = .armed
      ∧ (s.dest 4).awaiting.length = l ∧ s.switchExtended 2 (destSide 4) = b := by decide +kernel

/-- The item of those states has a class and an owner. -/
theorem meets_FireTargetItem : armed5.cls = some 3 ∧ armed5.owner = some (.outlet 2) := by decide

/-- A cycle that has run out, with no switch extended, and with one of a watched gate extended. -/
theorem meets_CycleRunsOut : ∀ b ∈ [true, false],
    let s : State := ({ working with pins := { extLeft := Vector.replicate 12 b } } : State).modGate 2
      fun g => { g with configured := true, cycle := some ⟨.left, 0, 0⟩, driveLeft := true }
    s.inReset = false ∧ (s.gate 2).cycle = some ⟨.left, 0, 0⟩ ∧ (s.gate 2).driveLeft = true
      ∧ s.switchExtended 2 .left = b ∧ s.switchExtended 2 .right = false ∧ s.belt.state ≠ .unconfigured
      ∧ (s.gate 2).configured = true ∧ (s.gate 2).service = .inService ∧ (s.gate 2).checks = [] := by decide +kernel

/-- A gate at its cycle end with a switch extended, and an item bound for its left destination. -/
theorem meets_CycleEndMovesEntries :
    let s : State := ({ holding with pins := { extLeft := Vector.replicate 12 true } } : State).modGate 2
      fun g => { g with configured := true, cycle := some ⟨.left, 0, 0⟩ }
    RouteLaw s ∧ (∀ x : Side, (s.dest (gateDest 2 x)).holds.gateOut = false) ∧ (s.gate 2).service = .inService
      ∧ boundFor s 4 ≠ [] ∧ gateDest 2 .left = 4 :=
  ⟨holding_routes _ rfl rfl (by unfold ReservationLaw; decide +kernel) (by unfold ReleasingLaw; decide +kernel)
      (by unfold OwnerLaw; decide +kernel),
    fun x => by cases x <;> decide +kernel, by decide +kernel, by decide +kernel, by decide⟩

/-- Gate 2 with the token bound for it: ROUTED, in its fire queue, and fired. -/
def tokenAt (e : EntryState) (l : List EntryRef) (r : Gate) : State :=
  syncConditions (({ opened4 with map := [token e] } : State).modGate 2 fun _ => { r with configured := true, queue := l })

/-- A token that has not fired and one that has, at a gate that goes out (TAKE-GATE-OUT, an IDLE gate's switch, the right side's switch in a cycle of the left, a cycle's end, a failed check) and at one that does not. -/
theorem meets_TokenAborted : ∀ x ∈ [(EntryState.routed, ([] : List EntryRef), true), (.armed, [.token], true), (.armed, [], false)],
    ∀ r ∈ [({} : Gate), { cycle := some ⟨.left, 0, 0⟩ }, { checks := [⟨.left, 0, false⟩] }],
    let s := tokenAt x.1 x.2.1 r
    s.find .token = some (token x.1) ∧ (token x.1).gate? = some 2 ∧ tokenUnfired 2 s = x.2.2 ∧ tokenUnfired 3 s = false
      ∧ (s.map.length ≤ 64 ∧ (s.map.map Entry.ref).Nodup) ∧ s.bank.levels = condLevels s ∧ s.bank.attn = attnOf s.bank
      ∧ (s.gate 2).service = .inService ∧ (s.gate 2).configured = true ∧ s.belt.state ≠ .unconfigured
      ∧ s.inReset = false ∧ (s.link .site).state = .active ∧ (s.link .site).replies.length < 8 := by decide +kernel

/-- TAKE-GATE-OUT aborts a token that has not fired, and leaves one that has (R66, R67). -/
theorem test_take_gate_out_aborts_token :
    (let t := after (.takeGateOut (.sender .site) 1 [2]) (tokenAt .armed [.token] {})
     t.map = [] ∧ t.test.result = .aborted ∧ t.bank.latches.getLsbD 12 = true)
    ∧ (let t := after (.takeGateOut (.sender .site) 1 [2]) (tokenAt .armed [] {})
       t.map = [token .armed] ∧ t.test.result = .nothing ∧ t.bank.latches.getLsbD 12 = false) := by decide +kernel

/-- The same gate IDLE and watched, for a switch that goes extended and for TAKE-GATE-OUT, and with a check at its deadline. -/
theorem meets_GateOutMovesEntries : ∀ c ∈ [[], [ActuatorCheck.mk .left 0 false]],
    let s : State := holding.modGate 2 fun g => { g with configured := true, checks := c }
    s.map = [item5] ∧ (s.gate 2).configured = true ∧ (s.gate 2).service = .inService ∧ (s.gate 2).cycle = none
      ∧ (s.gate 2).checks = c ∧ s.switchExtended 2 .left = false ∧ s.belt.state ≠ .unconfigured
      ∧ (s.dest 4).owner = some (.station 2) ∧ (∀ d : DestId, (s.dest d).reserved
          = (boundFor s d).length + (s.dest d).awaiting.length) := by decide +kernel

/-- A check of the side fired, the item's and the token's, with the switch clear, and one at its deadline. -/
theorem meets_ActuatorChecksAndFaults : ∀ b ∈ [true, false], ∀ ms ∈ [0, 7],
    let s : State := ({ map := [token .armed] } : State).modGate 2
      fun g => { g with cycle := some ⟨.left, 9, 4⟩, checks := [⟨.left, ms, b⟩] }
    s.inReset = false ∧ s.switchExtended 2 .left = false ∧ (s.gate 2).cycle = some ⟨.left, 9, 4⟩
      ∧ (s.gate 2).checks = [⟨.left, ms, b⟩] ∧ (s.map.length ≤ 64 ∧ (s.map.map Entry.ref).Nodup)
      ∧ s.find .token ≠ none := by decide +kernel

/-- A watched gate, IDLE or in a cycle of its other side, and a switch that is extended. -/
theorem meets_ActuatorUncommanded :
    (∀ c ∈ [none, some (Machine.Cycle.mk .right 9 4)],
      let s := working.modGate 2 fun g => { g with configured := true, cycle := c }
      s.inReset = false ∧ s.switchExtended 2 .left = false ∧ s.belt.state ≠ .unconfigured
        ∧ (s.gate 2).configured = true ∧ (s.gate 2).service = .inService ∧ (s.gate 2).cycle = c
        ∧ (s.gate 2).checks = [] ∧ sideChecks .left (s.gate 2) = [])
    ∧ (({ pins := { extLeft := Vector.replicate 12 true } } : State).switchExtended 2 .left) = true := by decide +kernel

theorem meets_TailArrivalLeavesMap :
    let s : State := { belt := { p := 3000 }, map := [item 5 .toTail (some .tail)] }
    s.inReset = false ∧ (s.map.length ≤ 64 ∧ (s.map.map Entry.ref).Nodup)
      ∧ s.find (.tag 5) = some (item 5 .toTail (some .tail))
      ∧ reached s.belt.p ((item 5 .toTail (some .tail)).r + Machine.dist s.settings.dT) = true := by decide

theorem meets_TestFireAndGateService : ServedCommissioned opened4 .site := commissioned_site

theorem meets_ReadsReturnRecords : Served opened4 .site ∧ opened4.belt.state ≠ .unconfigured := ⟨commissioned_site.1, by decide⟩

/-- The last gate number and the first that names none. -/
theorem meets_ReadFaultNumbers : (11 : Byte).toNat < 12 ∧ 12 ≤ (12 : Byte).toNat := by decide

/-! ### Chutes and racks -/

/-- A sighting at an empty queue and at a queue of one, in every state. -/
theorem meets_SightingConfirmsOldestOrStrays : ∀ (x : DestState) (l : List Awaiting), ∃ s : State,
    s.inReset = false ∧ (s.dest 4).eye = .blocking ∧ (s.dest 4).eyeMs = 20 ∧ (s.dest 4).state = x ∧ (s.dest 4).awaiting = l :=
  fun x l => ⟨({} : State).modDest 4 fun r => { r with eye := .blocking, eyeMs := 20, state := x, awaiting := l },
    rfl, rfl, rfl, rfl, rfl⟩

/-- The notice clause of the sighting: an owner that hears, with room, and a busy transmitter. -/
theorem meets_SightingNotice :
    let s := (opened4.modDest 4 fun r => { r with eye := .blocking, eyeMs := 20, awaiting := [waits 5 9], reserved := 1 }).modLink
      (.station 2) fun k => { k with sending := some ⟨⟨0, 0, []⟩, 1⟩ }
    s.inReset = false ∧ (s.dest 4).owner = some (.station 2) ∧ hears s 2 = true ∧ (s.noticeQueue 2).places.length < 16
      ∧ (s.link (.station 2)).sending ≠ none := by decide +kernel

/-- The same with all 16 places held, and with a second record at a RELEASING destination. -/
theorem meets_SightingDropsNotice :
    let s := ((opened4.modDest 4 fun r => { r with
        eye := .blocking, eyeMs := 20, awaiting := [waits 5 9, waits 6 9], reserved := 2, state := .releasing }).modLink
      (.station 2) fun k => { k with sending := some ⟨⟨0, 0, []⟩, 1⟩ }).modNotices 2
        fun n => { n with places := List.replicate 16 (.evicted 9 0) }
    s.inReset = false ∧ (s.dest 4).owner = some (.station 2) ∧ hears s 2 = true
      ∧ 16 ≤ (s.noticeQueue 2).places.length ∧ (s.link (.station 2)).sending ≠ none
      ∧ (s.dest 4).state = .releasing ∧ (s.dest 4).awaiting = waits 5 9 :: [waits 6 9] := by decide +kernel

/-- The oldest record and a younger one, in every state a window can run out in, at every miss count, with an owner that hears. -/
theorem meets_ExpiredWindowIsMissed : ∀ older ∈ [[], [waits 4 9]], ∀ newer ∈ [[], [waits 6 0]], ∀ n ∈ [2, 3, 4],
    ∀ x ∈ [DestState.opened, .closed, .draining, .releasing],
    let s := (opened4.modDest 4 fun r =>
        { r with state := x, awaiting := older ++ waits 5 0 :: newer, reserved := 1, misses := n }).modLink
      (.station 2) fun k => { k with sending := some ⟨⟨0, 0, []⟩, 1⟩ }
    s.inReset = false ∧ (s.dest 4).awaiting = older ++ waits 5 0 :: newer ∧ (waits 5 0).leftMs = 0
      ∧ (∀ y ∈ older, y.tag ≠ (waits 5 0).tag ∨ y.leftMs ≠ 0) ∧ (s.dest 4).state = x ∧ (s.dest 4).misses = n
      ∧ (s.dest 4).owner = some (.station 2) ∧ hears s 2 = true ∧ (s.noticeQueue 2).places.length < 16
      ∧ (s.link (.station 2)).sending ≠ none := by decide +kernel

/-- The fourth miss in a row at a destination with an item bound for it. -/
theorem meets_FourthMissMovesEntries :
    let s : State := holding.modDest 4 fun r => { r with awaiting := [waits 6 0], reserved := 2, misses := 3 }
    RouteLaw s ∧ s.inReset = false ∧ (s.dest 4).awaiting = [] ++ waits 6 0 :: [] ∧ (s.dest 4).misses = 3
      ∧ (s.dest 4).holds.silent = false ∧ boundFor s 4 ≠ [] :=
  ⟨holding_routes _ rfl rfl (by unfold ReservationLaw; decide +kernel) (by unfold ReleasingLaw; decide +kernel)
      (by unfold OwnerLaw; decide +kernel),
    rfl, by decide +kernel, by decide +kernel, by decide +kernel, by decide +kernel⟩

/-- A chute blocked for B, a full rack in either mode, and a SET-DEST to LEVEL mode, each with an item bound for the destination. -/
theorem meets_FullAndBlockedMoveEntries : ∀ m ∈ [RackMode.level, .edge],
    let s : State := ({ holding with pins := { confirmEyes := Vector.replicate 24 true, racks := Vector.replicate 24 true } } :
      State).modDest 4 fun r => { r with blockMs := 3000, rackMs := 50, mode := m }
    RouteLaw s ∧ Served s .site ∧ s.confirmEye 4 = true ∧ s.settings.b ≤ (s.dest 4).blockMs
      ∧ (s.dest 4).holds.blocked = false ∧ (s.dest 4).configured = true ∧ (s.dest 4).rackMs = 50
      ∧ (s.dest 4).holds.full = false ∧ s.rackSensor 4 = true ∧ (s.dest 4).mode = m ∧ (s.dest 4).rearm = .armed
      ∧ boundFor s 4 ≠ [] := by
  intro m hm
  simp only [List.mem_cons, List.not_mem_nil, or_false] at hm
  rcases hm with rfl | rfl <;>
  exact ⟨holding_routes _ rfl rfl (by unfold ReservationLaw; decide +kernel) (by unfold ReleasingLaw; decide +kernel)
      (by unfold OwnerLaw; decide +kernel),
    (by unfold Served; decide +kernel), by decide +kernel⟩

theorem meets_ConfirmEyeStates :
    (∀ (x : EyeState) (b : Bool), ∃ s : State, s.inReset = false ∧ s.confirmEye 4 = !b ∧ (s.dest 4).eye = x)
    ∧ ∃ s : State, s.inReset = false ∧ (s.dest 4).eye = .clearing ∧ (s.dest 4).eyeMs = 20 :=
  ⟨fun x b => ⟨({ pins := { confirmEyes := Vector.replicate 24 !b } } : State).modDest 4 fun r => { r with eye := x },
    rfl, by cases b <;> rfl, rfl⟩,
    ⟨({} : State).modDest 4 fun r => { r with eye := .clearing, eyeMs := 20 }, by decide +kernel⟩⟩

theorem meets_ChuteBlockComesAndGoes :
    (∃ s : State, s.inReset = false ∧ s.confirmEye 4 = true ∧ s.settings.b = (s.dest 4).blockMs
      ∧ (s.dest 4).holds.blocked = false)
    ∧ ∃ s : State, s.inReset = false ∧ s.confirmEye 4 = false ∧ (s.dest 4).clearMs = 1000 ∧ (s.dest 4).holds.blocked = true :=
  ⟨⟨({ pins := { confirmEyes := Vector.replicate 24 true } } : State).modDest 4 fun r => { r with blockMs := 3000 },
    by decide +kernel⟩,
    ⟨({} : State).modDest 4 fun r => { r with clearMs := 1000, holds := { blocked := true } }, by decide +kernel⟩⟩

theorem meets_RackSensorMovesFull : ∀ m ∈ [RackMode.level, .edge], ∀ x ∈ [Rearm.armed, .waitingForClear], ∀ b ∈ [true, false],
    let s := ({ pins := { racks := Vector.replicate 24 b } } : State).modDest 4 fun r =>
      { r with configured := true, mode := m, rearm := x, rackMs := 50 }
    s.inReset = false ∧ s.rackSensor 4 = b ∧ (s.dest 4).configured = true ∧ (s.dest 4).mode = m ∧ (s.dest 4).rearm = x
      ∧ 50 ≤ (s.dest 4).rackMs := by decide +kernel

/-! ### Destination requests, patterns -/

theorem meets_DestinationRequests :
    ServedCommissioned opened4 (.station 2) ∧ ServedCommissioned opened4 .site ∧ OwnerLaw opened4 ∧ RouteLaw opened4 :=
  ⟨commissioned_station, commissioned_site, opened4_owners, opened4_routes⟩

/-- The owner's port free for a notice, behind a reply of its own, behind a frame on its line, and on a link that does not hear. -/
theorem meets_NoticesOffered :
    (hears opened4 2 = true ∧ freeForNotice none opened4 2 = true ∧ freeForNotice (some .site) opened4 2 = true)
    ∧ freeForNotice (some (.station 2)) opened4 2 = false
    ∧ freeForNotice none (opened4.modLink (.station 2) fun k => { k with sending := some ⟨⟨0, 0, []⟩, 1⟩ }) 2 = false
    ∧ hears opened4 3 = false ∧ (opened4.dest 4).owner = some (.station 2) := by decide +kernel

/-- A CLOSE from the owner leaves the mark behind its reply, and a CLEAR-FULL from the site is sent to the owner at once (R114, R164). -/
theorem test_marks_of_close_and_clear_full :
    ((after (.closeDest (.sender (.station 2)) 1 [4]) opened4).noticeQueue 2).dests = [.mark 4]
    ∧ (let t := after (.clearFull (.sender .site) 1 [4]) (opened4.modDest 4 fun r => { r with holds := { silent := true } })
       (t.noticeQueue 2).dests = []
         ∧ (t.link (.station 2)).sending.map Sending.frame = some ⟨0x90#8, 0, [4, 2, 2, 0, 3, 0, 1]⟩) := by decide +kernel

/-- A forced release of a destination with an item bound for it, with no record and with one awaiting, in EDGE mode and in LEVEL mode. -/
theorem meets_ForceReleaseMovesEntries : ∀ l ∈ [[], [waits 6 9]], ∀ m ∈ [RackMode.edge, .level],
    let s : State := holding.modDest 4 fun r => { r with
      awaiting := l, reserved := 1 + l.length, mode := m, holds := { full := true, silent := true } }
    ServedCommissioned s .site ∧ RouteLaw s ∧ (s.dest 4).state ≠ .unclaimed ∧ (s.dest 4).state ≠ .releasing
      ∧ (s.dest 4).awaiting = l ∧ (s.dest 4).mode = m ∧ boundFor s 4 ≠ [] := by
  intro l hl m hm
  simp only [List.mem_cons, List.not_mem_nil, or_false] at hl hm
  rcases hl with rfl | rfl <;> rcases hm with rfl | rfl <;>
  exact ⟨by unfold ServedCommissioned Served; decide +kernel,
    holding_routes _ rfl rfl (by unfold ReservationLaw; decide +kernel) (by unfold ReleasingLaw; decide +kernel)
      (by unfold OwnerLaw; decide +kernel),
    by decide +kernel⟩

/-- The last destination number and the first that names none. -/
theorem meets_DestinationNumbers : (23 : Byte).toNat = (23 : DestId).val ∧ 24 ≤ (24 : Byte).toNat := by decide

theorem meets_QueryAndRefresh : ∃ s : State, s.inReset = false ∧ s.refreshMs = 1000
    ∧ (s.dest 4).owner = some (.station 2) ∧ hears s 2 = true ∧ (s.link (.station 2)).sending ≠ none :=
  ⟨{ (opened4.modLink (.station 2) fun k => { k with sending := some ⟨⟨0, 0, []⟩, 1⟩ }) with refreshMs := 1000 },
    by decide +kernel⟩

/-- A query of D23 and of no destination, and one of the site before COMMISSION. -/
theorem meets_QueryNumbers : inRange? 24 (23 : Byte).toNat = some 23 ∧ inRange? 24 (24 : Byte).toNat = none
    ∧ Served { trained with belt := {} } .site ∧ Served opened4 (.station 2) :=
  ⟨by decide, by decide, (served_of _ rfl rfl).1, commissioned_station.1⟩

theorem meets_Patterns : ServedCommissioned opened4 (.station 2) ∧ Served opened4 .site ∧ PatternLaw opened4 :=
  ⟨commissioned_station, commissioned_site.1, opened4_patterns⟩

/-- A full table whose first entry is unlocked and whose owner hears. -/
theorem meets_FullPatternTable :
    let s : State := ({ opened4 with
        patterns := (List.range 64).map fun n => ⟨BitVec.ofNat 16 (n + 1), 2, false⟩ } : State).modLink
      (.station 2) fun k => { k with sending := some ⟨⟨0, 0, []⟩, 1⟩ }
    s.patterns.length = 64 ∧ (s.patterns.find? fun e => !e.locked) = some ⟨1, 2, false⟩ ∧ hears s 2 = true
      ∧ (s.noticeQueue 2).places.length < 16 ∧ (s.link (.station 2)).sending ≠ none
      ∧ patternOf (0x01#8 ++ 0x00#8) s.patterns = none ∧ (s.patterns.map PatternEntry.code).Nodup
      ∧ (∀ st : Station, lockedCount st s.patterns ≤ 10) := by decide +kernel

/-! ### Links -/

theorem meets_HelloAndGoodbye : ∀ (x : LinkState) (n : Nat), ∃ s : State, s.inReset = false
    ∧ (s.link .site).replies.length < 8 ∧ (s.link .site).state = x ∧ (s.link .site).hellos = n := fun x n =>
  ⟨({} : State).modLink .site fun k => { k with state := x, hellos := n }, rfl, Nat.zero_lt_succ 7, rfl, rfl⟩

theorem meets_LinkLossOrphansDestinations :
    (∃ s : State, s.inReset = false ∧ (s.link .site).state = .quiet ∧ (s.link .site).silenceMs = 4000)
    ∧ ∀ x : LinkState, ∃ s : State, s.inReset = false ∧ (s.link .site).silenceMs = 1000 ∧ (s.link .site).state = x :=
  ⟨⟨({} : State).modLink .site fun k => { k with state := .quiet, silenceMs := 4000 }, by decide +kernel⟩,
    fun x => ⟨({} : State).modLink .site fun k => { k with state := x, silenceMs := 1000 }, rfl, rfl, rfl⟩⟩

/-- 7 and 8 replies waiting; a kind code that no party sends, the site's CLAIM on no port of its own, and HELLO on the identifier port. -/
theorem meets_EachRequestHasOneReply : (∀ n ∈ [7, 8],
    let s := ({} : State).modLink .site fun k => { k with replies := List.replicate n ⟨0, 0, .done, []⟩ }
    s.inReset = false ∧ (s.link .site).replies.length = n) ∧ kindTakenOn 0x80#8 (.sender .site) = false
      ∧ kindTakenOn (Kind.code .setBelt) (.sender (.station 2)) = false
      ∧ kindTakenOn (Kind.code .hello) .identifier = false ∧ Kind.hello ≠ .itemReport
      ∧ ([] : List Byte).length ≠ 6 := by decide +kernel

theorem meets_AdmissionTurnsAway : ∀ x : LinkState, ∃ s : State, s.inReset = false ∧ (s.link .site).replies.length < 8
    ∧ (s.link .site).state = x ∧ Kind.claim ≠ .hello ∧ Kind.claim ≠ .goodbye := fun x =>
  ⟨({} : State).modLink .site fun k => { k with state := x }, rfl, Nat.zero_lt_succ 7, rfl, by decide⟩

/-- A station's REGISTER-PATTERN on a link in any state, of its length and of another, and one of the site. -/
theorem meets_AdmissionOfPatterns : (∀ x : LinkState, ∃ s : State, s.inReset = false
      ∧ (s.link (.station 2)).replies.length < 8 ∧ (s.link (.station 2)).state = x)
    ∧ Kind.registerPattern.payloadFits (.station 2) [0, 9, 1] = true
    ∧ Kind.registerPattern.payloadFits (.station 2) [0, 9] = false
    ∧ Kind.registerPattern.takenFrom .site = true ∧ Kind.registerPattern.takenFrom (.station 2) = true :=
  ⟨fun x => ⟨({} : State).modLink (.station 2) fun k => { k with state := x }, rfl, Nat.zero_lt_succ 7, rfl⟩,
    by decide, by decide, by decide, by decide⟩

/-- Writes of a list from a station and from the site, of their length and of another. -/
theorem meets_AdmissionOfWrites :
    Kind.writeRoute.payloadFits (.station 2) [3, 2, 6, 6] = true ∧ Kind.writeRoute.payloadFits (.station 2) [3, 2, 6] = false
    ∧ Kind.writeRoute.payloadFits .site [3, 6, 1, 6] = true ∧ Kind.setList.payloadFits .site [1, 2, 6, 6] = true
    ∧ Kind.setList.payloadFits .site [1, 2, 6] = false ∧ Kind.writeRoute.takenFrom (.station 2) = true
    ∧ Kind.setList.takenFrom .site = true ∧ Kind.setList.takenFrom (.station 2) = false := by decide

/-- Lengths 1 and 51, a check byte that is not the frame's with and without a payload, and in progress: a byte, a good HELLO behind it, and a second frame behind it, each with a gap of 6 ms. -/
theorem meets_BadFrameIsCounted :
    (∀ b ∈ [(1 : Byte), 51], b ≠ 0xC3#8 ∧ (b.toNat < 2 ∨ 50 < b.toNat))
    ∧ (∀ pl ∈ [([] : List Byte), [7, 8], List.replicate 48 0], pl.length ≤ 48 ∧ 0xC3#8 ∉ (1 : Byte) :: 5 :: 0xD9 :: pl
        ∧ (0xD9 : Byte) ≠ crc8 (byteOf (pl.length + 2) :: 1 :: 5 :: pl))
    ∧ (∀ p : Port, (({} : State).receiver p).kept = none)
    ∧ ∀ l ∈ [([4] : List Byte), [4] ++ [0xC3#8, 2, 1, 5, crc8 [2, 1, 5]], [4] ++ [0xC3#8, 50]], ∃ s : State,
        s.inReset = false ∧ s.receiver (.sender .site) = { kept := some l, gapMs := some 6 }
          ∧ (s.link .site).replies.length < 8 :=
  ⟨by decide, by decide +kernel, fun p => by cases p with | identifier => rfl | sender q => cases q <;> simp [State.receiver],
    fun l _ => ⟨({} : State).modReceiver (.sender .site) fun _ => { kept := some l, gapMs := some 6 }, rfl, rfl,
      (by decide +kernel : (({} : State).link .site).replies.length < 8)⟩⟩

/-- A line error ends the frame it falls in and, examined again, the frame behind its sync (R159). -/
theorem test_line_error_ends_inner_frame :
    let s := after (.badFrame (.sender .site) ([LineItem.byte 0xC3#8, .byte 5, .byte 0xC3#8, .byte 2, .lineError])) {}
    s.counter (.ofPort (.sender .site) .framesBad) = 2 ∧ (s.receiver (.sender .site)).kept = none := by decide +kernel

/-- A reply waiting; no reply and a mark; no mark and a notice; nothing. -/
theorem meets_TransmitterPrefersReplies :
    (∃ s : State, s.inReset = false ∧ (s.link (.station 2)).replies = [⟨1, 1, .done, []⟩])
    ∧ (∃ s : State, s.inReset = false ∧ (s.link (.station 2)).replies = [] ∧ hears s 2 = true
      ∧ (s.noticeQueue 2).dests = [.mark 4])
    ∧ (∃ s : State, s.inReset = false ∧ (s.link (.station 2)).replies = [] ∧ hears s 2 = true
      ∧ (s.noticeQueue 2).dests = [] ∧ (s.noticeQueue 2).places = [.evicted 9 0])
    ∧ ∃ s : State, s.inReset = false ∧ (s.link (.station 2)).replies = [] ∧ hears s 2 = false :=
  ⟨⟨({} : State).modLink (.station 2) fun k => { k with replies := [⟨1, 1, .done, []⟩] }, by decide +kernel⟩,
    ⟨opened4.modNotices 2 fun n => { n with dests := [.mark 4] }, by decide +kernel⟩,
    ⟨opened4.modNotices 2 fun n => { n with places := [.evicted 9 0] }, by decide +kernel⟩, ⟨{}, by decide +kernel⟩⟩

/-- A final notice at the head of the DEST-STATE list. -/
theorem meets_TransmitterTakesFinalNotice :
    let s := opened4.modNotices 2 fun n => { n with dests := [.lastNotice 4 [4, 0], .mark 4] }
    s.inReset = false ∧ (s.link (.station 2)).replies = [] ∧ hears s 2 = true
      ∧ (s.noticeQueue 2).dests = .lastNotice 4 [4, 0] :: [.mark 4] := by decide +kernel

/-! ### Site, counters, laws -/

/-- A SET-BELT of the defaults on a served part, with a chute blocked as long as the new B and for less. -/
theorem meets_SetBeltClampsAndStores : ∀ ms ∈ [2999, 3000],
    let pl : List Byte := [0x0B, 0xB8, 0x03, 0x20, 0, 180, 60, 0x0B, 0xB8]
    let s : State := ({ opened4 with pins := { confirmEyes := Vector.replicate 24 true } } : State).modDest 4
      fun r => { r with blockMs := ms }
    pl.length = 9 ∧ Served s .site ∧ s.confirmEye 4 = true
      ∧ (s.dest 4).holds.blocked = false
      ∧ decide ((clampSettings (readSettings pl)).b ≤ (s.dest 4).blockMs) = decide (ms = 3000) := by
  unfold Served; decide +kernel

/-- A SET-GATE of gate 2 and of no gate, with a switch of the gate clear and extended. -/
theorem meets_SetGateClampsAndStores : (List.replicate 10 (0 : Byte)).length = 10 ∧ Served opened4 .site
    ∧ inRange? 12 (2 : Byte).toNat = some 2 ∧ inRange? 12 (12 : Byte).toNat = none
    ∧ ∀ b ∈ [true, false],
      let s : State := { opened4 with pins := { extLeft := Vector.replicate 12 b } }
      s.belt.state ≠ .unconfigured ∧ (s.gate 2).configured = false ∧ (s.gate 2).service = .inService
        ∧ (s.gate 2).cycle = none ∧ (s.gate 2).checks = [] ∧ s.switchExtended 2 .left = b :=
  ⟨rfl, commissioned_site.1, by decide, by decide, by decide +kernel⟩

theorem meets_SiteRequests : Served opened4 .site ∧ ServedCommissioned opened4 .site := ⟨commissioned_site.1, commissioned_site⟩

/-- The first and the last number of each group of READ-SNAPSHOT, and the number behind them. -/
theorem meets_ReadSnapshotGroups :
    ((1 : Byte).toNat = (0 : GateId).val + 1 ∧ (12 : Byte).toNat = (11 : GateId).val + 1)
    ∧ ((13 : Byte).toNat = (0 : DestId).val + 13 ∧ (36 : Byte).toNat = (23 : DestId).val + 13)
    ∧ ((37 : Byte).toNat = (Port.index (.sender (.station 0))).val + 37 ∧ (44 : Byte).toNat = (Port.index .identifier).val + 37)
    ∧ 44 < (45 : Byte).toNat := by decide

/-- A configuration that COMMISSION takes, with a switch that reads extended at a watched gate. -/
theorem meets_CommissionChecksGeometry :
    let s : State := { (trained.modGate 2 fun g => { g with configured := true, d := 3000 }) with
      settings := { dT := 4300 }, pins := { extLeft := Vector.replicate 12 true } }
    s.inReset = false ∧ s.belt.state = .unconfigured ∧ firstFailed (geometryChecks s.gates s.settings s.routes) = none
      ∧ (s.gate 2).configured = true ∧ (s.gate 2).service = .inService ∧ (s.gate 2).cycle = none ∧ (s.gate 2).checks = []
      ∧ s.switchExtended 2 .left = true ∧ s.switchExtended 2 .right = false := by decide +kernel

/-- GATE_OUT follows the service states where every gate is in, and where gate 2 is out. -/
theorem meets_GateOutLaw : GateOutLaw opened4
    ∧ GateOutLaw (forEach [4, 5] (fun d s => s.modDest d fun r => { r with holds := { gateOut := true } })
        (opened4.modGate 2 fun g => { g with service := .outOfService })) := by
  unfold GateOutLaw; decide +kernel

/-- A step from a state in which the laws hold, that a queued command takes. -/
theorem meets_StepsKeepLaws : ∃ s : State, PatternLaw s ∧ RouteLaw s ∧ s.pending = [] ∧ s.inReset = false :=
  ⟨opened4, opened4_patterns, opened4_routes, rfl, rfl⟩

end Sys2Proof.Tests
end

section
/-! SUPPORT. What a good frame and a line's bytes keep true of the part, stated once for any property of the state. -/

namespace Sys2Proof.Machine

/-- A property of the state that every way of taking a frame keeps, wherever on a line the frame stands. -/
structure LineInvariant (P : State → Prop) : Prop where
  receiver : ∀ (p : Port) (f : Receiver → Receiver) (s : State), P s → P (s.modReceiver p f)
  bad : ∀ (p : Port) (s : State), P s → P (badOnPort p s)
  request : ∀ (k : Kind) (p : Port) (tag : Byte) (pl : List Byte) (s : State), P s →
    P (takeRequest k (handlerOf k) p tag pl s)
  unknown : ∀ (p : Port) (kind tag : Byte) (s : State), P s → P (takeUnknown p kind tag s)
  report : ∀ (p : Port) (tag : Byte) (pl : List Byte) (s : State), P s → P (takeItemReport p tag pl s)
  idle : ∀ s : State, P s → P (settleIdle s)

namespace LineInvariant

variable {P : State → Prop}

theorem hunt (h : LineInvariant P) (p : Port) {s : State} (hs : P s) : P (hunt p s) := h.receiver p _ s hs

theorem goodFrame (h : LineInvariant P) (p : Port) (kind tag : Byte) (pl : List Byte) {s : State} (hs : P s) :
    P (takeGoodFrame p kind tag pl s) := by
  unfold takeGoodFrame
  split
  · exact h.report p tag pl s hs
  · exact h.request _ p tag pl s hs
  · exact h.unknown p kind tag s hs

theorem discard (h : LineInvariant P) (p : Port) {s : State} (hs : P s) : P (discardFrame p s) :=
  h.bad p _ (h.hunt p hs)

theorem item (h : LineInvariant P) (gap : Option Nat) (p : Port) (i : LineItem) {s : State} (hs : P s) :
    P (stepItem gap p s i).1 := by
  cases i with
  | byte b =>
    simp only [stepItem, stepByte]
    split
    · dsimp only; split
      · exact h.receiver p _ s hs
      · exact hs
    · split
      · dsimp only; exact h.receiver p _ s hs
      · exact h.idle _ (h.goodFrame p _ _ _ (h.hunt p hs))
      · exact h.discard p hs
  | lineError =>
    simp only [stepItem, stepError]
    split
    · exact hs
    · exact h.discard p hs

theorem reexamined (h : LineInvariant P) (p : Port) (n : Nat) :
    ∀ (l : List LineItem) (s : State), P s → P (reexamine n p l s) := by
  induction n with
  | zero => exact fun _ _ hs => hs
  | succ n ih =>
    intro l s hs
    cases l with
    | nil => exact hs
    | cons i rest => exact ih _ _ (h.item none p i hs)

theorem put (h : LineInvariant P) (p : Port) (i : LineItem) {s : State} (hs : P s) : P (putItem p s i) :=
  h.reexamined p _ _ _ (h.item (some 0) p i hs)

theorem line (h : LineInvariant P) (p : Port) (l : List LineItem) : ∀ s : State, P s → P (l.foldl (putItem p) s) := by
  induction l with
  | nil => exact fun _ hs => hs
  | cons i l ih => exact fun s hs => ih _ (h.put p i hs)

theorem ended (h : LineInvariant P) (p : Port) {s : State} (hs : P s) : P (endBad p s) := by
  unfold endBad
  split
  · exact hs
  · exact h.reexamined p _ _ _ (h.discard p hs)

end LineInvariant

/-- A property of the belt unit and the blocks' answers: frames keep it where every owning block does and where it reads neither the links, the bank nor the receivers. -/
theorem takeOnPort_keeps (P : State → Prop) (hb : ∀ p s, P s → P (badOnPort p s))
    (hg : ∀ q s, P s → P (goodOnPort q s)) (hl : ∀ q f s, P s → P (s.modLink q f))
    (q : Sender) (tag kind : Byte) (serve : State → Answer) (hv : ∀ s, P s → P (serve s).state)
    (s : State) (hs : P s) : P (takeOnPort q tag kind serve s) := by
  unfold takeOnPort
  split
  · exact hb _ s hs
  · exact hl q _ _ (hv _ (hg q s hs))

theorem serveKind_keeps (P : State → Prop) (k : Kind) (handle : Sender → List Byte → State → Answer)
    (hh : ∀ q pl s, P s → P (handle q pl s).state) (q : Sender) (pl : List Byte) (s : State) (hs : P s) :
    P (serveKind k handle q pl s).state := by
  unfold serveKind
  split
  · split
    · exact hs
    · exact hh q pl s hs
  · exact hs

/-! ### Commands and steps -/

/-- Wherever a command's meaning answers a next state, the property still holds there. -/
def Keeps (P : State → Prop) (r : State → Result) : Prop := ∀ s t, P s → r s = .next t → P t

section
variable {P : State → Prop}

/-- An event keeps what its change and the end of an event keep. -/
theorem event_keeps (hP : ∀ s, P s → P (settle s)) {f : State → State} (hf : ∀ s, P s → P (f s)) :
    Keeps P (event f) := fun s t h e =>
  event_post P f s t e (fun _ => h) fun _ => hP _ (hf s h)

/-- A change of an input keeps what its level and its act keep; in reset the level alone is followed. -/
theorem inputEvent_keeps (hP : ∀ s, P s → P (settle s)) {pin : State → State} {act : State → State → State}
    (hp : ∀ s, P s → P (pin s)) (ha : ∀ s₀ s, P s → P (act s₀ s)) : Keeps P fun s => inputEvent pin (act s) s := by
  intro s t h e
  change inputEvent pin (act s) s = .next t at e
  cases hs : s.inReset with
  | true =>
    simp only [inputEvent, hs, if_true] at e
    cases e; exact hp s h
  | false =>
    rw [inputEvent_next pin _ s hs] at e
    cases e; exact hP _ (ha s _ (hp s h))

theorem frameEvent_keeps (hP : ∀ s, P s → P (settle s)) (h : LineInvariant P) (k : Kind) (p : Port) (tag : Byte)
    (pl : List Byte) : Keeps P (frameEvent k (handlerOf k) p tag pl) :=
  event_keeps hP fun _ hs => h.request k p tag pl _ (h.hunt p hs)

/-- A request's command is the event of its frame, served by its owning block. -/
theorem exec_command {k : Kind} (hk : k ≠ .itemReport) (p : Port) (tag : Byte) (pl : List Byte) :
    exec (k.command p tag pl) = frameEvent k (handlerOf k) p tag pl := by
  cases k with
  | itemReport => exact absurd rfl hk
  | _ => rfl

/-- A step keeps what every command and a millisecond keep, where the queue and the count of free orders are not read. -/
theorem step_keeps (hc : ∀ c, Keeps P (exec c)) (ht : ∀ s, P s → P (tick s))
    (hq : ∀ s l n, P s → P { s with pending := l, orders := n }) : Keeps P step := by
  intro s t h e
  unfold step at e
  split at e
  · exact hc _ _ _ (hq s _ s.orders h) e
  · unfold idleStep at e
    split at e
    · exact hc _ _ _ (hq s s.pending _ h) e
    · cases e; exact ht s h

end

end Sys2Proof.Machine
end

section
/-! SUPPORT. The belt unit's law: what each change of the belt makes of it, and that every command and every millisecond keeps it. -/

namespace Sys2Proof.Machine

/-! ### The law of one belt record -/

/-- The measured part of the law: V, the clean windows and OVERSPEED (R4, R5). -/
structure Belt.Measured (b : Belt) : Prop where
  speed : b.v ≤ 4095
  clean : b.cleanWindows < 20
  overspeed : b.overspeed = false → b.cleanWindows = 0

/-- The belt law, as it speaks of the belt record alone. -/
structure Belt.Lawful (b : Belt) : Prop extends b.Measured where
  motor : b.motor = true ↔ b.state = .running
  cause : b.state = .halted ↔ b.causes ≠ {}
  guard : b.state ≠ .running → b.runGuard = none
  zeros : b.zeroWindows < 8
  tail : b.causes.tailFull = true → b.tailFull = true

theorem beltLaw_iff (s : State) : BeltLaw s ↔ s.belt.Lawful := by
  constructor
  · rintro ⟨motor, cause, guard, speed, zeros, clean, overspeed, tail⟩
    exact { motor, cause, guard, speed, zeros, clean, overspeed, tail }
  · rintro ⟨⟨speed, clean, overspeed⟩, motor, cause, guard, zeros, tail⟩
    exact ⟨motor, cause, guard, speed, zeros, clean, overspeed, tail⟩

/-- The law does not read the idle timer. -/
theorem Belt.Lawful.still_eq (b : Belt) : b.still.Lawful = b.Lawful := by
  refine propext ⟨?_, ?_⟩ <;>
  · rintro ⟨⟨speed, clean, overspeed⟩, motor, cause, guard, zeros, tail⟩
    exact { motor, cause, guard, speed, zeros, clean, overspeed, tail }

theorem Belt.Lawful.of_still {a b : Belt} (h : b.Lawful) (e : a.still = b.still) : a.Lawful := by
  rwa [belt_of_still Belt.Lawful Belt.Lawful.still_eq e]

/-- Outside HALTED no cause is recorded (1.5). -/
theorem Belt.Lawful.causes_empty {b : Belt} (h : b.Lawful) (hs : b.state ≠ .halted) : b.causes = {} := by
  by_contra hc
  exact hs (h.cause.mpr hc)

/-- Entry to RUNNING with an empty cause set keeps the law, from any belt state (R6). -/
theorem enterRunning_lawful {s : State} (hm : s.belt.Measured) (hc : s.belt.causes = {}) :
    (enterRunning s).belt.Lawful where
  toMeasured := ⟨hm.speed, hm.clean, hm.overspeed⟩
  motor := by simp [enterRunning]
  cause := by simp [enterRunning, hc]
  guard := by simp [enterRunning]
  zeros := by simp [enterRunning]
  tail := by simp [enterRunning, hc]

/-- A belt that has no cause recorded stands still outside HALTED and RUNNING by the law (R6). -/
theorem standStill_lawful {s : State} (h : s.belt.Lawful) (hs : s.belt.state ≠ .halted) {b : BeltState}
    (hr : b ≠ .running) (hb : b ≠ .halted) : (standStill b s).belt.Lawful where
  toMeasured := ⟨h.speed, h.clean, h.overspeed⟩
  motor := by simp [standStill, hr]
  cause := by simp [standStill, hb, h.causes_empty hs]
  guard := by simp [standStill]
  zeros := by simpa [standStill] using h.zeros
  tail := by simpa [standStill] using h.tail

/-- Recording a cause keeps the law where the change leaves the set with a member, and TAIL_FULL in it only with the level ASSERTED (R11, R13). -/
theorem recordCause_lawful {s : State} {add : Causes → Causes} (h : s.belt.Lawful) (hne : ∀ c, add c ≠ {})
    (ht : (add s.belt.causes).tailFull = true → s.belt.tailFull = true) : (recordCause add s).belt.Lawful := by
  have hm : s.belt.Measured := h.toMeasured
  unfold recordCause
  split
  case h_3 hs =>
    exact { hm, h with cause := by simp [hs, hne], tail := by simpa using ht }
  case h_4 | h_5 => exact h
  all_goals
    exact { hm with
      motor := by simp [standStill]
      cause := by simp [standStill, hne]
      guard := by simp [standStill]
      zeros := by simpa [standStill] using h.zeros
      tail := by simpa [standStill] using ht }

end Sys2Proof.Machine
end

section
/-! SUPPORT. The belt unit's own operations: what each does to the belt record, and that each keeps the belt law. -/

namespace Sys2Proof.Machine

/-! ### Windows (R3 to R5, R14) -/

/-- OVERSPEED and its clean-window count move, and nothing else of the belt (R5). -/
theorem nextOverspeed_eq (c : Word16) (b : Belt) : nextOverspeed c b
    = { b with overspeed := (nextOverspeed c b).overspeed, cleanWindows := (nextOverspeed c b).cleanWindows } := by
  unfold nextOverspeed
  split
  · rfl
  · split
    · split <;> rfl
    · rfl

/-- A window that saturates sets OVERSPEED and takes the clean windows back (R5). -/
theorem nextOverspeed_saturated {c : Word16} (b : Belt) (h : 205 ≤ c.toNat) :
    nextOverspeed c b = { b with overspeed := true, cleanWindows := 0 } := by
  simp [nextOverspeed, saturates, h]

/-- The twentieth clean window clears OVERSPEED (R5). -/
theorem nextOverspeed_cleared {c : Word16} {b : Belt} (h : c.toNat < 205) (ho : b.overspeed = true)
    (hc : 19 ≤ b.cleanWindows) : nextOverspeed c b = { b with overspeed := false, cleanWindows := 0 } := by
  simp [nextOverspeed, saturates, ho, show ¬ 205 ≤ c.toNat by omega, show 20 ≤ b.cleanWindows + 1 by omega]

/-- A clean window before the twentieth is counted (R5). -/
theorem nextOverspeed_counted {c : Word16} {b : Belt} (h : c.toNat < 205) (ho : b.overspeed = true)
    (hc : b.cleanWindows < 19) : nextOverspeed c b = { b with cleanWindows := b.cleanWindows + 1 } := by
  simp [nextOverspeed, saturates, ho, show ¬ 205 ≤ c.toNat by omega, show ¬ 20 ≤ b.cleanWindows + 1 by omega]

/-- A clean window without OVERSPEED changes nothing (R5). -/
theorem nextOverspeed_idle {c : Word16} {b : Belt} (h : c.toNat < 205) (ho : b.overspeed = false) :
    nextOverspeed c b = b := by
  simp [nextOverspeed, saturates, ho, show ¬ 205 ≤ c.toNat by omega]

theorem nextOverspeed_measured {b : Belt} (c : Word16) (h : b.Measured) : (nextOverspeed c b).Measured := by
  by_cases hc : 205 ≤ c.toNat
  · rw [nextOverspeed_saturated b hc]; exact ⟨h.speed, by simp, by simp⟩
  · rcases Bool.eq_false_or_eq_true b.overspeed with ho | ho
    · by_cases hn : 19 ≤ b.cleanWindows
      · rw [nextOverspeed_cleared (by omega) ho hn]; exact ⟨h.speed, by simp, by simp⟩
      · rw [nextOverspeed_counted (by omega) ho (by omega)]
        exact ⟨h.speed, by dsimp only; omega, by simp [ho]⟩
    · rw [nextOverspeed_idle (by omega) ho]; exact h

/-- The end of a window in one record: the fields it moves, and what stands (R3, R4, R14). -/
theorem endWindow_eq (b : Belt) : endWindow b = { b with
    v := nextV b.v (speedSample b.windowCount), zeroWindows := nextZeroWindows b, windowCount := 0, windowMs := 0
    overspeed := (nextOverspeed b.windowCount b).overspeed
    cleanWindows := (nextOverspeed b.windowCount b).cleanWindows } := by
  unfold endWindow
  rw [nextOverspeed_eq]

theorem endWindow_measured {b : Belt} (h : b.Measured) : (endWindow b).Measured where
  speed := by
    have := h.speed
    simp only [endWindow, nextV, speedSample]
    omega
  clean := (nextOverspeed_measured b.windowCount h).clean
  overspeed := (nextOverspeed_measured b.windowCount h).overspeed

/-- The law of the belt after a window, once its zero-window count is below the limit again (R14). -/
theorem endWindow_lawful {b : Belt} (h : b.Lawful) {n : Nat} (hn : n < 8) :
    { endWindow b with zeroWindows := n }.Lawful := by
  rw [endWindow_eq]
  have hm := endWindow_measured h.toMeasured
  rw [endWindow_eq] at hm
  exact { hm with motor := h.motor, cause := h.cause, guard := h.guard, zeros := hn, tail := h.tail }

/-- The count of the zero windows stays below the limit but for the eighth, which only a running belt has (R14). -/
theorem nextZeroWindows_below {b : Belt} (h : b.zeroWindows < 8) (hl : ¬(b.state = .running ∧ 8 ≤ nextZeroWindows b)) :
    nextZeroWindows b < 8 := by
  by_cases hr : b.state = .running
  · exact Nat.lt_of_not_le fun h8 => hl ⟨hr, h8⟩
  · simpa [nextZeroWindows, hr] using h

/-! ### Causes (R11, R12, R14) -/

/-- What recording a cause does not read, it does not move: the zero-window count may be set before it or after it. -/
theorem recordCause_zeroWindows (add : Causes → Causes) (n : Nat) (s : State) :
    (recordCause add s).modBelt (fun b => { b with zeroWindows := n })
      = recordCause add (s.modBelt fun b => { b with zeroWindows := n }) := by
  unfold recordCause
  simp only [modBelt_belt]
  cases s.belt.state <;> rfl

@[simp] theorem abortUnfired_kept (s : State) : (abortUnfired s).kept = s.kept := by
  unfold abortUnfired; split
  · exact endToken_kept _ s
  · rfl

@[simp] theorem abandonCapture_belt (s : State) : (abandonCapture s).belt = s.belt := by
  unfold abandonCapture; split <;> rfl

/-- The loss of the encoder records its cause and takes the zero windows back, and nothing more on the belt (R14). -/
theorem encoderLoss_belt (s : State) :
    (encoderLoss s).belt = (recordCause addLoss (s.modBelt fun b => { b with zeroWindows := 0 })).belt := by
  rw [← recordCause_zeroWindows]
  have h := belt_of_kept (abortUnfired_kept ((recordCause addLoss s).modBelt fun b => { b with zeroWindows := 0 }))
  simpa [encoderLoss, emptyQueues] using h

theorem addLoss_ne (c : Causes) : addLoss c ≠ {} := fun h => by simp [addLoss] at h

theorem addChain_ne (c : Causes) : addChain c ≠ {} := fun h => by simp [addChain] at h

theorem addTail_ne (c : Causes) : addTail c ≠ {} := fun h => by simp [addTail] at h

/-! ### Each operation keeps the law -/

theorem beltLaw_congr {s t : State} (e : t.belt = s.belt) (h : BeltLaw s) : BeltLaw t := by
  rw [beltLaw_iff, e]; exact (beltLaw_iff s).mp h

theorem beltLaw_still {s t : State} (e : t.belt.still = s.belt.still) (h : BeltLaw s) : BeltLaw t :=
  (beltLaw_iff t).mpr (((beltLaw_iff s).mp h).of_still e)

theorem settle_beltLaw (s : State) (h : BeltLaw s) : BeltLaw (settle s) := beltLaw_still (settle_belt_still s) h

theorem takeWindowEnd_beltLaw {s : State} (h : BeltLaw s) : BeltLaw (takeWindowEnd s) := by
  rw [beltLaw_iff] at h ⊢
  unfold takeWindowEnd
  have hstate : (endWindow s.belt).state = s.belt.state := by rw [endWindow_eq]
  have hzero : (endWindow s.belt).zeroWindows = nextZeroWindows s.belt := rfl
  simp only [modBelt_belt, hstate, hzero]
  split
  · rw [encoderLoss_belt]
    exact recordCause_lawful (endWindow_lawful h (by decide)) addLoss_ne (endWindow_lawful h (n := 0) (by decide)).tail
  · next hl => exact endWindow_lawful h (nextZeroWindows_below h.zeros hl)

theorem countPulse_belt (s : State) : ∃ c, (countPulse s).belt = { s.belt with windowCount := c }
    ∧ (s.belt.windowCount ≠ 0xFFFF#16 → c = s.belt.windowCount + 1) := by
  unfold countPulse; split
  · next hf => exact ⟨_, rfl, fun hn => absurd hf hn⟩
  · exact ⟨_, rfl, fun _ => rfl⟩

theorem takePulse_beltLaw {s : State} (h : BeltLaw s) : BeltLaw (takePulse s) := by
  unfold takePulse; split
  · obtain ⟨c, hc, -⟩ := countPulse_belt (s.modBelt fun b => { b with p := b.p + 1 })
    rw [beltLaw_iff] at h ⊢
    rw [hc]
    exact { h with }
  · exact h

theorem idleDue_running {s : State} (h : idleDue s = true) : s.belt.state = .running := by
  simp only [idleDue, State.isRunning, Bool.and_eq_true, beq_iff_eq] at h
  exact h.1.1

theorem idleStop_beltLaw {s : State} (h : BeltLaw s) : BeltLaw (idleStop s) := by
  unfold idleStop; split
  · next hd =>
    rw [beltLaw_iff] at h ⊢
    exact standStill_lawful h (by simp [idleDue_running hd]) (by simp) (by simp)
  · exact h

theorem enterRunning_beltLaw {s : State} (h : BeltLaw s) (hs : s.belt.state ≠ .halted) : BeltLaw (enterRunning s) := by
  rw [beltLaw_iff] at h ⊢
  exact enterRunning_lawful h.toMeasured (h.causes_empty hs)

theorem standStill_beltLaw {s : State} (h : BeltLaw s) (hs : s.belt.state ≠ .halted) {b : BeltState}
    (hr : b ≠ .running) (hb : b ≠ .halted) : BeltLaw (standStill b s) := by
  rw [beltLaw_iff] at h ⊢
  exact standStill_lawful h hs hr hb

theorem recordChain_beltLaw {s : State} (h : BeltLaw s) : BeltLaw (recordCause addChain s) := by
  rw [beltLaw_iff] at h ⊢
  exact recordCause_lawful h addChain_ne h.tail

theorem recordTail_beltLaw {s : State} (h : BeltLaw s) :
    BeltLaw (recordCause addTail (s.modBelt fun b => { b with tailFull := true })) := by
  rw [beltLaw_iff] at h ⊢
  exact recordCause_lawful { h with tail := by simp } addTail_ne (by simp)

/-- No cause but TAIL_FULL is recorded, so that its removal empties the set (R13). -/
def Causes.onlyTail (c : Causes) : Prop := c.stopChain = false ∧ c.encoderLoss = false

theorem Causes.onlyTail_iff (c : Causes) : c.onlyTail ↔ { c with tailFull := false } = ({} : Causes) := by
  simp [Causes.onlyTail]

/-- A HALTED belt with no other cause resumes as TAIL_FULL is removed (R13). -/
theorem removeTail_resumes {s : State} (hs : s.belt.state = .halted) (hc : s.belt.causes.onlyTail) :
    removeTail s = enterRunning (s.modBelt fun b => { b with tailFull := false, causes := {} }) := by
  have he := (Causes.onlyTail_iff _).mp hc
  exact (if_pos ⟨hs, he⟩).trans (by simp only [State.modBelt, he])

/-- Any other belt only loses the cause and the level (R13). -/
theorem removeTail_stays {s : State} (h : ¬(s.belt.state = .halted ∧ s.belt.causes.onlyTail)) :
    removeTail s
      = s.modBelt fun b => { b with tailFull := false, causes := { b.causes with tailFull := false } } :=
  if_neg fun hc => h ⟨hc.1, (Causes.onlyTail_iff _).mpr hc.2⟩

/-- TAIL_FULL removed leaves a set that is empty outside HALTED, and a HALTED belt with an empty set resumes (R13). -/
theorem removeTail_beltLaw {s : State} (h : BeltLaw s) : BeltLaw (removeTail s) := by
  rw [beltLaw_iff] at h ⊢
  by_cases hc : s.belt.state = .halted ∧ s.belt.causes.onlyTail
  · rw [removeTail_resumes hc.1 hc.2]
    exact enterRunning_lawful ⟨h.speed, h.clean, h.overspeed⟩ rfl
  · rw [removeTail_stays hc]
    refine { h with tail := by simp, cause := ⟨fun hs he => hc ⟨hs, (Causes.onlyTail_iff _).mpr he⟩, fun hne => ?_⟩ }
    by_contra hs
    exact hne (by simp [h.causes_empty hs])

theorem restartBelt_lawful {b : Belt} (h : b.Lawful) : (restartBelt b).Lawful where
  speed := by simp [restartBelt]
  clean := h.clean
  overspeed := h.overspeed
  motor := by simp only [restartBelt]; split <;> simp
  cause := by
    rw [show (restartBelt b).causes = b.causes from rfl, ← h.cause]
    simp only [restartBelt]; split <;> simp_all
  guard := by simp [restartBelt]
  zeros := by simp [restartBelt]
  tail := h.tail

theorem tickBelt_lawful (s : State) {b : Belt} (h : b.Lawful) : (tickBelt s b).Lawful :=
  { h with guard := fun hs => by simp [tickBelt, h.guard hs] }

end Sys2Proof.Machine
end

section
/-! SUPPORT. Every block's answer and every event keeps the belt law (R4, R5, R6, R11, R13, R14). -/

namespace Sys2Proof.Machine

/-! ### Blocks that leave the belt alone -/

@[simp] theorem changeDest_belt (d : DestId) (f : Dest → Dest) (s : State) : (changeDest d f s).belt = s.belt :=
  belt_of_kept (changeDest_kept d f s)

@[simp] theorem beginWatch_belt (g : GateId) (s : State) : (beginWatch g s).belt = s.belt :=
  belt_of_kept (beginWatch_kept g s)

@[simp] theorem gainRerouting_belt (c : Holds → Bool) (f : Holds → Holds) (ds : List DestId) (s : State) :
    (gainRerouting c f ds s).belt = s.belt := belt_of_kept (gainRerouting_kept c f ds s)

@[simp] theorem applyRack_belt (d : DestId) (o : RackOutcome) (s : State) : (applyRack d o s).belt = s.belt :=
  belt_of_kept (applyRack_kept d o s)

@[simp] theorem decideRoute_belt (r : EntryRef) (o : Option DestId) (s : State) : (decideRoute r o s).belt = s.belt :=
  belt_of_kept (decideRoute_kept r o s)

@[simp] theorem offerNotice_belt (st : Station) (n : Notice) (s : State) : (offerNotice st n s).belt = s.belt :=
  belt_of_kept (offerNotice_kept st n s)

/-- A request on a destination number answers as its own rule does, or refuses (R99 check 1). -/
theorem withDest_belt {pl : List Byte} {s : State} {f : DestId → Answer} (h : ∀ d, (f d).state.belt = s.belt) :
    (withDest pl s f).state.belt = s.belt := by
  unfold withDest; split
  · rfl
  · exact h _

theorem handleClaim_belt (q : Sender) (pl : List Byte) (s : State) : (handleClaim q pl s).state.belt = s.belt :=
  withDest_belt fun d => by dsimp only; split_ifs <;> simp [recordReply]

theorem handleOpen_belt (q : Sender) (pl : List Byte) (s : State) : (handleOpen q pl s).state.belt = s.belt :=
  withDest_belt fun d => by split_ifs <;> [skip; split] <;> simp [recordReply]

theorem handleClose_belt (q : Sender) (pl : List Byte) (s : State) : (handleClose q pl s).state.belt = s.belt :=
  withDest_belt fun d => by split_ifs <;> [skip; split] <;> simp [recordReply]

theorem handleSetSlots_belt (q : Sender) (pl : List Byte) (s : State) : (handleSetSlots q pl s).state.belt = s.belt :=
  withDest_belt fun d => by split_ifs <;> [skip; split] <;> simp [recordReply]

theorem handleClearFull_belt (q : Sender) (pl : List Byte) (s : State) : (handleClearFull q pl s).state.belt = s.belt :=
  withDest_belt fun d => by split_ifs <;> [skip; split] <;> simp [recordReply]

theorem handleRelease_belt (q : Sender) (pl : List Byte) (s : State) : (handleRelease q pl s).state.belt = s.belt :=
  withDest_belt fun d => by
    have := belt_of_kept (completeRelease_kept d s)
    split
    · rfl
    · split
      case h_1 => split <;> simp [recordReply, this]
      all_goals rfl

theorem handleForceRelease_belt (q : Sender) (pl : List Byte) (s : State) :
    (handleForceRelease q pl s).state.belt = s.belt :=
  withDest_belt fun d => by
    have := belt_of_kept (beginRelease_kept d s)
    split <;> simp [recordReply, this]

theorem handleQueryDest_belt (q : Sender) (pl : List Byte) (s : State) : (handleQueryDest q pl s).state.belt = s.belt :=
  withDest_belt fun _ => rfl

theorem orphanAll_belt (q : Sender) (s : State) : (orphanAll q s).belt = s.belt :=
  forEach_keeps State.belt _ (fun _ _ => changeDest_belt _ _ _) _ s

theorem unorphanAll_belt (q : Sender) (s : State) : (unorphanAll q s).belt = s.belt :=
  forEach_keeps State.belt _ (fun _ _ => changeDest_belt _ _ _) _ s

theorem loseLink_belt (l : LinkState) (q : Sender) (s : State) : (loseLink l q s).belt = s.belt := by
  rw [loseLink, orphanAll_belt]; cases q <;> rfl

theorem takeHello_belt (q : Sender) (s : State) : (takeHello q s).belt = s.belt := by
  unfold takeHello; split
  case h_3 => split <;> [rw [enterActive, unorphanAll_belt]; skip] <;> cases q <;> rfl
  all_goals rfl

theorem takeGoodbye_belt (q : Sender) (s : State) : (takeGoodbye q s).belt = s.belt := by
  unfold takeGoodbye; split <;> first | exact loseLink_belt _ _ _ | rfl

theorem writeList_belt (q : Sender) (t : Option RouteTarget) (m : List Byte) (s : State) :
    (writeList q t m s).state.belt = s.belt := by
  unfold writeList; dsimp only; split
  · rfl
  · next t => split_ifs <;> first | rfl | (cases t <;> rfl)

theorem handleWriteRoute_belt (q : Sender) (pl : List Byte) (s : State) :
    (handleWriteRoute q pl s).state.belt = s.belt := by
  cases q <;> exact writeList_belt _ _ _ _

theorem handleReadRoute_belt (q : Sender) (pl : List Byte) (s : State) :
    (handleReadRoute q pl s).state.belt = s.belt := by
  unfold handleReadRoute; split <;> rfl

theorem makeRoom_belt (s : State) : (makeRoom s).belt = s.belt := by
  unfold makeRoom evict
  split_ifs
  · split
    · rfl
    · rw [offerNotice_belt]; rfl
  · rfl

theorem handleRegisterPattern_belt (q : Sender) (pl : List Byte) (s : State) :
    (handleRegisterPattern q pl s).state.belt = s.belt := by
  unfold handleRegisterPattern; split
  · rfl
  · dsimp only; split_ifs
    · rfl
    · split
      · exact makeRoom_belt s
      · split <;> rfl

theorem handleDropPattern_belt (q : Sender) (pl : List Byte) (s : State) :
    (handleDropPattern q pl s).state.belt = s.belt := by
  unfold handleDropPattern; split
  · rfl
  · dsimp only; split_ifs
    · rfl
    · split
      · rfl
      · split <;> rfl

theorem handleClearPatterns_belt (q : Sender) (pl : List Byte) (s : State) :
    (handleClearPatterns q pl s).state.belt = s.belt := by
  unfold handleClearPatterns; split <;> rfl

theorem handleSetGate_belt (q : Sender) (pl : List Byte) (s : State) : (handleSetGate q pl s).state.belt = s.belt := by
  unfold handleSetGate; split
  · rfl
  · unfold setGateOf storeGate gateReply; dsimp only
    split_ifs <;> first | rfl | (split <;> first | rfl | exact beginWatch_belt _ _)

theorem storeDest_belt (d : DestId) (pl : List Byte) (s : State) : (storeDest d pl s).belt = s.belt := by
  unfold storeDest; dsimp only
  rw [apply_ite State.belt]
  simp

theorem handleSetDest_belt (q : Sender) (pl : List Byte) (s : State) : (handleSetDest q pl s).state.belt = s.belt := by
  unfold handleSetDest; split
  · rfl
  · split_ifs <;> [rfl; exact storeDest_belt _ _ _]

theorem handleTestFire_belt (q : Sender) (pl : List Byte) (s : State) :
    (handleTestFire q pl s).state.belt = s.belt := by
  unfold handleTestFire; split
  · split_ifs <;> rfl
  · rfl
  · rfl

theorem handleTakeGateOut_belt (q : Sender) (pl : List Byte) (s : State) :
    (handleTakeGateOut q pl s).state.belt = s.belt := by
  unfold handleTakeGateOut; split
  · rfl
  · split_ifs <;> first | rfl | exact belt_of_kept (gateOut_kept _ _)

theorem handleReturnGate_belt (q : Sender) (pl : List Byte) (s : State) :
    (handleReturnGate q pl s).state.belt = s.belt := by
  unfold handleReturnGate; split
  · rfl
  · split_ifs <;> simp [refuse, gateBack]

theorem handleReadTest_belt (q : Sender) (pl : List Byte) (s : State) :
    (handleReadTest q pl s).state.belt = s.belt := by
  unfold handleReadTest; dsimp only; split_ifs <;> rfl

theorem handleReadFault_belt (q : Sender) (pl : List Byte) (s : State) :
    (handleReadFault q pl s).state.belt = s.belt := by
  unfold handleReadFault; split
  · rfl
  · dsimp only; split <;> rfl

theorem handleReadMap_belt (q : Sender) (pl : List Byte) (s : State) : (handleReadMap q pl s).state.belt = s.belt := by
  unfold handleReadMap; split <;> rfl

theorem handleReadSnapshot_belt (q : Sender) (pl : List Byte) (s : State) :
    (handleReadSnapshot q pl s).state.belt = s.belt := by
  unfold handleReadSnapshot; split <;> rfl

/-! ### Blocks that move the belt -/

theorem storeSettings_beltLaw (t : Settings) {s : State} (h : BeltLaw s) : BeltLaw (storeSettings t s) := by
  have h1 : BeltLaw (idleStop { s with settings := t }) := idleStop_beltLaw h
  exact beltLaw_congr (gainRerouting_belt _ _ _ _) h1

theorem handleSetBelt_beltLaw (q : Sender) (pl : List Byte) {s : State} (h : BeltLaw s) :
    BeltLaw (handleSetBelt q pl s).state := by
  unfold handleSetBelt; dsimp only; split
  · exact h
  · split
    · exact h
    · exact storeSettings_beltLaw _ h

theorem handleCommission_beltLaw (q : Sender) (pl : List Byte) {s : State} (h : BeltLaw s) :
    BeltLaw (handleCommission q pl s).state := by
  unfold handleCommission; split
  · exact h
  · next hc =>
    have hu : s.belt.state = .unconfigured := by simpa [State.commissioned] using hc
    have h1 : BeltLaw (standStill .stopped s) := standStill_beltLaw h (by simp [hu]) (by simp) (by simp)
    split
    · exact h
    · refine beltLaw_congr (forEach_keeps State.belt _ (fun _ _ => beginWatch_belt _ _) _ _) ?_
      rw [beltLaw_iff] at h1 ⊢
      exact { h1 with }

theorem handleStart_beltLaw (q : Sender) (pl : List Byte) {s : State} (h : BeltLaw s) :
    BeltLaw (handleStart q pl s).state := by
  unfold handleStart; split
  case h_1 hs | h_2 hs => split <;> [exact h; exact enterRunning_beltLaw h (by simp [hs])]
  all_goals exact h

theorem handleStop_beltLaw (q : Sender) (pl : List Byte) {s : State} (h : BeltLaw s) :
    BeltLaw (handleStop q pl s).state := by
  unfold handleStop; split
  case h_1 hs | h_2 hs => exact standStill_beltLaw h (by simp [hs]) (by simp) (by simp)
  all_goals exact h

@[simp] theorem discardSuspect_kept (e : Entry) (s : State) : (discardSuspect e s).kept = s.kept := by
  unfold discardSuspect; dsimp only; split <;> simp

@[simp] theorem discardSuspects_kept (s : State) : (discardSuspects s).kept = s.kept :=
  forEach_keeps State.kept _ discardSuspect_kept _ s

theorem handleResume_beltLaw (q : Sender) (pl : List Byte) {s : State} (h : BeltLaw s) :
    BeltLaw (handleResume q pl s).state := by
  unfold handleResume; split
  · split
    · rw [beltLaw_iff] at h
      show BeltLaw (resumeHalted s)
      rw [beltLaw_iff]
      have hb : (discardSuspects (s.modBelt fun b => { b with causes := {} })).belt = { s.belt with causes := {} } :=
        belt_of_kept (discardSuspects_kept _)
      unfold resumeHalted; dsimp only
      split
      · exact enterRunning_lawful (by rw [hb]; exact ⟨h.speed, h.clean, h.overspeed⟩) (by rw [hb])
      · exact enterRunning_lawful ⟨h.speed, h.clean, h.overspeed⟩ rfl
    · exact h
  all_goals exact h

/-- RESTART's part of the belt, whatever its other blocks do (R18). -/
theorem restartPart_belt (s : State) : (restartPart s).belt = restartBelt s.belt := by
  have h1 : (endToken .aborted s).belt = s.belt := belt_of_kept (endToken_kept _ s)
  refine (forEach_keeps State.belt _ (fun d s => ?_) allDests _).trans ?_
  · unfold settleRestarted; split
    · simp
    · exact belt_of_kept (completeRelease_kept d s)
    all_goals rfl
  · simp [restartReader, h1]

theorem handleRestart_beltLaw (q : Sender) (pl : List Byte) {s : State} (h : BeltLaw s) :
    BeltLaw (handleRestart q pl s).state := by
  rw [beltLaw_iff] at h ⊢
  show (restartPart s).belt.Lawful
  rw [restartPart_belt]
  exact restartBelt_lawful h

/-- Every owning block's answer keeps the belt law. -/
theorem handlerOf_beltLaw (k : Kind) (q : Sender) (pl : List Byte) {s : State} (h : BeltLaw s) :
    BeltLaw (handlerOf k q pl s).state := by
  cases k with
  | setBelt => exact handleSetBelt_beltLaw q pl h
  | commission => exact handleCommission_beltLaw q pl h
  | start => exact handleStart_beltLaw q pl h
  | stop => exact handleStop_beltLaw q pl h
  | resume => exact handleResume_beltLaw q pl h
  | restart => exact handleRestart_beltLaw q pl h
  | hello => exact beltLaw_congr (takeHello_belt q s) h
  | goodbye => exact beltLaw_congr (takeGoodbye_belt q s) h
  | claim => exact beltLaw_congr (handleClaim_belt q pl s) h
  | release => exact beltLaw_congr (handleRelease_belt q pl s) h
  | openDest => exact beltLaw_congr (handleOpen_belt q pl s) h
  | closeDest => exact beltLaw_congr (handleClose_belt q pl s) h
  | setSlots => exact beltLaw_congr (handleSetSlots_belt q pl s) h
  | clearFull => exact beltLaw_congr (handleClearFull_belt q pl s) h
  | queryDest => exact beltLaw_congr (handleQueryDest_belt q pl s) h
  | forceRelease => exact beltLaw_congr (handleForceRelease_belt q pl s) h
  | writeRoute => exact beltLaw_congr (handleWriteRoute_belt q pl s) h
  | readRoute => exact beltLaw_congr (handleReadRoute_belt q pl s) h
  | setList => exact beltLaw_congr (writeList_belt q _ _ s) h
  | registerPattern => exact beltLaw_congr (handleRegisterPattern_belt q pl s) h
  | dropPattern => exact beltLaw_congr (handleDropPattern_belt q pl s) h
  | clearPatterns => exact beltLaw_congr (handleClearPatterns_belt q pl s) h
  | setGate => exact beltLaw_congr (handleSetGate_belt q pl s) h
  | setDest => exact beltLaw_congr (handleSetDest_belt q pl s) h
  | testFire => exact beltLaw_congr (handleTestFire_belt q pl s) h
  | readTest => exact beltLaw_congr (handleReadTest_belt q pl s) h
  | takeGateOut => exact beltLaw_congr (handleTakeGateOut_belt q pl s) h
  | returnGate => exact beltLaw_congr (handleReturnGate_belt q pl s) h
  | readFault => exact beltLaw_congr (handleReadFault_belt q pl s) h
  | readMap => exact beltLaw_congr (handleReadMap_belt q pl s) h
  | readSnapshot => exact beltLaw_congr (handleReadSnapshot_belt q pl s) h
  | snapshot | snapshotClear | readConditions | setEnables | itemReport => exact beltLaw_congr rfl h

end Sys2Proof.Machine
end

section
namespace Sys2Proof.Machine

/-! ### Frames -/

theorem goodOnPort_belt (q : Sender) (s : State) : (goodOnPort q s).belt = s.belt := by
  simp [goodOnPort, syncConditions]

theorem badOnPort_belt (p : Port) (s : State) : (badOnPort p s).belt = s.belt := by
  cases p <;> simp [badOnPort]

theorem takeOnPort_beltLaw (q : Sender) (tag kind : Byte) {serve : State → Answer}
    (hv : ∀ s, BeltLaw s → BeltLaw (serve s).state) {s : State} (h : BeltLaw s) :
    BeltLaw (takeOnPort q tag kind serve s) :=
  takeOnPort_keeps BeltLaw (fun p s => beltLaw_congr (badOnPort_belt p s))
    (fun q s => beltLaw_congr (goodOnPort_belt q s)) (fun _ _ _ => beltLaw_congr rfl) q tag kind serve hv s h

theorem takeRequest_beltLaw (k : Kind) (p : Port) (tag : Byte) (pl : List Byte) {s : State} (h : BeltLaw s) :
    BeltLaw (takeRequest k (handlerOf k) p tag pl s) := by
  cases p with
  | identifier => exact beltLaw_congr (badOnPort_belt _ s) h
  | sender q =>
    exact takeOnPort_beltLaw q tag k.code
      (serveKind_keeps BeltLaw k _ (fun q pl _ h => handlerOf_beltLaw k q pl h) q pl) h

theorem takeUnknown_beltLaw (p : Port) (kind tag : Byte) {s : State} (h : BeltLaw s) :
    BeltLaw (takeUnknown p kind tag s) := by
  cases p with
  | identifier => exact beltLaw_congr (badOnPort_belt _ s) h
  | sender q => exact takeOnPort_beltLaw q tag kind (fun _ h => h) h

@[simp] theorem giveUp_belt (r : EntryRef) (s : State) : (giveUp r s).belt = s.belt := by
  simp [giveUp]

theorem takeReport_belt (ref : EntryRef) (r : ItemReport) (s : State) : (takeReport ref r s).belt = s.belt := by
  simp only [takeReport, decideRoute_belt, raisePart_eq, raise_belt]
  split <;> rfl

theorem matchReport_belt (r : ItemReport) (s : State) : (matchReport r s).belt = s.belt := by
  unfold matchReport; split
  · rfl
  · rw [takeReport_belt]
    exact forEach_keeps State.belt _ giveUp_belt _ s

theorem takeItemReport_beltLaw (p : Port) (tag : Byte) (pl : List Byte) {s : State} (h : BeltLaw s) :
    BeltLaw (takeItemReport p tag pl s) := by
  unfold takeItemReport; split
  · exact takeUnknown_beltLaw _ _ _ h
  · split
    · exact beltLaw_congr (matchReport_belt _ _) h
    · exact beltLaw_congr (badOnPort_belt _ s) h

theorem settleIdle_beltLaw {s : State} (h : BeltLaw s) : BeltLaw (settleIdle s) := by
  obtain ⟨b, hb, hs⟩ := settleIdle_eq s
  rw [hb]; exact beltLaw_still hs h

theorem beltLaw_lineInvariant : LineInvariant BeltLaw where
  receiver _ _ _ := beltLaw_congr rfl
  bad p s := beltLaw_congr (badOnPort_belt p s)
  request k p tag pl _ := takeRequest_beltLaw k p tag pl
  unknown p kind tag _ := takeUnknown_beltLaw p kind tag
  report p tag pl _ := takeItemReport_beltLaw p tag pl
  idle _ := settleIdle_beltLaw

/-! ### Events -/

/-- An event keeps the law where its change does. -/
theorem event_beltLaw {f : State → State} (hf : ∀ s, BeltLaw s → BeltLaw (f s)) : Keeps BeltLaw (event f) :=
  event_keeps (P := BeltLaw) settle_beltLaw hf

/-- An event that leaves the belt alone keeps the law. -/
theorem event_beltLaw_kept {f : State → State} (hf : ∀ s, (f s).belt = s.belt) : Keeps BeltLaw (event f) :=
  event_beltLaw fun s => beltLaw_congr (hf s)

/-- A change of an input keeps the law where its act does; the level is no part of the belt. -/
theorem inputEvent_beltLaw {pin : State → State} {act : State → State → State}
    (hp : ∀ s, (pin s).belt = s.belt) (ha : ∀ s₀ s, BeltLaw s → BeltLaw (act s₀ s)) :
    Keeps BeltLaw fun s => inputEvent pin (act s) s :=
  inputEvent_keeps (P := BeltLaw) settle_beltLaw (fun s => beltLaw_congr (hp s)) ha

/-- A change of the belt's filters keeps the law. -/
theorem beltLaw_filters {s : State} (h : BeltLaw s) (m n : Nat) :
    BeltLaw (s.modBelt fun b => { b with infeedMs := m, tailMs := n }) := by
  rw [beltLaw_iff] at h ⊢
  exact { h with }

theorem runGuard_beltLaw {s : State} (h : BeltLaw s) : BeltLaw (s.modBelt fun b => { b with runGuard := none }) := by
  rw [beltLaw_iff] at h ⊢
  exact { h with guard := fun _ => rfl }

theorem commitCapture_belt (r : Pos) (s : State) : (commitCapture r s).belt = s.belt := by
  unfold commitCapture offerCapture; dsimp only
  split
  · rfl
  · unfold makePendingRoom
    split
    · rfl
    · show (State.belt (ite _ _ _)) = _
      rw [apply_ite State.belt, giveUp_belt, ite_self]; rfl

theorem closeCapture_belt (x : Tag) (m : Bool) (n : Nat) (c : Bool) (s : State) :
    (closeCapture x m n c s).belt = s.belt := by
  unfold closeCapture; split <;> rfl

theorem endCapture_belt (r : Pos) (s : State) : (endCapture r s).belt = s.belt := by
  unfold endCapture; split <;> first | rfl | exact closeCapture_belt _ _ _ _ _

theorem eyeBlocks_belt (s : State) : (eyeBlocks s).belt = s.belt := by
  unfold eyeBlocks; split <;> rfl

theorem eyeClears_belt (s : State) : (eyeClears s).belt = s.belt := by
  unfold eyeClears; split
  · split
    · rfl
    · rw [endCapture_belt, commitCapture_belt]
  · exact endCapture_belt _ s
  · rfl
  · rfl

theorem takeSilence_belt (q : Sender) (s : State) : (takeSilence q s).belt = s.belt := by
  unfold takeSilence; split <;> rfl

theorem offerDests_belt (l : List DestId) (s : State) : (forEach l offerDest s).belt = s.belt :=
  forEach_keeps State.belt _ (fun d s => belt_of_kept (offerDest_kept d s)) l s

theorem startEyes_belt (s : State) : (startEyes s).belt = s.belt :=
  forEach_keeps State.belt (fun d s => s.modDest d fun r => { r with eye := eyeAtRelease (s.confirmEye d) })
    (fun _ _ => rfl) allDests s

theorem releasePart_belt (s : State) : (releasePart s).belt = s.belt := by
  rw [releasePart, modReader_belt, startEyes_belt]

theorem wake_state {s : State} (h : wakeDue s = true) : s.belt.state = .idleStopped := by
  simp only [wakeDue, Bool.and_eq_true, beq_iff_eq] at h
  exact h.1.1

/-! ### Commands and steps -/

/-- Both resets leave the belt as after reset, which is lawful (R17). -/
theorem resetPart_beltLaw (s : State) : BeltLaw (resetPart s) := by
  simp [BeltLaw, resetPart, State.reset]

theorem execPowerOnReset_beltLaw : Keeps BeltLaw execPowerOnReset := fun s t _ e => by
  cases e; exact resetPart_beltLaw s

theorem execResetRelease_beltLaw : Keeps BeltLaw execResetRelease := fun s t h e => by
  unfold execResetRelease at e
  cases e
  split
  · exact settle_beltLaw _ (beltLaw_congr (releasePart_belt s) h)
  · exact h

theorem execSpeedWindowEnd_beltLaw : Keeps BeltLaw execSpeedWindowEnd :=
  event_beltLaw fun _ h => by split <;> [exact takeWindowEnd_beltLaw h; exact h]

theorem execRunGuardElapsed_beltLaw : Keeps BeltLaw execRunGuardElapsed :=
  event_beltLaw fun _ h => by split <;> [exact runGuard_beltLaw h; exact h]

theorem execInfeedWake_beltLaw : Keeps BeltLaw execInfeedWake :=
  event_beltLaw fun s h => by
    split
    · next hd => exact enterRunning_beltLaw h (by simp [wake_state hd])
    · exact h

theorem execInfeedEyeChange_beltLaw (b : Bool) : Keeps BeltLaw (execInfeedEyeChange b) :=
  inputEvent_beltLaw (fun _ => rfl) fun s₀ s h => by
    by_cases hb : s₀.pins.infeedEye = b
    · rw [if_pos hb]; exact h
    · rw [if_neg hb]; exact beltLaw_filters h 0 s.belt.tailMs

theorem execTailFullInputChange_beltLaw (b : Bool) : Keeps BeltLaw (execTailFullInputChange b) :=
  inputEvent_beltLaw (fun _ => rfl) fun s₀ s h => by
    by_cases hb : s₀.pins.tailFull = b
    · rw [if_pos hb]; exact h
    · rw [if_neg hb]; exact beltLaw_filters h s.belt.infeedMs 0

theorem execStopChainOpen_beltLaw : Keeps BeltLaw execStopChainOpen :=
  inputEvent_beltLaw (fun _ => rfl) fun s₀ s h => by split <;> [exact h; exact recordChain_beltLaw h]

theorem execTailFullAsserted_beltLaw : Keeps BeltLaw execTailFullAsserted :=
  event_beltLaw fun _ h => by split <;> [exact recordTail_beltLaw h; exact h]

theorem execTailFullCleared_beltLaw : Keeps BeltLaw execTailFullCleared :=
  event_beltLaw fun _ h => by split <;> [exact removeTail_beltLaw h; exact h]

theorem execReadEyeBlock_beltLaw : Keeps BeltLaw execReadEyeBlock :=
  inputEvent_beltLaw (fun _ => rfl) fun s₀ s h => by split <;> [exact h; exact beltLaw_congr (eyeBlocks_belt s) h]

theorem execReadEyeClear_beltLaw : Keeps BeltLaw execReadEyeClear :=
  inputEvent_beltLaw (fun _ => rfl) fun s₀ s h => by split <;> [exact beltLaw_congr (eyeClears_belt s) h; exact h]

theorem execCaptureCommit_beltLaw : Keeps BeltLaw execCaptureCommit :=
  event_beltLaw_kept fun s => by split <;> [exact commitCapture_belt _ s; rfl]

theorem execLengthClamp_beltLaw : Keeps BeltLaw execLengthClamp :=
  event_beltLaw_kept fun s => by split <;> [exact closeCapture_belt _ _ _ _ s; rfl]

theorem execItemReport_beltLaw (p : Port) (tag : Byte) (pl : List Byte) : Keeps BeltLaw (execItemReport p tag pl) :=
  event_beltLaw fun _ h => takeItemReport_beltLaw p tag pl (beltLaw_lineInvariant.hunt p h)

theorem execIdWindowExpiry_beltLaw (x : Tag) : Keeps BeltLaw (execIdWindowExpiry x) :=
  event_beltLaw_kept fun s => by
    split
    · rfl
    · split <;> simp

theorem execArming_beltLaw (r : EntryRef) : Keeps BeltLaw (execArming r) :=
  event_beltLaw_kept fun s => by
    split
    · rfl
    · split <;> [rfl; exact belt_of_kept (armEntry_kept _ _ _ _ s)]

theorem execFireTarget_beltLaw (g : GateId) : Keeps BeltLaw (execFireTarget g) :=
  event_beltLaw_kept fun s => by
    split
    · rfl
    · split <;> [exact belt_of_kept (fire_kept _ _ _ _ s); exact belt_of_kept (missedFire_kept _ _ _ s)]

theorem execTailArrival_beltLaw (x : Tag) : Keeps BeltLaw (execTailArrival x) :=
  event_beltLaw_kept fun s => by
    split
    · rfl
    · split <;> rfl

theorem execGateCycleEnd_beltLaw (g : GateId) : Keeps BeltLaw (execGateCycleEnd g) :=
  event_beltLaw_kept fun s => by split <;> simp

theorem execExtendedSwitchChange_beltLaw (g : GateId) (side : Side) (b : Bool) :
    Keeps BeltLaw (execExtendedSwitchChange g side b) :=
  inputEvent_beltLaw (fun _ => rfl) fun s₀ s h => by
    split
    · exact h
    · split <;> [exact beltLaw_congr (belt_of_kept (switchGoesExtended_kept _ _ s)) h; exact h]

theorem execActuatorCheckDeadline_beltLaw (g : GateId) : Keeps BeltLaw (execActuatorCheckDeadline g) :=
  event_beltLaw_kept fun s => by split <;> [exact belt_of_kept (checkFails_kept _ _ s); rfl]

theorem execConfirmEyeChange_beltLaw (d : DestId) (b : Bool) : Keeps BeltLaw (execConfirmEyeChange d b) :=
  inputEvent_beltLaw (fun _ => rfl) fun s₀ s h => by split <;> exact beltLaw_congr rfl h

theorem execConfirmEyeSighting_beltLaw (d : DestId) : Keeps BeltLaw (execConfirmEyeSighting d) :=
  event_beltLaw_kept fun s => by split <;> [exact belt_of_kept (sighting_kept d _); rfl]

theorem execConfirmWindowExpiry_beltLaw (d : DestId) (x : Tag) : Keeps BeltLaw (execConfirmWindowExpiry d x) :=
  event_beltLaw_kept fun s => by split <;> [exact belt_of_kept (miss_kept d _ s); rfl]

theorem execChuteBlock_beltLaw (d : DestId) : Keeps BeltLaw (execChuteBlock d) :=
  event_beltLaw_kept fun s => by split <;> simp

theorem execChuteBlockClear_beltLaw (d : DestId) : Keeps BeltLaw (execChuteBlockClear d) :=
  event_beltLaw_kept fun s => by split <;> simp

theorem execRackSensorChange_beltLaw (d : DestId) (b : Bool) : Keeps BeltLaw (execRackSensorChange d b) :=
  inputEvent_beltLaw (fun _ => rfl) fun s₀ s h => by split <;> exact beltLaw_congr rfl h

theorem execFrameGapTimeout_beltLaw (p : Port) : Keeps BeltLaw (execFrameGapTimeout p) :=
  event_beltLaw fun _ h => by split <;> [exact beltLaw_lineInvariant.ended p h; exact h]

theorem execUnknownKind_beltLaw (p : Port) (kind tag : Byte) (pl : List Byte) :
    Keeps BeltLaw (execUnknownKind p kind tag pl) :=
  event_beltLaw fun _ h => beltLaw_lineInvariant.goodFrame p kind tag pl (beltLaw_lineInvariant.hunt p h)

theorem execLinkSilence1000_beltLaw (q : Sender) : Keeps BeltLaw (execLinkSilence1000 q) :=
  event_beltLaw_kept fun s => by split <;> [exact takeSilence_belt q s; rfl]

theorem execLinkLapse_beltLaw (q : Sender) : Keeps BeltLaw (execLinkLapse q) :=
  event_beltLaw_kept fun s => by split <;> [exact loseLink_belt _ q s; rfl]

theorem execDestStateRefresh_beltLaw : Keeps BeltLaw execDestStateRefresh :=
  event_beltLaw_kept fun s => by split <;> [exact offerDests_belt _ _; rfl]

/-- A request's frame keeps the law, by its owning block's answer. -/
theorem frameEvent_beltLaw (k : Kind) (p : Port) (tag : Byte) (pl : List Byte) :
    Keeps BeltLaw (frameEvent k (handlerOf k) p tag pl) :=
  frameEvent_keeps settle_beltLaw beltLaw_lineInvariant k p tag pl

/-- Every command keeps the belt law. -/
theorem exec_beltLaw (c : Instr) : Keeps BeltLaw (exec c) := by
  cases c with
  | powerOnReset | resetPin => exact execPowerOnReset_beltLaw
  | resetRelease => exact execResetRelease_beltLaw
  | encoderPulse => exact event_beltLaw fun _ => takePulse_beltLaw
  | speedWindowEnd => exact execSpeedWindowEnd_beltLaw
  | runGuardElapsed => exact execRunGuardElapsed_beltLaw
  | idleExpiry => exact event_beltLaw fun _ => idleStop_beltLaw
  | infeedWake => exact execInfeedWake_beltLaw
  | infeedEyeChange b => exact execInfeedEyeChange_beltLaw b
  | tailFullInputChange b => exact execTailFullInputChange_beltLaw b
  | stopChainOpen => exact execStopChainOpen_beltLaw
  | stopChainClose => exact inputEvent_beltLaw (fun _ => rfl) fun _ _ h => h
  | tailFullAsserted => exact execTailFullAsserted_beltLaw
  | tailFullCleared => exact execTailFullCleared_beltLaw
  | readEyeBlock => exact execReadEyeBlock_beltLaw
  | readEyeClear => exact execReadEyeClear_beltLaw
  | captureCommit => exact execCaptureCommit_beltLaw
  | lengthClamp => exact execLengthClamp_beltLaw
  | clearWaitEnd => exact event_beltLaw_kept fun _ => by split <;> rfl
  | itemReport p tag pl => exact execItemReport_beltLaw p tag pl
  | idWindowExpiry x => exact execIdWindowExpiry_beltLaw x
  | identifierSilent => exact event_beltLaw_kept fun _ => by split <;> rfl
  | arming r => exact execArming_beltLaw r
  | fireTarget g => exact execFireTarget_beltLaw g
  | tailArrival x => exact execTailArrival_beltLaw x
  | gateDriveOff g => exact event_beltLaw_kept fun _ => by split <;> rfl
  | gateCycleEnd g => exact execGateCycleEnd_beltLaw g
  | extendedSwitchChange g side b => exact execExtendedSwitchChange_beltLaw g side b
  | actuatorCheckDeadline g => exact execActuatorCheckDeadline_beltLaw g
  | confirmEyeChange d b => exact execConfirmEyeChange_beltLaw d b
  | confirmEyeSighting d => exact execConfirmEyeSighting_beltLaw d
  | confirmEyeClearSettled d => exact event_beltLaw_kept fun _ => by split <;> rfl
  | confirmWindowExpiry d x => exact execConfirmWindowExpiry_beltLaw d x
  | chuteBlock d => exact execChuteBlock_beltLaw d
  | chuteBlockClear d => exact execChuteBlockClear_beltLaw d
  | rackSensorChange d b => exact execRackSensorChange_beltLaw d b
  | rackSensorSettled d => exact event_beltLaw_kept fun s => applyRack_belt d _ s
  | badFrame p l => exact event_beltLaw (beltLaw_lineInvariant.line p l)
  | frameGapTimeout p => exact execFrameGapTimeout_beltLaw p
  | unknownKind p kind tag pl => exact execUnknownKind_beltLaw p kind tag pl
  | frameSent q => exact event_beltLaw_kept fun _ => rfl
  | linkSilence1000 q => exact execLinkSilence1000_beltLaw q
  | linkLapse q => exact execLinkLapse_beltLaw q
  | destStateRefresh => exact execDestStateRefresh_beltLaw
  | hello p tag pl | goodbye p tag pl | claim p tag pl | release p tag pl | openDest p tag pl | closeDest p tag pl
  | setSlots p tag pl | clearFull p tag pl | queryDest p tag pl | forceRelease p tag pl | writeRoute p tag pl
  | readRoute p tag pl | setList p tag pl | registerPattern p tag pl | dropPattern p tag pl
  | clearPatterns p tag pl | setBelt p tag pl | setGate p tag pl | setDest p tag pl | commission p tag pl
  | start p tag pl | stop p tag pl | resume p tag pl | restart p tag pl | testFire p tag pl | readTest p tag pl
  | takeGateOut p tag pl | returnGate p tag pl | readFault p tag pl | readMap p tag pl | snapshot p tag pl
  | snapshotClear p tag pl | readSnapshot p tag pl | readConditions p tag pl | setEnables p tag pl =>
    exact frameEvent_beltLaw _ p tag pl

theorem tick_beltLaw {s : State} (h : BeltLaw s) : BeltLaw (tick s) := by
  rw [beltLaw_iff] at h ⊢
  unfold tick; split
  · exact h
  · exact tickBelt_lawful s h

/-- Settles O58: each command, each event of the part's own and each millisecond keeps the law. -/
theorem stepsKeepBeltLaw : Obligations.StepsKeepBeltLaw := fun s t h =>
  step_keeps exec_beltLaw (fun _ => tick_beltLaw) (fun _ _ _ h => h) s t h

end Sys2Proof.Machine
end

section
/-! SUPPORT. The belt unit's events outside reset: the state each answers, and what it leaves alone. -/

namespace Sys2Proof.Machine

/-! ### Events in the open and the idle timer at their end -/

/-- A command that is an event answers, outside reset, its change as settled. -/
theorem exec_event {c : Instr} {f : State → State} (e : exec c = event f) {s : State} (hr : s.inReset = false) :
    exec c s = .next (settle (f s)) := by
  rw [e, event_next f s hr]

/-- A command that is an event with a condition answers, where the condition holds, its change as settled. -/
theorem exec_due {c : Instr} {due : State → Prop} [DecidablePred due] {act : State → State}
    (e : exec c = event fun s => if due s then act s else s) {s : State} (hr : s.inReset = false)
    (hd : due s) : exec c s = .next (settle (act s)) := by
  rw [exec_event e hr, if_pos hd]

/-- A command that is a change of an input answers, outside reset, its level and act as settled. -/
theorem exec_input {c : Instr} {pin act : State → State} {s : State} (e : exec c s = inputEvent pin act s)
    (hr : s.inReset = false) : exec c s = .next (settle (act (pin s))) := by
  rw [e, inputEvent_next pin act s hr]

/-- An idle timer at 0 is at 0 as the event ends. -/
theorem settle_idleMs {s : State} (h : s.belt.idleMs = 0) : (settle s).belt.idleMs = 0 := by
  rw [settle_belt]; unfold settleIdle; split
  · rfl
  · exact h

/-- A blocked infeed eye holds the idle timer at 0 (R9). -/
theorem settle_idleMs_infeed {s : State} (h : s.pins.infeedEye = true) : (settle s).belt.idleMs = 0 := by
  rw [settle_belt, settleIdle_of s (by simp [h])]; rfl

/-- A change within the belt, the inputs, the matcher and the count of free values leaves every other block alone. -/
theorem sameExcept_of_eq {l : List Block} {s t : State}
    (he : t = { s with belt := t.belt, pins := t.pins, matcher := t.matcher, draws := t.draws })
    (hb : .belt ∉ l → t.belt.still = s.belt.still) (hp : .pins ∉ l → t.pins = s.pins)
    (hm : .matcher ∉ l → t.matcher = s.matcher) : SameExcept l s t := by
  intro b hl
  have h0 := b.same_refl s
  rw [he]
  cases b
  case belt => exact hb hl
  case pins => exact hp hl
  case matcher => exact hm hl
  all_goals exact h0

theorem sameExcept_modBelt (f : Belt → Belt) (s : State) : SameExcept [.belt] s (s.modBelt f) :=
  sameExcept_of_eq rfl (by simp) (fun _ => rfl) (fun _ => rfl)

theorem sameExcept_standStill (b : BeltState) (s : State) : SameExcept [.belt] s (standStill b s) :=
  sameExcept_modBelt _ s

theorem sameExcept_enterRunning (s : State) : SameExcept [.belt, .matcher] s (enterRunning s) :=
  sameExcept_of_eq rfl (by simp) (fun _ => rfl) (by simp)

/-- Recording a cause moves the belt alone. -/
theorem sameExcept_recordCause (add : Causes → Causes) (s : State) : SameExcept [.belt] s (recordCause add s) := by
  unfold recordCause
  split
  case h_3 => exact sameExcept_modBelt _ s
  case h_4 | h_5 => exact sameExcept_refl _ s
  all_goals exact (sameExcept_modBelt _ s).trans (sameExcept_modBelt _ _)

/-! ### Causes (R11) -/

/-- A belt that runs or idles halts as a cause is recorded, with its idle timer at 0 (R11). -/
theorem recordCause_halts {add : Causes → Causes} {s : State}
    (h : s.belt.state = .running ∨ s.belt.state = .idleStopped) : recordCause add s = s.modBelt fun b =>
      { b with state := .halted, motor := false, runGuard := none, causes := add b.causes, idleMs := 0 } := by
  unfold recordCause
  rcases h with h | h <;> rw [h] <;> rfl

/-- A HALTED belt records the cause beside the others (R11). -/
theorem recordCause_joins {add : Causes → Causes} {s : State} (h : s.belt.state = .halted) :
    recordCause add s = s.modBelt fun b => { b with causes := add b.causes } := by
  unfold recordCause; rw [h]

/-- A STOPPED or UNCONFIGURED belt records nothing (R11). -/
theorem recordCause_nothing {add : Causes → Causes} {s : State}
    (h : s.belt.state = .stopped ∨ s.belt.state = .unconfigured) : recordCause add s = s := by
  unfold recordCause
  rcases h with h | h <;> rw [h]

end Sys2Proof.Machine

namespace Sys2Proof.Machine

/-! ### The belt's pulses and windows -/

/-- A pulse moves the belt alone, apart from the count of free values. -/
theorem sameExcept_takePulse (s : State) : SameExcept [.belt] s (takePulse s) := by
  unfold takePulse; split
  · unfold countPulse; split <;> exact sameExcept_of_eq rfl (by simp) (fun _ => rfl) (fun _ => rfl)
  · exact sameExcept_refl _ s

/-- Settles O6: the two cases of a pulse, on a RUNNING belt and on any other. -/
theorem pulseAdvancesRunningBelt : Obligations.PulseAdvancesRunningBelt := by
  intro s hr
  refine ⟨_, exec_event rfl hr, (sameExcept_takePulse s).settled, fun hs => ?_, fun hs => ?_⟩
  · have hp : takePulse s = countPulse (s.modBelt fun b => { b with p := b.p + 1 }) := by
      simp [takePulse, State.isRunning, hs]
    obtain ⟨c, hc, hn⟩ := countPulse_belt (s.modBelt fun b => { b with p := b.p + 1 })
    rw [settle_belt_still, settle_windowCount, hp, hc]
    exact ⟨rfl, hn⟩
  · have hp : takePulse s = s := by simp [takePulse, State.isRunning, hs]
    rw [settle_belt_still, hp]

/-- A window that brings no loss is the belt unit's own (R3, R14). -/
theorem takeWindowEnd_quiet {s : State} (h : ¬(s.belt.state = .running ∧ 8 ≤ nextZeroWindows s.belt)) :
    takeWindowEnd s = s.modBelt endWindow := by
  have hstate : (endWindow s.belt).state = s.belt.state := by rw [endWindow_eq]
  have hzero : (endWindow s.belt).zeroWindows = nextZeroWindows s.belt := rfl
  exact if_neg (by rwa [modBelt_belt, hstate, hzero])

/-- The guard's own test is the statement's (R14; log 31). -/
theorem guardElapsed_iff (b : Belt) :
    guardElapsed b = true ↔ b.runGuard = none ∨ ∃ ms, b.runGuard = some ms ∧ 1000 ≤ ms := by
  unfold guardElapsed guardLength
  cases b.runGuard <;> simp

/-- The zero windows of a running belt whose guard has elapsed are counted, and those of another stand (R14). -/
theorem nextZeroWindows_eq (b : Belt) : nextZeroWindows b
    = if b.state = .running ∧ (b.runGuard = none ∨ ∃ ms, b.runGuard = some ms ∧ 1000 ≤ ms) then
        if b.windowCount = 0 then b.zeroWindows + 1 else 0
      else b.zeroWindows := by
  simp only [nextZeroWindows, guardElapsed_iff]

/-- Settles O7: the window's own change of the belt, with OVERSPEED by its four cases. -/
theorem windowEndUpdatesSpeed : Obligations.WindowEndUpdatesSpeed := by
  intro s hr hw hz hq
  have hquiet : ¬(s.belt.state = .running ∧ 8 ≤ nextZeroWindows s.belt) := by
    rintro ⟨hs, h8⟩
    unfold nextZeroWindows at h8
    split_ifs at h8 with hg hc
    · rcases hq with hq | hq | hq
      · exact hq hs
      · exact hq hc
      · omega
    · omega
    · omega
  have ht : exec .speedWindowEnd s = .next (settle (s.modBelt endWindow)) := by
    rw [exec_due (due := fun s => windowLength ≤ s.belt.windowMs) (act := takeWindowEnd) rfl hr hw,
      takeWindowEnd_quiet hquiet]
  have hover : (settle (s.modBelt endWindow)).belt.overspeed = (nextOverspeed s.belt.windowCount s.belt).overspeed :=
    settle_overspeed _
  have hclean :
      (settle (s.modBelt endWindow)).belt.cleanWindows = (nextOverspeed s.belt.windowCount s.belt).cleanWindows :=
    settle_cleanWindows _
  refine ⟨_, ht, (sameExcept_modBelt _ s).settled, ?_, ?_, ?_, ?_, ?_, ?_⟩
  · rw [settle_belt_still, modBelt_belt, hover, hclean, settle_zeroWindows, endWindow_eq]
    rfl
  · intro h
    rw [hover, hclean, nextOverspeed_saturated _ h]; exact ⟨rfl, rfl⟩
  · intro h ho hc
    rw [hover, hclean, nextOverspeed_cleared h ho hc]; exact ⟨rfl, rfl⟩
  · intro h ho hc
    rw [hover, hclean, nextOverspeed_counted h ho hc]; exact ⟨ho, rfl⟩
  · intro h ho
    rw [hover, hclean, nextOverspeed_idle h ho]; exact ⟨ho, rfl⟩
  · rw [settle_zeroWindows]
    have h := nextZeroWindows_eq s.belt
    split
    · next hg => rw [if_pos hg] at h; exact h
    · next hg => rw [if_neg hg] at h; exact h

end Sys2Proof.Machine
end

section
/-! SUPPORT. The belt's timers, its inputs and the stop and tail-full causes (R6, R9 to R13). -/

namespace Sys2Proof.Machine

/-! ### Timers and filters -/

theorem exec_runGuardElapsed {s : State} (hr : s.inReset = false) {ms : Nat} (hg : s.belt.runGuard = some ms)
    (h : 1000 ≤ ms) :
    exec .runGuardElapsed s = .next (settle (s.modBelt fun b => { b with runGuard := none })) :=
  exec_due (due := fun s => guardDue s.belt = true) (act := fun s => s.modBelt fun b => { b with runGuard := none })
    rfl hr (by simp [guardDue, hg, guardLength, h])

theorem idleStop_due {s : State} (hs : s.belt.state = .running) (hi : s.settings.idleTime ≠ 0)
    (h : 1000 * s.settings.idleTime ≤ s.belt.idleMs) : idleStop s = standStill .idleStopped s :=
  if_pos (by simp [idleDue, State.isRunning, hs, hi, h])

theorem idleStop_early {s : State}
    (h : ¬(s.belt.state = .running ∧ s.settings.idleTime ≠ 0 ∧ 1000 * s.settings.idleTime ≤ s.belt.idleMs)) :
    idleStop s = s :=
  if_neg (by simpa [idleDue, State.isRunning, and_assoc] using h)

theorem exec_infeedWake {s : State} (hr : s.inReset = false) (hs : s.belt.state = .idleStopped)
    (he : s.pins.infeedEye = true) (h : 50 ≤ s.belt.infeedMs) :
    exec .infeedWake s = .next (settle (enterRunning s)) :=
  exec_due (due := fun s => wakeDue s = true) (act := enterRunning) rfl hr (by simp [wakeDue, hs, he, h])

/-- A change of the infeed eye sets its level and starts its filter afresh (R10). -/
theorem exec_infeedEyeChange {s : State} (hr : s.inReset = false) {b : Bool} (h : s.pins.infeedEye = !b) :
    exec (.infeedEyeChange b) s = .next (settle (restartInfeed (setInfeedEye b s))) := by
  rw [exec_input (c := .infeedEyeChange b) rfl hr, if_neg (by simp [h])]

/-- A change of the tail-full input sets its level and starts its filter afresh (R13). -/
theorem exec_tailFullInputChange {s : State} (hr : s.inReset = false) {b : Bool} (h : s.pins.tailFull = !b) :
    exec (.tailFullInputChange b) s = .next (settle (restartTail (setTailInput b s))) := by
  rw [exec_input (c := .tailFullInputChange b) rfl hr, if_neg (by simp [h])]

/-- Settles O9: each timer and each filter in turn. -/
theorem beltTimersAndFilters : Obligations.BeltTimersAndFilters := by
  intro s hr
  refine ⟨fun ms hg h => ?_, fun hs hi h => ?_, fun hs he h => ?_, fun b => ⟨fun h => ?_, fun h => ?_⟩⟩
  · exact ⟨_, exec_runGuardElapsed hr hg h, (sameExcept_modBelt _ s).settled, settle_belt_still _⟩
  · refine ⟨_, exec_event (c := .idleExpiry) rfl hr, ?_, ?_⟩ <;> rw [idleStop_due hs hi h]
    · exact (sameExcept_modBelt _ s).settled
    · exact settle_belt_still _
  · exact ⟨_, exec_infeedWake hr hs he h, (sameExcept_enterRunning s).settled, settle_belt_still _,
      settle_idleMs rfl, settle_matcher _⟩
  · have frame : SameExcept [.belt, .pins] s (restartInfeed (setInfeedEye b s)) :=
      sameExcept_of_eq rfl (by simp) (by simp) (fun _ => rfl)
    exact ⟨_, exec_infeedEyeChange hr h, frame.settled, settle_pins _, settle_belt_still _,
      fun hb => settle_idleMs_infeed hb⟩
  · have frame : SameExcept [.belt, .pins] s (restartTail (setTailInput b s)) :=
      sameExcept_of_eq rfl (by simp) (by simp) (fun _ => rfl)
    exact ⟨_, exec_tailFullInputChange hr h, frame.settled, settle_pins _, settle_belt_still _⟩

/-! ### The stop chain (R12) -/

/-- An opening of a closed chain records its cause. -/
theorem exec_stopChainOpen {s : State} (hr : s.inReset = false) (h : s.pins.chainOpen = false) :
    exec .stopChainOpen s = .next (settle (recordCause addChain (setChain true s))) := by
  rw [exec_input (c := .stopChainOpen) rfl hr, if_neg (by simp [h])]

/-- A change of the stop chain's level moves the inputs alone. -/
theorem sameExcept_setChain (b : Bool) (s : State) : SameExcept [.pins] s (setChain b s) :=
  sameExcept_of_eq rfl (fun _ => rfl) (by simp) (fun _ => rfl)

/-- Settles O10: an opening by the belt state, and a closing. -/
theorem stopChainHaltsBelt : Obligations.StopChainHaltsBelt := by
  intro s hr
  refine ⟨fun h => ⟨_, exec_stopChainOpen hr h, ?_, ?_, fun hs => ?_, fun hs => ?_, fun hs => ?_⟩, ?_⟩
  · exact (((sameExcept_setChain true s).mono (by simp)).trans
      ((sameExcept_recordCause _ _).mono (by simp))).settled
  · rw [settle_pins]
    have hp : (recordCause addChain (setChain true s)).pins = (setChain true s).pins :=
      sameExcept_recordCause addChain _ .pins (by simp)
    exact hp
  · rw [recordCause_halts (s := setChain true s) hs]
    exact ⟨settle_belt_still _, settle_idleMs rfl⟩
  · rw [recordCause_joins (s := setChain true s) hs]
    exact settle_belt_still _
  · rw [recordCause_nothing (s := setChain true s) hs]
    exact settle_belt_still _
  · exact ⟨_, exec_input (c := .stopChainClose) (pin := setChain false) (act := id) rfl hr,
      (sameExcept_setChain false s).settled, settle_pins _⟩

/-! ### The tail-full level (R13) -/

/-- The level goes ASSERTED and its cause is recorded. -/
theorem exec_tailFullAsserted {s : State} (hr : s.inReset = false) (hu : s.belt.state ≠ .unconfigured)
    (hp : s.pins.tailFull = true) (hl : s.belt.tailFull = false) (h : 50 ≤ s.belt.tailMs) :
    exec .tailFullAsserted s
      = .next (settle (recordCause addTail (s.modBelt fun b => { b with tailFull := true }))) :=
  exec_due (due := fun s => tailAssertDue s = true)
    (act := fun s => recordCause addTail (s.modBelt fun b => { b with tailFull := true })) rfl hr
    (by simp [tailAssertDue, State.commissioned, hu, hp, hl, h])

/-- The level goes CLEAR and its cause is removed. -/
theorem exec_tailFullCleared {s : State} (hr : s.inReset = false) (hu : s.belt.state ≠ .unconfigured)
    (hp : s.pins.tailFull = false) (hl : s.belt.tailFull = true) (h : 2000 ≤ s.belt.tailMs) :
    exec .tailFullCleared s = .next (settle (removeTail s)) :=
  exec_due (due := fun s => tailClearDue s = true) (act := removeTail) rfl hr
    (by simp [tailClearDue, State.commissioned, hu, hp, hl, h])

/-- Settles O11: the level ASSERTED by the belt state, and CLEAR with and without a resumption. -/
theorem tailFullLevelMovesBelt : Obligations.TailFullLevelMovesBelt := by
  intro s hr hu
  refine ⟨fun hp hl h => ⟨_, exec_tailFullAsserted hr hu hp hl h, ?_, fun hs => ?_, fun hs => ?_, fun hs => ?_⟩,
    fun hp hl h => ⟨_, exec_tailFullCleared hr hu hp hl h, ?_, ?_⟩⟩
  · exact ((sameExcept_modBelt _ s).trans (sameExcept_recordCause _ _)).settled
  · rw [recordCause_nothing (s := s.modBelt fun b => { b with tailFull := true }) (Or.inl hs)]
    exact settle_belt_still _
  · rw [recordCause_joins (s := s.modBelt fun b => { b with tailFull := true }) hs]
    exact settle_belt_still _
  · rw [recordCause_halts (s := s.modBelt fun b => { b with tailFull := true }) hs]
    exact settle_belt_still _
  · by_cases hc : s.belt.state = .halted ∧ s.belt.causes.onlyTail
    · rw [removeTail_resumes hc.1 hc.2]
      exact (((sameExcept_modBelt _ s).mono (by simp)).trans (sameExcept_enterRunning _)).settled
    · rw [removeTail_stays hc]
      exact ((sameExcept_modBelt _ s).mono (by simp)).settled
  · split
    · next hc =>
      rw [removeTail_resumes hc.1 hc.2]
      exact ⟨settle_belt_still _, settle_matcher _⟩
    · next hc =>
      rw [removeTail_stays hc]
      exact ⟨settle_belt_still _, settle_matcher _⟩

/-! ### START and STOP (R7, R8) -/

/-- A served site request of the right length whose kind waits for COMMISSION is refused with NOT_READY before it (R179). -/
theorem admission_notReady {k : Kind} {pl : List Byte} {s : State} (hs : Served s .site)
    (hu : s.belt.state = .unconfigured) (ht : k.isTraining = false) (hf : k.payloadFits .site pl = true)
    (hw : k.waitsForCommission = true) : admission k .site pl (greeted .site s) = some .notReady := by
  obtain ⟨-, hl, -⟩ := hs
  have h1 : ((greeted .site s).link .site).state = .active := by
    rw [greeted_link]; rcases hl with h | h <;> simp [h]
  simp [admission, ht, h1, hf, hw, State.commissioned, hu]

/-- The answer to such a request, with no result where the kind writes no list and no pattern. -/
theorem exec_notReady {k : Kind} {tag : Byte} {pl : List Byte} {s : State} (hs : Served s .site)
    (hu : s.belt.state = .unconfigured) (hk : k.takenFrom .site = true) (hf : k.payloadFits .site pl = true)
    (hw : k.waitsForCommission = true) (he : turnedAwayResult k .site pl s = []) :
    exec (k.command (.sender .site) tag pl) s
      = .next (settle (queueReply .site tag k.code ⟨greeted .site s, .notReady, []⟩)) := by
  have hi : k ≠ .itemReport := by rintro rfl; simp [Kind.waitsForCommission] at hw
  have ht : k.isTraining = false := by cases k <;> first | rfl | simp [Kind.waitsForCommission] at hw
  rw [exec_command hi, frameEvent_turnedAway k _ .site tag pl s .notReady hs.1 hs.2.2 hk
    (admission_notReady hs hu ht hf hw), turnAway, turnedAwayResult_greeted, he]

/-- A served request of a commissioned belt, of the right length, is answered by its owning block. -/
theorem exec_served {k : Kind} {q : Sender} {tag : Byte} {pl : List Byte} {s : State} (hs : Served s q)
    (ha : Admissible k q pl s) (hi : k ≠ .itemReport) :
    exec (k.command (.sender q) tag pl) s
      = .next (settle (queueReply q tag k.code (handlerOf k q pl (greeted q s)))) := by
  rw [exec_command hi, frameEvent_served k _ q tag pl s hs.1 hs.2.2 ha]

/-- A served request whose block leaves the ports and the counters alone: its port has taken it, the belt and the matcher are the block's, and the reply is owed. -/
theorem answer_settled {q : Sender} (tag : Byte) (k : Kind) {l : List Block} {s : State} {a : Answer}
    (h : SameExcept l (greeted q s) a.state) (hk : a.state.links = (greeted q s).links)
    (hr : Block.receivers ∉ l := by simp) (hl : Block.links ∉ l := by simp) (hc : Block.counters ∉ l := by simp) :
    let t := settle (queueReply q tag k.code a)
    Took q l s t ∧ t.belt.still = a.state.belt.still ∧ t.matcher = a.state.matcher
      ∧ Replied s t q tag k a.status a.result :=
  ⟨took_of_answer q tag k.code l s a h hr hl hc, settle_belt_still _, settle_matcher _,
    replied_of q tag k a s ((owed_of_links hk q).trans (greeted_owed q s))⟩

/-- The same for a request that is answered with no change. -/
theorem unchanged_settled (q : Sender) (tag : Byte) (k : Kind) (s : State) (status : Status) (result : List Byte) :
    let t := settle (queueReply q tag k.code ⟨greeted q s, status, result⟩)
    Took q [] s t ∧ t.belt.still = s.belt.still ∧ t.matcher = s.matcher ∧ Replied s t q tag k status result := by
  have h := answer_settled tag k (a := ⟨greeted q s, status, result⟩) (sameExcept_refl [] (greeted q s)) rfl
  rwa [greeted_belt, greeted_matcher] at h

theorem Took.mono {q : Sender} {l m : List Block} {s t : State} (h : Took q l s t) (hm : ∀ b ∈ l, b ∈ m) :
    Took q m s t :=
  ⟨h.1, h.2.1, h.2.2.mono fun b hb => by
    rcases List.mem_append.mp hb with hb | hb
    · exact List.mem_append_left _ hb
    · exact List.mem_append_right _ (hm b hb)⟩

/-- The belt's state and causes are sent as they stand, whatever its timers do (R7). -/
theorem beltBytes_still {a b : Belt} (h : a.still = b.still) : beltBytes a = beltBytes b :=
  belt_of_still beltBytes (fun _ => rfl) h

end Sys2Proof.Machine
end

section
/-! SUPPORT. START and STOP by the belt state (R7, R8, R179). -/

namespace Sys2Proof.Machine

theorem handleStart_runs {q : Sender} {pl : List Byte} {s : State}
    (hs : s.belt.state = .stopped ∨ s.belt.state = .idleStopped) (hc : s.pins.chainOpen = false)
    (ht : s.belt.tailFull = false) : handleStart q pl s = beltReply .done (enterRunning s) := by
  unfold handleStart
  rcases hs with hs | hs <;> simp [hs, hc, ht]

theorem handleStart_refuses {q : Sender} {pl : List Byte} {s : State}
    (h : ¬((s.belt.state = .stopped ∨ s.belt.state = .idleStopped) ∧ s.pins.chainOpen = false ∧ s.belt.tailFull = false)) :
    handleStart q pl s = beltReply .state s := by
  unfold handleStart
  split
  case h_1 hs | h_2 hs =>
    refine if_pos ?_
    by_contra hn
    simp only [Bool.or_eq_true, not_or, Bool.not_eq_true] at hn
    exact h ⟨by simp [hs], hn.1, hn.2⟩
  all_goals rfl

theorem handleStop_stops {q : Sender} {pl : List Byte} {s : State}
    (hs : s.belt.state = .running ∨ s.belt.state = .idleStopped) :
    handleStop q pl s = beltReply .done (standStill .stopped s) := by
  unfold handleStop
  rcases hs with hs | hs <;> simp [hs]

/-- A belt that is commissioned, not HALTED and not STOPPED runs or idles. -/
theorem belt_moves {b : BeltState} (hu : b ≠ .unconfigured) (hh : b ≠ .halted) (hs : b ≠ .stopped) :
    b = .running ∨ b = .idleStopped := by
  cases b <;> simp_all

/-- START of a served sender, in its three outcomes (R7, R179). -/
theorem start_outcomes (s : State) (tag : Byte) (h : Served s .site) :
    ∃ t, exec (.start (.sender .site) tag []) s = .next t ∧ Took .site [.belt, .matcher] s t
      ∧ (if s.belt.state = .unconfigured then
          t.belt.still = s.belt.still ∧ t.matcher = s.matcher ∧ Replied s t .site tag .start .notReady []
        else if (s.belt.state = .stopped ∨ s.belt.state = .idleStopped)
            ∧ s.pins.chainOpen = false ∧ s.belt.tailFull = false then
          t.belt.still = { s.belt.still with
              state := .running, motor := true, zeroWindows := 0, runGuard := some 0 }
            ∧ t.belt.idleMs = 0 ∧ t.matcher = { s.matcher with silenceMs := 0 }
            ∧ Replied s t .site tag .start .done (beltBytes t.belt)
        else t.belt.still = s.belt.still ∧ t.matcher = s.matcher
            ∧ Replied s t .site tag .start .state (beltBytes s.belt)) := by
  by_cases hu : s.belt.state = .unconfigured
  · obtain ⟨took, belt, matcher, replied⟩ := unchanged_settled .site tag .start s .notReady []
    refine ⟨_, exec_notReady (k := .start) h hu rfl rfl rfl rfl, took.mono (by simp), ?_⟩
    rw [if_pos hu]
    exact ⟨belt, matcher, replied⟩
  · have he := exec_served (tag := tag) h (admissible_commissioned .start .site [] s ⟨h, hu⟩ rfl rfl) (by simp)
    simp only [hu, if_false]
    split
    · next hc =>
      rw [show handlerOf .start = handleStart from rfl,
        handleStart_runs (by simpa using hc.1) (by simpa using hc.2.1) (by simpa using hc.2.2)] at he
      obtain ⟨took, belt, matcher, replied⟩ := answer_settled tag .start
        (a := beltReply .done (enterRunning (greeted .site s))) (sameExcept_enterRunning (greeted .site s)) rfl
      refine ⟨_, he, took, ?_, settle_idleMs rfl, ?_, ?_⟩
      · rw [belt]; simp [beltReply, enterRunning, Belt.still]
      · rw [matcher]; simp [beltReply, enterRunning]
      · rw [beltBytes_still belt]; exact replied
    · next hc =>
      rw [show handlerOf .start = handleStart from rfl,
        handleStart_refuses (s := greeted .site s) (by simpa using hc), beltReply, greeted_belt] at he
      obtain ⟨took, belt, matcher, replied⟩ := unchanged_settled .site tag .start s .state (beltBytes s.belt)
      exact ⟨_, he, took.mono (by simp), belt, matcher, replied⟩

/-- STOP of a served sender, in its four outcomes (R8, R179). -/
theorem stop_outcomes (s : State) (tag : Byte) (h : Served s .site) :
    ∃ t, exec (.stop (.sender .site) tag []) s = .next t ∧ Took .site [.belt] s t
      ∧ (if s.belt.state = .unconfigured then
          t.belt.still = s.belt.still ∧ Replied s t .site tag .stop .notReady []
        else if s.belt.state = .halted then
          t.belt.still = s.belt.still ∧ Replied s t .site tag .stop .state (beltBytes s.belt)
        else if s.belt.state = .stopped then
          t.belt.still = s.belt.still ∧ Replied s t .site tag .stop .done (beltBytes s.belt)
        else
          t.belt.still = { s.belt.still with state := .stopped, motor := false, runGuard := none }
            ∧ Replied s t .site tag .stop .done (beltBytes t.belt)) := by
  by_cases hu : s.belt.state = .unconfigured
  · obtain ⟨took, belt, -, replied⟩ := unchanged_settled .site tag .stop s .notReady []
    refine ⟨_, exec_notReady (k := .stop) h hu rfl rfl rfl rfl, took.mono (by simp), ?_⟩
    rw [if_pos hu]
    exact ⟨belt, replied⟩
  · have he := exec_served (tag := tag) h (admissible_commissioned .stop .site [] s ⟨h, hu⟩ rfl rfl) (by simp)
    rw [show handlerOf .stop = handleStop from rfl] at he
    simp only [hu, if_false]
    by_cases hh : s.belt.state = .halted
    · have ha : handleStop .site [] (greeted .site s) = ⟨greeted .site s, .state, beltBytes s.belt⟩ := by
        simp [handleStop, hh, beltReply]
      obtain ⟨took, belt, -, replied⟩ := unchanged_settled .site tag .stop s .state (beltBytes s.belt)
      simp only [hh, if_true]
      exact ⟨_, ha ▸ he, took.mono (by simp), belt, replied⟩
    · simp only [hh, if_false]
      by_cases hs : s.belt.state = .stopped
      · have ha : handleStop .site [] (greeted .site s) = ⟨greeted .site s, .done, beltBytes s.belt⟩ := by
          simp [handleStop, hs, beltReply]
        obtain ⟨took, belt, -, replied⟩ := unchanged_settled .site tag .stop s .done (beltBytes s.belt)
        simp only [hs, if_true]
        exact ⟨_, ha ▸ he, took.mono (by simp), belt, replied⟩
      · rw [handleStop_stops (by simpa using belt_moves hu hh hs)] at he
        obtain ⟨took, belt, -, replied⟩ := answer_settled tag .stop (l := [.belt])
          (a := beltReply .done (standStill .stopped (greeted .site s))) (sameExcept_standStill .stopped (greeted .site s)) rfl
        simp only [hs, if_false]
        refine ⟨_, he, took, ?_, ?_⟩
        · rw [belt]; simp [beltReply, standStill, Belt.still]
        · rw [beltBytes_still belt]; exact replied

/-- Settles O12: START and STOP by the belt state. -/
theorem startAndStop : Obligations.StartAndStop := fun s tag h =>
  ⟨start_outcomes s tag h, stop_outcomes s tag h⟩

end Sys2Proof.Machine
end

section
/-! SUPPORT. The state after reset, table by table, and one millisecond of the internal time base (R178; log 1). -/

namespace Sys2Proof.Machine

/-! ### The tables after reset -/

theorem resetPart_dest (s : State) (d : DestId) : (resetPart s).dest d = {} := by
  simp [State.dest, resetPart, State.reset]

theorem resetPart_gate (s : State) (g : GateId) : (resetPart s).gate g = {} := by
  simp [State.gate, resetPart, State.reset]

theorem resetPart_link (s : State) (q : Sender) : (resetPart s).link q = {} := by
  simp [State.link, resetPart, State.reset]

theorem resetPart_receiver (s : State) (p : Port) : (resetPart s).receiver p = {} := by
  simp [State.receiver, resetPart, State.reset]

theorem resetPart_noticeQueue (s : State) (st : Station) : (resetPart s).noticeQueue st = {} := by
  simp [State.noticeQueue, resetPart, State.reset]

theorem resetPart_cell (s : State) (c : ItemClass) (o : ItemOwner) : (resetPart s).cell c o = [] := by
  simp [State.cell, resetPart, State.reset]

theorem resetPart_counter (s : State) (n : Counter) :
    (resetPart s).counter n = 0 ∧ (resetPart s).bank.snapshot[n.index] = 0 := by
  simp [State.counter, resetPart, State.reset]

/-- Both resets answer the part at its reset values (R178). -/
theorem exec_reset {c : Instr} (h : c = .powerOnReset ∨ c = .resetPin) (s : State) :
    exec c s = .next (resetPart s) := by
  rcases h with rfl | rfl <;> rfl

/-- Settles O4: the state is given whole, and each field is read off it. -/
theorem resetSetsBlocks : Obligations.ResetSetsBlocks := by
  intro c s hc
  refine ⟨resetPart s, exec_reset hc s, rfl, rfl, rfl, rfl, rfl, rfl, rfl, rfl, rfl, rfl, rfl, rfl, rfl, rfl, rfl, rfl,
    rfl, rfl, rfl, rfl, rfl, rfl, resetPart_cell s, rfl, rfl, fun d => ?_, fun g => ?_, rfl, rfl, fun q => ?_,
    fun p => ?_, fun st => ?_, resetPart_counter s, rfl, rfl, rfl, rfl, rfl, rfl, rfl⟩
  · rw [resetPart_dest]
    exact ⟨rfl, rfl, rfl, rfl, rfl, rfl, rfl, rfl, rfl, rfl, rfl, rfl, rfl, rfl, rfl, rfl, rfl, rfl⟩
  · rw [resetPart_gate]; exact ⟨rfl, rfl⟩
  · rw [resetPart_link]; exact ⟨rfl, rfl, rfl, rfl, rfl, rfl⟩
  · rw [resetPart_receiver]; exact ⟨rfl, rfl⟩
  · rw [resetPart_noticeQueue]; exact ⟨rfl, rfl, rfl⟩

/-! ### The laws at reset -/

theorem reset_dest (d : DestId) : State.reset.dest d = {} := resetPart_dest State.reset d

theorem reset_gate (g : GateId) : State.reset.gate g = {} := resetPart_gate State.reset g

theorem reset_link (q : Sender) : State.reset.link q = {} := resetPart_link State.reset q

theorem reset_noticeQueue (st : Station) : State.reset.noticeQueue st = {} := resetPart_noticeQueue State.reset st

theorem reset_queueLaw : QueueLaw State.reset := by
  refine ⟨fun d => ?_, fun g => ?_, fun q => ?_, fun st => ?_⟩
  · rw [reset_dest]; simp
  · rw [reset_gate]; simp
  · rw [reset_link]; simp
  · rw [reset_noticeQueue]; simp

/-- No condition stands at reset, and ATTN is off (R194). -/
theorem reset_conditionLaw : ConditionLaw State.reset := by
  unfold ConditionLaw; decide +kernel

/-- An empty map and destinations without owner, reservation or record meet the laws of routing. -/
theorem reset_routeLaw : RouteLaw State.reset := by
  have bound : ∀ d, boundFor State.reset d = [] := fun _ => rfl
  refine ⟨by simp [MapLaw, State.reset], fun e he => by simp [State.reset] at he, fun d => ?_, fun d _ => bound d,
    fun d => ?_, fun d e he => by simp [bound] at he⟩
  · rw [bound, reset_dest]; rfl
  · rw [reset_dest]; simp

theorem reset_fireLaw : FireLaw State.reset := fun g => by
  rw [reset_gate]; simp

theorem reset_gateOutLaw : GateOutLaw State.reset := fun d => by
  rw [reset_dest, reset_gate]; simp

/-- Settles O57: each law on the state after reset. -/
theorem lawsHoldAtReset : Obligations.LawsHoldAtReset :=
  ⟨by simp [BeltLaw, State.reset], by simp [PatternLaw, State.reset, lockedCount], reset_queueLaw,
    reset_conditionLaw, reset_routeLaw, reset_fireLaw, reset_gateOutLaw⟩

/-! ### One millisecond -/

/-- A change of each destination of a list, by its own rule. -/
def eachDest (l : List DestId) (f : DestId → Dest → Dest) (s : State) : State :=
  forEach l (fun d x => x.modDest d (f d)) s

theorem eachDest_cons (d : DestId) (l : List DestId) (f : DestId → Dest → Dest) (s : State) :
    eachDest (d :: l) f s = eachDest l f (s.modDest d (f d)) := rfl

/-- Only the destinations' records move. -/
theorem eachDest_eq (f : DestId → Dest → Dest) (l : List DestId) :
    ∀ s, eachDest l f s = { s with dests := (eachDest l f s).dests } := by
  induction l with
  | nil => exact fun _ => rfl
  | cons d l ih =>
    intro s
    rw [eachDest_cons]
    exact (ih _).trans rfl

/-- Each record of the list is changed once, and the others stand. -/
theorem eachDest_dest (f : DestId → Dest → Dest) (x : DestId) (l : List DestId) (hn : l.Nodup) :
    ∀ s, (eachDest l f s).dest x = if x ∈ l then f x (s.dest x) else s.dest x := by
  induction l with
  | nil => exact fun _ => rfl
  | cons d l ih =>
    intro s
    rw [List.nodup_cons] at hn
    rw [eachDest_cons, ih hn.2, modDest_dest]
    by_cases hx : x = d
    · subst hx; simp [hn.1]
    · simp [hx]

theorem eachDest_all (f : DestId → Dest → Dest) (s : State) (x : DestId) :
    (eachDest allDests f s).dest x = f x (s.dest x) := by
  rw [eachDest_dest f x allDests nodup_allDests, if_pos (mem_allDests x)]

/-- A millisecond outside reset, with the destinations' timers by their own rule (log 1). -/
theorem tick_eq {s : State} (hr : s.inReset = false) : tick s = { s with
    belt := tickBelt s s.belt, matcher := tickMatcher s s.matcher
    dests := (eachDest allDests (fun d => tickDest s.settings.b (s.confirmEye d)) s).dests
    gates := mapTable tickGate s.gates, links := mapTable tickLink s.links
    receivers := mapTable tickReceiver s.receivers, refreshMs := s.refreshMs + 1 } := by
  have h : tick s = { eachDest allDests (fun d => tickDest s.settings.b (s.confirmEye d)) s with
      belt := tickBelt s s.belt, matcher := tickMatcher s s.matcher, gates := mapTable tickGate s.gates
      links := mapTable tickLink s.links, receivers := mapTable tickReceiver s.receivers
      refreshMs := s.refreshMs + 1 } := by
    unfold tick eachDest; rw [hr]; rfl
  rw [h, eachDest_eq]

theorem tickBelt_eq (s : State) : tickBelt s s.belt = { s.belt with
    windowMs := s.belt.windowMs + 1
    runGuard := s.belt.runGuard.map fun n => min (n + 1) 1000
    idleMs := if s.belt.state = .running ∧ s.settings.idleTime ≠ 0 ∧ s.map = []
        ∧ s.pins.readEye = false ∧ s.pins.infeedEye = false then min (s.belt.idleMs + 1) 600000
      else s.belt.idleMs
    infeedMs := if s.pins.infeedEye = true then min (s.belt.infeedMs + 1) 50 else s.belt.infeedMs
    tailMs := if s.belt.state = .unconfigured then s.belt.tailMs else min (s.belt.tailMs + 1) 2000 } := by
  have hi : idleCounts s = true ↔ s.belt.state = .running ∧ s.settings.idleTime ≠ 0 ∧ s.map = []
      ∧ s.pins.readEye = false ∧ s.pins.infeedEye = false := by
    simp [idleCounts, State.isRunning, and_assoc]
  have ht : (if s.commissioned = true then countUp 2000 s.belt.tailMs else s.belt.tailMs)
      = if s.belt.state = .unconfigured then s.belt.tailMs else min (s.belt.tailMs + 1) 2000 := by
    by_cases hu : s.belt.state = .unconfigured <;> simp [State.commissioned, hu, countUp]
  simp only [tickBelt, hi, ht]
  rfl

theorem tickMatcher_eq (s : State) : tickMatcher s s.matcher = { s.matcher with
    silenceMs := if s.belt.state = .running then min (s.matcher.silenceMs + 1) 2000 else s.matcher.silenceMs } := by
  by_cases hs : s.belt.state = .running <;> simp [tickMatcher, State.isRunning, hs, countUp]

/-- A millisecond moves the timers' tables and the refresh grid alone. -/
theorem tick_frame {s : State} (hr : s.inReset = false) : tick s = { s with
    belt := (tick s).belt, matcher := (tick s).matcher, dests := (tick s).dests, gates := (tick s).gates
    links := (tick s).links, receivers := (tick s).receivers, refreshMs := s.refreshMs + 1 } := by
  rw [tick_eq hr]

theorem tick_belt {s : State} (hr : s.inReset = false) : (tick s).belt = tickBelt s s.belt := by rw [tick_eq hr]

theorem tick_matcher {s : State} (hr : s.inReset = false) : (tick s).matcher = tickMatcher s s.matcher := by
  rw [tick_eq hr]

theorem tick_dest {s : State} (hr : s.inReset = false) (d : DestId) :
    (tick s).dest d = tickDest s.settings.b (s.confirmEye d) (s.dest d) := by
  have h : (tick s).dests = (eachDest allDests (fun d => tickDest s.settings.b (s.confirmEye d)) s).dests := by
    rw [tick_eq hr]
  have h' := eachDest_all (fun d => tickDest s.settings.b (s.confirmEye d)) s d
  rw [State.dest] at h' ⊢
  rw [h, h']

theorem tick_gate {s : State} (hr : s.inReset = false) (g : GateId) : (tick s).gate g = tickGate (s.gate g) := by
  rw [tick_eq hr]; exact mapTable_get tickGate s.gates g

theorem tick_link {s : State} (hr : s.inReset = false) (q : Sender) : (tick s).link q = tickLink (s.link q) := by
  rw [tick_eq hr]; exact mapTable_get tickLink s.links (Sender.index q)

theorem tick_receiver {s : State} (hr : s.inReset = false) (p : Port) :
    (tick s).receiver p = tickReceiver (s.receiver p) := by
  rw [tick_eq hr]; exact mapTable_get tickReceiver s.receivers (Port.index p)

/-! ### Events that are due -/

theorem mem_whenDue {due : Bool} {i : Instr} (h : due = true) : i ∈ whenDue due i := by
  simp [whenDue, h]

theorem dueEvents_reset {s : State} (h : s.inReset = true) : dueEvents s = [] := if_pos h

theorem dueEvents_unit {s : State} (hr : s.inReset = false) {i : Instr} (h : i ∈ unitDues s) : i ∈ dueEvents s := by
  simp [dueEvents, hr, h]

theorem dueEvents_dest {s : State} (hr : s.inReset = false) {d : DestId} {i : Instr} (h : i ∈ destDues s d) :
    i ∈ dueEvents s := by
  simp only [dueEvents, hr, Bool.false_eq_true, if_false, List.mem_append, List.mem_flatten, List.mem_map]
  exact .inl (.inl (.inr ⟨_, ⟨d, mem_allDests d, rfl⟩, h⟩))

theorem mem_allSenders (q : Sender) : q ∈ allSenders := by
  cases q with
  | site => decide
  | station st => revert st; decide

theorem dueEvents_sender {s : State} (hr : s.inReset = false) {q : Sender} {i : Instr} (h : i ∈ senderDues s q) :
    i ∈ dueEvents s := by
  simp only [dueEvents, hr, Bool.false_eq_true, if_false, List.mem_append, List.mem_flatten, List.mem_map]
  exact .inl (.inr ⟨_, ⟨q, mem_allSenders q, rfl⟩, h⟩)

theorem mem_allPorts (p : Port) : p ∈ allPorts := by
  cases p with
  | identifier => simp [allPorts]
  | sender q => simp [allPorts, mem_allSenders q]

theorem dueEvents_port {s : State} (hr : s.inReset = false) {p : Port} (h : gapDue (s.receiver p) = true) :
    .frameGapTimeout p ∈ dueEvents s := by
  simp only [dueEvents, hr, Bool.false_eq_true, if_false, List.mem_append, List.mem_flatten, List.mem_map]
  exact .inr ⟨_, ⟨p, mem_allPorts p, rfl⟩, mem_whenDue h⟩

/-- Where events are due, one of them is taken next (log 2). -/
theorem nextDue_mem {s : State} (h : dueEvents s ≠ []) : ∃ i ∈ dueEvents s, nextDue s = some i := by
  unfold nextDue
  split
  · next he => exact absurd he h
  · next i he => exact ⟨i, by simp [he], rfl⟩
  · next i j rest he =>
    have hlt : Config.freeOrder s.orders % (rest.length + 2) < (i :: j :: rest).length :=
      Nat.mod_lt _ (by omega)
    rw [he]
    exact ⟨_, List.getElem_mem hlt, List.getElem?_eq_getElem hlt⟩

theorem nextDue_none {s : State} (h : dueEvents s = []) : nextDue s = none := by
  simp [nextDue, h]

/-- On an empty queue with nothing due, one millisecond passes (log 1). -/
theorem step_ticks {s : State} (hp : s.pending = []) (h : dueEvents s = []) : step s = .next (tick s) := by
  simp [step, hp, idleStep, nextDue_none h]

/-- The timers that bring an event where they stand at its time (R3, R9, R35, R140, R159, R168). -/
theorem dueEvents_timers {s : State} (hr : s.inReset = false) :
    (50 ≤ s.belt.windowMs → .speedWindowEnd ∈ dueEvents s)
    ∧ (s.belt.state = .running → s.settings.idleTime ≠ 0 → 1000 * s.settings.idleTime ≤ s.belt.idleMs →
        .idleExpiry ∈ dueEvents s)
    ∧ (2000 ≤ s.matcher.silenceMs → s.matcher.silent = false → .identifierSilent ∈ dueEvents s)
    ∧ (∀ (d : DestId) (a : Awaiting), a ∈ (s.dest d).awaiting → a.leftMs = 0 →
        .confirmWindowExpiry d a.tag ∈ dueEvents s)
    ∧ (∀ q : Sender, (s.link q).state = .active → 1000 ≤ (s.link q).silenceMs → .linkSilence1000 q ∈ dueEvents s)
    ∧ (∀ q : Sender, (s.link q).state = .quiet → 4000 ≤ (s.link q).silenceMs → .linkLapse q ∈ dueEvents s)
    ∧ (∀ (p : Port) (l : List Byte) (ms : Nat), s.receiver p = { kept := some l, gapMs := some ms } → 5 < ms →
        .frameGapTimeout p ∈ dueEvents s) := by
  refine ⟨fun h => ?_, fun hs hi h => ?_, fun h hn => ?_, fun d a ha h => ?_, fun q hs h => ?_, fun q hs h => ?_,
    fun p l ms hp h => ?_⟩
  · exact dueEvents_unit hr (by simp [unitDues, whenDue, windowLength, h])
  · exact dueEvents_unit hr (by simp [unitDues, whenDue, idleDue, State.isRunning, hs, hi, h])
  · exact dueEvents_unit hr (by simp [unitDues, whenDue, silentDue, h, hn])
  · have hm : Instr.confirmWindowExpiry d a.tag
        ∈ ((s.dest d).awaiting.filter fun a => a.leftMs == 0).map fun a => .confirmWindowExpiry d a.tag :=
      List.mem_map.mpr ⟨a, List.mem_filter.mpr ⟨ha, by simp [h]⟩, rfl⟩
    exact dueEvents_dest hr (d := d) (by simp only [destDues, List.mem_append]; tauto)
  · exact dueEvents_sender hr (q := q) (by simp [senderDues, whenDue, silenceDue, hs, h])
  · exact dueEvents_sender hr (q := q) (by simp [senderDues, whenDue, lapseDue, hs, h])
  · exact dueEvents_port hr (by simp [gapDue, hp, h])

/-- Settles O1: the front of the queue, and on an empty queue a due event or a millisecond. -/
theorem stepTakesFrontCommand : Obligations.StepTakesFrontCommand := by
  refine ⟨fun c rest s hp => by simp [step, hp], fun s hp => ⟨fun h => ?_, dueEvents_reset, dueEvents_timers,
    fun h hr => ?_, fun h hr => ?_⟩⟩
  · obtain ⟨i, hi, hn⟩ := nextDue_mem h
    exact ⟨i, hi, by simp [step, hp, idleStep, hn, State.ordered]⟩
  · rw [step_ticks hp h, tick, if_pos hr]
  · refine ⟨tick s, step_ticks hp h, tick_frame hr, (tick_belt hr).trans (tickBelt_eq s),
      (tick_matcher hr).trans (tickMatcher_eq s), fun d => ?_, tick_gate hr, tick_link hr, tick_receiver hr⟩
    rw [tick_dest hr]
    simp only [tickDest, countUp, Bool.not_eq_true']

end Sys2Proof.Machine
end

section
/-! SUPPORT. The loss of the encoder: what each of its parts does to the map, the gates, the token and the capture (R14, R27, R61, R66, R67, R136). -/

namespace Sys2Proof.Machine

/-! ### Frames of the shared operations -/

/-- What routing may touch is all that a change which keeps the rest can have moved. -/
theorem sameExcept_of_kept {l : List Block} {s t : State} (hk : t.kept = s.kept) (hm : .map ∉ l → t.map = s.map)
    (hd : .dests ∉ l → t.dests = s.dests) (hg : .gates ∉ l → t.gates = s.gates) (ht : .test ∉ l → t.test = s.test)
    (hn : .notices ∉ l → t.notices = s.notices) (hc : .counters ∉ l → t.bank.live = s.bank.live)
    (hb : .bank ∉ l → t.bank.snapshot = s.bank.snapshot ∧ t.bank.enables = s.bank.enables
      ∧ t.bank.globalEnable = s.bank.globalEnable) : SameExcept l s t := by
  intro b hl
  cases b
  case belt => exact congrArg Belt.still (belt_of_kept hk)
  case pins => exact pins_of_kept hk
  case reader => exact reader_of_kept hk
  case matcher => exact matcher_of_kept hk
  case patterns => exact patterns_of_kept hk
  case map => exact hm hl
  case routes => exact routes_of_kept hk
  case dests => exact hd hl
  case gates => exact hg hl
  case test => exact ht hl
  case receivers => exact receivers_of_kept hk
  case links =>
    intro q
    have e : t.link q = s.link q := by simp only [State.link, links_of_kept hk]
    unfold SameLink; rw [e]; exact ⟨rfl, rfl, rfl, rfl⟩
  case notices =>
    intro st
    have e : t.noticeQueue st = s.noticeQueue st := by simp only [State.noticeQueue, hn hl]
    unfold SameNotices; rw [e]; exact ⟨List.suffix_refl _, List.suffix_refl _⟩
  case settings => exact settings_of_kept hk
  case counters => exact hc hl
  case bank => exact hb hl
  case refresh => exact congrArg Kept.refreshMs hk
  case reset => exact inReset_of_kept hk

/-! ### The token's end (R67, R135) -/

/-- The token's end is a change of the map, the gates' queues, the test record and the TEST_DONE latch alone. -/
theorem endToken_eq (x : TestResult) (s : State) : endToken x s = { s with
    map := (endToken x s).map, gates := (endToken x s).gates, test := (endToken x s).test
    bank := { s.bank with latches := (endToken x s).bank.latches } } := by
  unfold endToken
  split
  · rfl
  · dsimp only; split <;> rfl

/-- The token leaves the map, and nothing else does. -/
theorem endToken_map (x : TestResult) (s : State) : (endToken x s).map = eraseEntry .token s.map := by
  unfold endToken
  split
  · next h =>
    have hn : ∀ l : List Entry, (l.find? fun e => e.ref == .token) = none → eraseEntry .token l = l := fun l => by
      induction l with
      | nil => exact fun _ => rfl
      | cons e l ih =>
        intro hl
        simp only [List.find?_cons] at hl
        split at hl
        · cases hl
        · next hr => rw [eraseEntry, if_neg (by simpa using hr), ih hl]
    exact (hn s.map h).symm
  · dsimp only; split <;> rfl

/-- The token's end moves no gate but for a fire queue that held it. -/
theorem endToken_gate (x : TestResult) (s : State) (g : GateId) :
    (endToken x s).gate g = { s.gate g with queue := ((endToken x s).gate g).queue } := by
  unfold endToken
  split
  · rfl
  · next e he =>
    dsimp only
    split
    · next y hy =>
      show (leaveQueue y .token s).gate g = { s.gate g with queue := ((leaveQueue y .token s).gate g).queue }
      rw [leaveQueue, modGate_gate]
      split
      · next h => rw [h]
      · rfl
    · rfl

theorem endToken_test (x : TestResult) (s : State) :
    (endToken x s).test = if s.find .token = none then s.test else { s.test with result := x } := by
  unfold endToken
  split
  · next h => rw [if_pos h]
  · next e h =>
    rw [if_neg (by simp [h])]
    dsimp only; split <;> rfl

/-- Items are no tokens: the token's end leaves every other entry in its place. -/
theorem eraseEntry_token_items (l : List Entry) :
    (eraseEntry .token l).filter (fun e => !e.isTest) = l.filter fun e => !e.isTest := by
  induction l with
  | nil => rfl
  | cons e l ih =>
    unfold eraseEntry
    split
    · next h =>
      have ht : e.isTest = true := by
        cases hx : e.tag with
        | none => simp [Entry.isTest, hx]
        | some x => simp [Entry.ref, hx] at h
      simp [ht]
    · simp only [List.filter_cons, ih]

/-! ### The parts of the loss -/

@[simp] theorem suspectEntry_tag (e : Entry) : (suspectEntry e).tag = e.tag := by
  unfold suspectEntry; split <;> rfl

@[simp] theorem suspectEntry_ref (e : Entry) : (suspectEntry e).ref = e.ref := by
  simp only [Entry.ref, suspectEntry_tag]

@[simp] theorem suspectEntry_isTest (e : Entry) : (suspectEntry e).isTest = e.isTest := by
  simp only [Entry.isTest, suspectEntry_tag]

/-- The mark falls on every entry but a token (R61). -/
theorem suspectEntry_items (l : List Entry) :
    (l.map suspectEntry).filter (fun e => !e.isTest) = (l.filter fun e => !e.isTest).map
      (fun e => { e with fireAt := none, late := false, state := .suspect }) := by
  induction l with
  | nil => rfl
  | cons e l ih =>
    cases h : e.isTest with
    | true => simpa [h] using ih
    | false =>
      have he : suspectEntry e = { e with fireAt := none, late := false, state := .suspect } := by
        simp [suspectEntry, h]
      rw [List.map_cons, List.filter_cons_of_pos (by simp [h]), ih, List.filter_cons_of_pos (by simp [h]),
        List.map_cons, he]

/-- A token that is found stands unmarked (R61). -/
theorem suspectEntry_find_token (l : List Entry) :
    (l.map suspectEntry).find? (fun e => e.ref == .token) = l.find? fun e => e.ref == .token := by
  induction l with
  | nil => rfl
  | cons e l ih =>
    simp only [List.map_cons, List.find?_cons, suspectEntry_ref, ih]
    split
    · next h =>
      have ht : e.isTest = true := by
        cases hx : e.tag with
        | none => simp [Entry.isTest, hx]
        | some x => simp [Entry.ref, hx] at h
      simp [suspectEntry, ht]
    · rfl

/-- The test of the meaning over the gates is the statement's, for a token bound for a gate (R67). -/
theorem tokenUnfired_bound {s : State} {e : Entry} {d : DestId} (hf : s.find .token = some e)
    (hd : e.dest = some (.gateDest d)) (g : GateId) : tokenUnfired g s = true
      ↔ destGate d = g ∧ (e.state = .routed ∨ .token ∈ (s.gate g).queue) := by
  simp [tokenUnfired, hf, Entry.gate?, hd]

theorem mem_allGates (g : GateId) : g ∈ allGates := by revert g; decide

/-- A token that has not fired is aborted (R67). -/
theorem abortUnfired_aborts {s : State} {e : Entry} {d : DestId} (hf : s.find .token = some e)
    (hd : e.dest = some (.gateDest d)) (h : e.state = .routed ∨ .token ∈ (s.gate (destGate d)).queue) :
    abortUnfired s = endToken .aborted s :=
  if_pos (List.any_eq_true.mpr ⟨destGate d, mem_allGates _, (tokenUnfired_bound hf hd _).mpr ⟨rfl, h⟩⟩)

/-- A token that has fired stays (R66). -/
theorem abortUnfired_fired {s : State} {e : Entry} {d : DestId} (hf : s.find .token = some e)
    (hd : e.dest = some (.gateDest d)) (hr : e.state ≠ .routed) (hq : .token ∉ (s.gate (destGate d)).queue) :
    abortUnfired s = s := by
  refine if_neg fun h => ?_
  obtain ⟨g, -, hg⟩ := List.any_eq_true.mp h
  obtain ⟨rfl, h | h⟩ := (tokenUnfired_bound hf hd g).mp hg
  · exact hr h
  · exact hq h

theorem abortUnfired_none {s : State} (hf : s.find .token = none) : abortUnfired s = s := by
  refine if_neg fun h => ?_
  obtain ⟨g, -, hg⟩ := List.any_eq_true.mp h
  simp [tokenUnfired, hf] at hg

/-- Aborted or not, the abort is a change of the map, the gates' queues, the test record and the TEST_DONE latch alone. -/
theorem abortUnfired_eq (s : State) : abortUnfired s = { s with
    map := (abortUnfired s).map, gates := (abortUnfired s).gates, test := (abortUnfired s).test
    bank := { s.bank with latches := (abortUnfired s).bank.latches } } := by
  unfold abortUnfired
  split
  · exact endToken_eq .aborted s
  · rfl

theorem abortUnfired_items (s : State) :
    (abortUnfired s).map.filter (fun e => !e.isTest) = s.map.filter fun e => !e.isTest := by
  unfold abortUnfired
  split
  · rw [endToken_map, eraseEntry_token_items]
  · rfl

theorem abortUnfired_gate (s : State) (g : GateId) :
    (abortUnfired s).gate g = { s.gate g with queue := ((abortUnfired s).gate g).queue } := by
  unfold abortUnfired
  split
  · exact endToken_gate .aborted s g
  · rfl

theorem emptyQueues_gate (s : State) (g : GateId) : (emptyQueues s).gate g = { s.gate g with queue := [] } :=
  mapTable_get (fun g : Gate => { g with queue := [] }) s.gates g

/-- The capture of a loss: one in progress is abandoned, and any other stands (R27). -/
def Capture.abandoned : Capture → Capture
  | .opened _ => .clearWait none
  | .committed _ _ _ => .clearWait none
  | .ready => .ready
  | .clearWait p => .clearWait p

theorem abandonCapture_eq (s : State) :
    abandonCapture s = s.modReader fun r => { r with capture := r.capture.abandoned } := by
  obtain ⟨belt, pins, ⟨capture, counter, blocked⟩, _⟩ := s
  cases capture <;> rfl

/-- The loss of the encoder outside the belt unit. -/
def lossOutside (s : State) : State :=
  (abandonCapture (emptyQueues ((abortUnfired s).withMap ((abortUnfired s).map.map suspectEntry)))).raisePart
    .encoderLosses

/-- The loss of the encoder on the belt of a running part (R11, R14). -/
def lossBelt (b : Belt) : Belt :=
  { b with
    state := .halted, motor := false, runGuard := none, causes := addLoss b.causes, idleMs := 0, zeroWindows := 0 }

theorem encoderLoss_running {s : State} (h : s.belt.state = .running) :
    encoderLoss s = lossOutside (s.modBelt lossBelt) := by
  unfold encoderLoss
  rw [recordCause_halts (Or.inl h)]
  rfl

theorem lossOutside_belt (s : State) : (lossOutside s).belt = s.belt := by
  rw [lossOutside, raisePart_eq, raise_belt, abandonCapture_belt]
  exact belt_of_kept (abortUnfired_kept s)

theorem lossOutside_reader (s : State) :
    (lossOutside s).reader = { s.reader with capture := s.reader.capture.abandoned } := by
  have h : (abortUnfired s).reader = s.reader := reader_of_kept (abortUnfired_kept s)
  rw [← h, lossOutside, abandonCapture_eq]
  rfl

theorem lossOutside_map (s : State) : (lossOutside s).map = (abortUnfired s).map.map suspectEntry := by
  rw [lossOutside, abandonCapture_eq]
  rfl

theorem lossOutside_test (s : State) : (lossOutside s).test = (abortUnfired s).test := by
  rw [lossOutside, abandonCapture_eq]
  rfl

theorem lossOutside_latches (s : State) : (lossOutside s).bank.latches = (abortUnfired s).bank.latches := by
  rw [lossOutside, abandonCapture_eq]
  rfl

/-- Every fire queue is empty, and nothing else of a gate moves (R136). -/
theorem lossOutside_gate (s : State) (g : GateId) : (lossOutside s).gate g = { s.gate g with queue := [] } := by
  have h : (lossOutside s).gate g
      = (emptyQueues ((abortUnfired s).withMap ((abortUnfired s).map.map suspectEntry))).gate g := by
    rw [lossOutside, abandonCapture_eq]
    rfl
  rw [h, emptyQueues_gate, withMap_gate, abortUnfired_gate]

theorem lossOutside_find_token (s : State) : (lossOutside s).find .token = (abortUnfired s).find .token := by
  unfold State.find
  rw [lossOutside_map, suspectEntry_find_token]

theorem lossOutside_raised (s : State) : Raised [.ofPart .encoderLosses] s (lossOutside s) := by
  intro c
  have h : (abortUnfired s).bank.live = s.bank.live := by rw [abortUnfired_eq]
  have hc : (abortUnfired s).counter c = s.counter c := by simp only [State.counter, h]
  rw [lossOutside, abandonCapture_eq, raisePart_eq, raise_counter, ← hc]
  simp only [List.mem_singleton]
  rfl

theorem abortUnfired_frame (s : State) : SameExcept [.map, .gates, .test] s (abortUnfired s) :=
  sameExcept_of_kept (abortUnfired_kept s) (by simp) (fun _ => by rw [abortUnfired_eq]) (by simp) (by simp)
    (fun _ => by rw [abortUnfired_eq]) (fun _ => by rw [abortUnfired_eq])
    (fun _ => by rw [abortUnfired_eq]; exact ⟨rfl, rfl, rfl⟩)

theorem lossOutside_frame (s : State) :
    SameExcept [.reader, .map, .gates, .test, .counters] s (lossOutside s) := by
  refine ((abortUnfired_frame s).mono (by simp)).trans fun b hb => ?_
  have h0 := b.same_refl (abortUnfired s)
  rw [lossOutside, abandonCapture_eq]
  cases b
  case reader | map | gates | test | counters => simp at hb
  all_goals exact h0

/-- The eighth zero window of a running belt whose guard has elapsed brings the loss (R14). -/
theorem takeWindowEnd_loss {s : State} (hs : s.belt.state = .running)
    (hg : s.belt.runGuard = none ∨ ∃ ms, s.belt.runGuard = some ms ∧ 1000 ≤ ms) (hw : s.belt.windowCount = 0)
    (hz : s.belt.zeroWindows = 7) : takeWindowEnd s = lossOutside (s.modBelt fun b => lossBelt (endWindow b)) := by
  have hstate : (s.modBelt endWindow).belt.state = .running := by rw [modBelt_belt, endWindow_eq]; exact hs
  have hzero : (s.modBelt endWindow).belt.zeroWindows = 8 := by
    show nextZeroWindows s.belt = 8
    rw [nextZeroWindows_eq, if_pos ⟨hs, hg⟩, if_pos hw, hz]
  refine (if_pos ⟨hstate, hzero.ge⟩).trans ?_
  rw [encoderLoss_running hstate]
  rfl

/-- The belt after the loss: halted, with its sample taken (R4, R14). -/
theorem lossBelt_endWindow {b : Belt} (hw : b.windowCount = 0) :
    let c := lossBelt (endWindow b)
    c.state = .halted ∧ c.causes = { b.causes with encoderLoss := true } ∧ c.motor = false ∧ c.runGuard = none
      ∧ c.zeroWindows = 0 ∧ c.p = b.p ∧ c.v = 3 * b.v / 4 := by
  rw [endWindow_eq]
  exact ⟨rfl, rfl, rfl, rfl, rfl, rfl, by simp [lossBelt, nextV, speedSample, hw]⟩

/-- A latch that is set stays set as the event ends (R191). -/
theorem settle_latch {s : State} {i : Nat} (h : s.bank.latches.getLsbD i = true) :
    (settle s).bank.latches.getLsbD i = true := by
  rw [settle_latches, BitVec.getLsbD_or, h, Bool.true_or]

/-- Settles O8: the parts of the loss, and the token by whether it has fired. -/
theorem eighthZeroWindowLosesEncoder : Obligations.EighthZeroWindowLosesEncoder := by
  intro s hr hm hs hg hw hz
  obtain ⟨u, hu⟩ : ∃ u, u = s.modBelt fun b => lossBelt (endWindow b) := ⟨_, rfl⟩
  have ht : exec .speedWindowEnd s = .next (settle (lossOutside u)) := by
    rw [exec_due (due := fun s => windowLength ≤ s.belt.windowMs) (act := takeWindowEnd) rfl hr hm,
      takeWindowEnd_loss hs hg hw hz, hu]
  have hb : (lossOutside u).belt = lossBelt (endWindow s.belt) := by rw [lossOutside_belt, hu]; rfl
  have hfind : ∀ r, u.find r = s.find r := fun r => by rw [hu]; rfl
  have hmap : u.map = s.map := by rw [hu]; rfl
  have hgate : ∀ g, u.gate g = s.gate g := fun g => by rw [hu]; rfl
  have htest : u.test = s.test := by rw [hu]; rfl
  have hreader : u.reader = s.reader := by rw [hu]; rfl
  obtain ⟨state, causes, motor, guard, zeros, p, v⟩ := lossBelt_endWindow hw
  refine ⟨_, ht, ?_, ?_, ?_, ?_, ?_, ?_, ?_, ?_, ?_, ?_, fun g => ?_, ?_, ?_, fun r hc => ?_, fun r x m hc => ?_,
    fun hf => ?_, fun e d hf hd h => ?_, fun e d hf hd hn hq => ?_⟩
  · refine (SameExcept.trans ?_ ((lossOutside_frame u).mono (by simp))).settled
    rw [hu]
    exact (sameExcept_modBelt _ s).mono (by simp)
  · refine Raised.settled ?_
    have hc := lossOutside_raised u
    rw [hu] at hc ⊢
    exact hc
  · rw [settle_state, hb, state]
  · rw [settle_causes, hb, causes]
  · rw [settle_motor, hb, motor]
  · rw [settle_runGuard, hb, guard]
  · rw [settle_zeroWindows, hb, zeros]
  · rw [settle_p, hb, p]
  · rw [settle_v, hb, v]
  · rw [settle_map, lossOutside_map, suspectEntry_items, abortUnfired_items, hmap]
  · rw [settle_gate, lossOutside_gate, hgate]
  · rw [settle_reader, lossOutside_reader, hreader]
  · rw [settle_reader, lossOutside_reader, hreader]
  · rw [settle_reader, lossOutside_reader, hreader, hc]; rfl
  · rw [settle_reader, lossOutside_reader, hreader, hc]; rfl
  · rw [settle_test, lossOutside_test, abortUnfired_none ((hfind _).trans hf), htest]
  · have habort := abortUnfired_aborts ((hfind _).trans hf) hd (by rw [hgate]; exact h)
    obtain ⟨test, latch, length, gone⟩ := endToken_ends .aborted u (by rw [hfind, hf]; rfl)
    refine ⟨?_, settle_latch ?_, fun hl => ⟨?_, ?_⟩⟩
    · rw [settle_test, lossOutside_test, habort, test, htest]
    · rw [lossOutside_latches, habort]; exact latch
    · rw [settle_find, lossOutside_find_token, habort]
      exact gone (by rw [hmap]; exact hl.2)
    · rw [settle_map, lossOutside_map, List.length_map, habort, length, hmap]
  · have hstays := abortUnfired_fired ((hfind _).trans hf) hd hn (by rw [hgate]; exact hq)
    refine ⟨?_, ?_, ?_⟩
    · rw [settle_find, lossOutside_find_token, hstays, hfind, hf]
    · rw [settle_map, lossOutside_map, List.length_map, hstays, hmap]
    · rw [settle_test, lossOutside_test, hstays, htest]

end Sys2Proof.Machine
end

section
/-! SUPPORT. The DEST-STATE notices of a whole event: destinations changed one at a time, in some order, each once or by steps that only go forward (R92, R114, R174, R175). -/

namespace Sys2Proof.Machine

/-! ### What a notice shows -/

theorem sameVisible_iff (a b : Dest) : sameVisible a b = true
    ↔ a.state = b.state ∧ a.owner = b.owner ∧ a.holds = b.holds ∧ a.free = b.free := by
  simp [sameVisible, and_assoc]

theorem sameVisible_refl (a : Dest) : sameVisible a a = true := (sameVisible_iff a a).mpr ⟨rfl, rfl, rfl, rfl⟩

theorem sameVisible_trans {a b c : Dest} (h : sameVisible a b = true) (k : sameVisible b c = true) :
    sameVisible a c = true := by
  rw [sameVisible_iff] at *
  exact ⟨h.1.trans k.1, h.2.1.trans k.2.1, h.2.2.1.trans k.2.2.1, h.2.2.2.trans k.2.2.2⟩

/-- A record that shows what another shows differs from a third just as the other does. -/
theorem sameVisible_congr {a b : Dest} (h : sameVisible a b = true) (c : Dest) : sameVisible a c = sameVisible b c := by
  obtain ⟨hs, ho, hh, hf⟩ := (sameVisible_iff a b).mp h
  simp only [sameVisible, hs, ho, hh, hf]

/-! ### Each destination once -/

/-- The event has come from s to u by a change of the destinations of a list, each told to its owner or its former owner as R114 and R175 have it, and of no other, and nothing else has joined a notice queue. -/
structure Offered (s u : State) (order : List DestId) : Prop where
  nodup : order.Nodup
  links : u.links = s.links
  others : ∀ d, d ∉ order → sameVisible (s.dest d) (u.dest d) = true
  queue : ∀ st : Station, u.noticeQueue st = { s.noticeQueue st with
    dests := if hears s st = true then order.foldl (fun l d => destNotice s u st d l) (s.noticeQueue st).dests
      else (s.noticeQueue st).dests }

/-- A change that shows nothing owes no notice. -/
theorem destNotice_invisible {s t : State} {d : DestId} (h : sameVisible (s.dest d) (t.dest d) = true) (st : Station)
    (l : List DestItem) : destNotice s t st d l = l := by
  have ho := ((sameVisible_iff _ _).mp h).2.1
  unfold destNotice
  rw [h, ← ho]
  split <;> simp_all

theorem offered_nil {s u : State} (hl : u.links = s.links) (hn : u.notices = s.notices)
    (hd : ∀ d, sameVisible (s.dest d) (u.dest d) = true) : Offered s u [] where
  nodup := List.nodup_nil
  links := hl
  others d _ := hd d
  queue st := by simp [State.noticeQueue, hn]

/-- One destination's change, told as R114 and R175 have it. -/
structure Tells (d : DestId) (u v : State) : Prop where
  links : v.links = u.links
  others : SameOtherDests u v d
  queue : ∀ st : Station, v.noticeQueue st = { u.noticeQueue st with
    dests := if hears u st = true then destNotice u v st d (u.noticeQueue st).dests else (u.noticeQueue st).dests }

theorem tells_refl (d : DestId) (u : State) : Tells d u u where
  links := rfl
  others _ _ := rfl
  queue st := by rw [destNotice_same rfl, ite_self]

/-- A changed record is told to its owner, as long as no station loses the destination by it (R114). -/
theorem tells_changeDest (d : DestId) (f : Dest → Dest) (u : State)
    (ho : (f (u.dest d)).owner = (u.dest d).owner) : Tells d u (changeDest d f u) where
  links := links_of_kept (changeDest_kept d f u)
  others x hx := by rw [changeDest_dest, if_neg hx]
  queue st := by
    have he : (changeDest d f u).dest d = f (u.dest d) := by rw [changeDest_dest, if_pos rfl]
    rw [changeDest_noticeQueue]
    unfold destNotice
    rw [he, ho]
    by_cases hs : hears u st = true
    · by_cases hw : (u.dest d).owner = some (.station st)
      · cases hv : sameVisible (u.dest d) (f (u.dest d)) <;> simp [hs, hw]
      · simp [hw]
    · simp [hs]

theorem completeRelease_dest (d x : DestId) (u : State) : (completeRelease d u).dest x
    = if x = d then releasedRecord (u.rackSensor d) (u.dest d) else u.dest x := by
  have h : (completeRelease d u).dests = (u.modDest d (releasedRecord (u.rackSensor d))).dests := by
    unfold completeRelease offerLastDest
    split <;> [split; skip; skip] <;> rfl
  have hx : (completeRelease d u).dest x = (u.modDest d (releasedRecord (u.rackSensor d))).dest x := by
    simp only [State.dest, h]
  rw [hx, modDest_dest]

/-- A completed release is told to the former owner, with the record as the release leaves it (R175). -/
theorem tells_completeRelease (d : DestId) (u : State) : Tells d u (completeRelease d u) where
  links := links_of_kept (completeRelease_kept d u)
  others x hx := by rw [completeRelease_dest, if_neg hx]
  queue st := by
    have he : (completeRelease d u).dest d = releasedRecord (u.rackSensor d) (u.dest d) := by
      rw [completeRelease_dest, if_pos rfl]
    have hw : (releasedRecord (u.rackSensor d) (u.dest d)).owner ≠ some (.station st) := nofun
    have hh : hears (u.modDest d (releasedRecord (u.rackSensor d))) st = hears u st := rfl
    unfold destNotice
    rw [he, if_neg hw, completeRelease, offerLastDest_noticeQueue, hh, modDest_noticeQueue, modDest_dest_self]
    by_cases hs : hears u st = true <;> by_cases ho : (u.dest d).owner = some (.station st) <;> simp [hs, ho]

theorem nodup_snoc {l : List DestId} {d : DestId} (h : l.Nodup) (hd : d ∉ l) : (l ++ [d]).Nodup := by
  rw [← List.concat_eq_append]
  exact h.concat hd

/-- A destination not told of before is told of, behind the others. -/
theorem Offered.tell {s u v : State} {order : List DestId} {d : DestId} (h : Offered s u order) (hd : d ∉ order)
    (ht : Tells d u v) : Offered s v (order ++ [d]) where
  nodup := nodup_snoc h.nodup hd
  links := ht.links.trans h.links
  others x hx := by
    simp only [List.mem_append, List.mem_singleton, not_or] at hx
    rw [ht.others x hx.2]
    exact h.others x hx.1
  queue st := by
    have hold : ∀ l, order.foldl (fun l x => destNotice s v st x l) l = order.foldl (fun l x => destNotice s u st x l) l :=
      fun l => List.foldl_ext _ _ l fun l x hx => by
        have hne : x ≠ d := fun e => hd (e ▸ hx)
        unfold destNotice
        rw [ht.others x hne]
    have hnew : ∀ l, destNotice s v st d l = destNotice u v st d l := fun l => by
      have hv := h.others d hd
      unfold destNotice
      rw [sameVisible_congr hv, ((sameVisible_iff _ _).mp hv).2.1]
    rw [ht.queue, h.queue, hears_of_links h.links]
    by_cases hs : hears s st = true
    · simp [hs, List.foldl_append, hold, hnew]
    · simp [hs]

/-- Destinations changed one after another, each once (R114). -/
theorem Offered.forEach {s : State} {f : DestId → State → State} (hf : ∀ d u, Tells d u (f d u)) (l : List DestId) :
    ∀ {u : State} {order : List DestId}, Offered s u order → (order ++ l).Nodup →
      Offered s (forEach l f u) (order ++ l) := by
  induction l with
  | nil => intro u order h _; simpa [Machine.forEach] using h
  | cons d l ih =>
    intro u order h hn
    have hd : d ∉ order := fun hm => by
      rw [List.nodup_append] at hn
      exact hn.2.2 d hm d (by simp) rfl
    have := ih (h.tell hd (hf d u)) (by simpa using hn)
    simpa [Machine.forEach] using this

/-- The destinations told of, and behind them the others. -/
theorem Offered.perm {s u : State} {order : List DestId} (h : Offered s u order) :
    (order ++ allDests.filter fun d => d ∉ order).Perm allDests := by
  refine (List.perm_ext_iff_of_nodup ?_ nodup_allDests).mpr fun d => ?_
  · rw [List.nodup_append]
    refine ⟨h.nodup, nodup_allDests.filter _, fun a ha b hb e => ?_⟩
    simp only [List.mem_filter, decide_eq_true_eq] at hb
    exact hb.2 (e ▸ ha)
  · by_cases hd : d ∈ order <;> simp [hd, mem_allDests]

/-- The destinations that are not told of add nothing. -/
theorem Offered.foldl_all {s u : State} {order : List DestId} (h : Offered s u order) (st : Station)
    (l : List DestItem) : (order ++ allDests.filter fun d => d ∉ order).foldl (fun l d => destNotice s u st d l) l
      = order.foldl (fun l d => destNotice s u st d l) l := by
  have quiet : ∀ m : List DestId, (∀ d ∈ m, d ∉ order) → ∀ l, m.foldl (fun l d => destNotice s u st d l) l = l := by
    intro m
    induction m with
    | nil => exact fun _ _ => rfl
    | cons d m ih =>
      intro hm l
      rw [List.foldl_cons, destNotice_invisible (h.others d (hm d (by simp)))]
      exact ih (fun x hx => hm x (List.mem_cons_of_mem d hx)) l
  rw [List.foldl_append]
  exact quiet _ (fun d hd => by simpa using (List.mem_filter.mp hd).2) _

/-- The notices of a served request are those its block has offered (R114, R164). -/
theorem Offered.destNotices {q : Sender} {s u : State} {order : List DestId} (h : Offered (greeted q s) u order)
    (tag kind : Byte) (status : Status) (result : List Byte) :
    DestNotices (some q) s (settle (queueReply q tag kind ⟨u, status, result⟩)) := by
  have hn : ∀ st, (queueReply q tag kind ⟨u, status, result⟩).noticeQueue st = u.noticeQueue st := fun st => by
    simp only [State.noticeQueue, queueReply_notices]
  have hg : ∀ st, hears (greeted q s) st = hears (queueReply q tag kind ⟨u, status, result⟩) st := fun st => by
    rw [← hears_of_links h.links]
    unfold hears queueReply
    rw [modLink_link]
    split
    · next e => rw [e]
    · rfl
  have he : ∀ st x l, destNotice (greeted q s) u st x l = destNotice s (queueReply q tag kind ⟨u, status, result⟩) st x l :=
    fun st x l => by unfold destNotice; rw [queueReply_dest, greeted_dest]
  refine noticesOffered_settle h.perm (fun st => ?_) (fun st => ?_)
    (fun st => freeForNotice_queueReply q tag kind ⟨u, status, result⟩ s st h.links) (fun st _ => ?_)
  · have hf := h.foldl_all st
    simp only [he] at hf
    rw [hf, hn, h.queue, ← hg]
    simp only [he, greeted_noticeQueue]
  · rw [hn, h.queue, greeted_noticeQueue]
  · rw [hn, h.queue, greeted_noticeQueue]

/-! ### Steps that only go forward -/

/-- Every hold of one set is in the other. -/
structure Holds.Within (a b : Holds) : Prop where
  full : a.full = true → b.full = true
  blocked : a.blocked = true → b.blocked = true
  silent : a.silent = true → b.silent = true
  gateOut : a.gateOut = true → b.gateOut = true
  orphaned : a.orphaned = true → b.orphaned = true

theorem Holds.within_refl (a : Holds) : a.Within a := ⟨id, id, id, id, id⟩

theorem Holds.Within.trans {a b c : Holds} (h : a.Within b) (k : b.Within c) : a.Within c :=
  ⟨k.full ∘ h.full, k.blocked ∘ h.blocked, k.silent ∘ h.silent, k.gateOut ∘ h.gateOut, k.orphaned ∘ h.orphaned⟩

theorem Holds.Within.antisymm {a b : Holds} (h : a.Within b) (k : b.Within a) : a = b := by
  have eq : ∀ {x y : Bool}, (x = true → y = true) → (y = true → x = true) → x = y := fun h k =>
    Bool.eq_iff_iff.mpr ⟨h, k⟩
  obtain ⟨af, ab, as, ag, ao⟩ := a
  obtain ⟨bf, bb, bs, bg, bo⟩ := b
  rw [Holds.mk.injEq]
  exact ⟨eq h.full k.full, eq h.blocked k.blocked, eq h.silent k.silent, eq h.gateOut k.gateOut,
    eq h.orphaned k.orphaned⟩

/-- What an event that moves entries may do to a record, as far as it shows: gain holds, and go from DRAINING to CLOSED (R102, R107). -/
structure Dest.Advances (a b : Dest) : Prop where
  owner : b.owner = a.owner
  free : b.free = a.free
  state : b.state = a.state ∨ (a.state = .draining ∧ b.state = .closed)
  holds : a.holds.Within b.holds

theorem Dest.advances_of_sameVisible {a b : Dest} (h : sameVisible a b = true) : a.Advances b := by
  obtain ⟨hs, ho, hh, hf⟩ := (sameVisible_iff a b).mp h
  exact ⟨ho.symm, hf.symm, .inl hs.symm, hh ▸ a.holds.within_refl⟩

theorem Dest.Advances.trans {a b c : Dest} (h : a.Advances b) (k : b.Advances c) : a.Advances c where
  owner := k.owner.trans h.owner
  free := k.free.trans h.free
  state := by
    rcases h.state with h | h <;> rcases k.state with k | k <;> simp_all
  holds := h.holds.trans k.holds

/-- A record that shows in the end what it showed at first has shown it all along. -/
theorem Dest.Advances.between {a b c : Dest} (h : a.Advances b) (k : b.Advances c) (e : sameVisible a c = true) :
    sameVisible b c = true := by
  obtain ⟨hs, -, hh, -⟩ := (sameVisible_iff a c).mp e
  refine (sameVisible_iff b c).mpr ⟨?_, k.owner.symm, k.holds.antisymm (hh ▸ h.holds), k.free.symm⟩
  rcases h.state with h | h <;> rcases k.state with k | k <;> simp_all

/-- The event has come from s to u by steps that only go forward, each told to the owner by its mark: the destinations of the list show a change, in the order of their first one (R114, R174). -/
structure Marked (s u : State) (order : List DestId) : Prop where
  nodup : order.Nodup
  links : u.links = s.links
  advances : ∀ d, (s.dest d).Advances (u.dest d)
  shown : ∀ d, d ∈ order ↔ sameVisible (s.dest d) (u.dest d) = false
  queue : ∀ st : Station, u.noticeQueue st = { s.noticeQueue st with
    dests := if hears s st = true then
        order.foldl (fun l d => if (s.dest d).owner = some (.station st) then addMark d l else l) (s.noticeQueue st).dests
      else (s.noticeQueue st).dests }

/-- Marks told by steps that only go forward are the notices owed. -/
theorem Marked.offered {s u : State} {order : List DestId} (h : Marked s u order) : Offered s u order where
  nodup := h.nodup
  links := h.links
  others d hd := by
    rw [h.shown, Bool.not_eq_false] at hd
    exact hd
  queue st := by
    have he : ∀ l, order.foldl (fun l d => if (s.dest d).owner = some (.station st) then addMark d l else l) l
        = order.foldl (fun l d => destNotice s u st d l) l :=
      fun l => List.foldl_ext _ _ l fun l d hd => by
        unfold destNotice
        rw [(h.advances d).owner, (h.shown d).mp hd]
        split <;> simp_all
    rw [h.queue, he]

theorem mem_addMark (d : DestId) (l : List DestItem) : .mark d ∈ addMark d l := by
  unfold addMark; split
  · next h => simpa using h
  · simp

theorem addMark_of_mem {d : DestId} {l : List DestItem} (h : .mark d ∈ l) : addMark d l = l :=
  if_pos (by simpa using h)

theorem addMark_subset (d : DestId) {x : DestItem} {l : List DestItem} (h : x ∈ l) : x ∈ addMark d l := by
  unfold addMark; split
  · exact h
  · exact List.mem_append_left _ h

/-- The mark of each owned destination of a list is there once its turn has come. -/
theorem mem_foldl_addMark {own : DestId → Prop} [DecidablePred own] {d : DestId} (ho : own d) (order : List DestId) :
    ∀ l : List DestItem, d ∈ order ∨ .mark d ∈ l →
      .mark d ∈ order.foldl (fun l x => if own x then addMark x l else l) l := by
  induction order with
  | nil => intro l h; simpa using h
  | cons x order ih =>
    intro l h
    refine ih _ ?_
    dsimp only
    by_cases hx : d = x
    · subst hx; right; rw [if_pos ho]; exact mem_addMark d l
    · rcases h with h | h
      · left; exact (List.mem_cons.mp h).resolve_left hx
      · right; split
        · exact addMark_subset x h
        · exact h

/-- Told of by marks, in some order. -/
def Told (s u : State) : Prop := ∃ order, Marked s u order

theorem told_refl (s : State) : Told s s := ⟨[], {
  nodup := List.nodup_nil
  links := rfl
  advances := fun d => Dest.advances_of_sameVisible (sameVisible_refl _)
  shown := fun d => by simp [sameVisible_refl]
  queue := fun st => by simp }⟩

/-- A change that no notice shows adds none. -/
theorem Told.invisible {s u v : State} (h : Told s u) (hl : v.links = u.links) (hn : v.notices = u.notices)
    (hd : ∀ d, sameVisible (u.dest d) (v.dest d) = true) : Told s v := by
  obtain ⟨order, h⟩ := h
  refine ⟨order, {
    nodup := h.nodup
    links := hl.trans h.links
    advances := fun d => (h.advances d).trans (Dest.advances_of_sameVisible (hd d))
    shown := fun d => ?_
    queue := fun st => by rw [← h.queue]; simp only [State.noticeQueue, hn] }⟩
  have e : sameVisible (s.dest d) (v.dest d) = sameVisible (s.dest d) (u.dest d) := by
    rw [Bool.eq_iff_iff]
    refine ⟨fun k => ?_, fun k => sameVisible_trans k (hd d)⟩
    have ks := (sameVisible_iff _ _).mp k
    have us := (sameVisible_iff _ _).mp (hd d)
    exact (sameVisible_iff _ _).mpr ⟨ks.1.trans us.1.symm, ks.2.1.trans us.2.1.symm, ks.2.2.1.trans us.2.2.1.symm,
      ks.2.2.2.trans us.2.2.2.symm⟩
  rw [e]; exact h.shown d

/-- A change that touches no destination, link or notice adds none. -/
theorem Told.elsewhere {s u v : State} (h : Told s u) (hl : v.links = u.links) (hn : v.notices = u.notices)
    (hd : v.dests = u.dests) : Told s v :=
  h.invisible hl hn fun d => by
    have e : v.dest d = u.dest d := by simp only [State.dest, hd]
    rw [e]; exact sameVisible_refl _

/-- A change of a record that goes forward is told by its mark, or has been told of before (R174). -/
theorem Told.changeDest {s u : State} (h : Told s u) (d : DestId) (f : Dest → Dest)
    (hf : (u.dest d).Advances (f (u.dest d))) : Told s (changeDest d f u) := by
  have hlinks : (Machine.changeDest d f u).links = u.links := links_of_kept (changeDest_kept d f u)
  have hadv : ∀ x, (u.dest x).Advances ((Machine.changeDest d f u).dest x) := fun x => by
    rw [changeDest_dest]; split
    · next e => subst e; exact hf
    · exact Dest.advances_of_sameVisible (sameVisible_refl _)
  cases hv : sameVisible (u.dest d) (f (u.dest d)) with
  | true =>
    refine h.invisible hlinks ?_ fun x => ?_
    · simp [Machine.changeDest, hv]
    · rw [changeDest_dest]; split
      · next e => subst e; exact hv
      · exact sameVisible_refl _
  | false =>
    obtain ⟨order, h⟩ := h
    have hmoved : sameVisible (s.dest d) (f (u.dest d)) = false := by
      by_contra hn
      rw [(h.advances d).between hf (by simpa using hn)] at hv
      exact absurd hv (by simp)
    have hqueue : ∀ st, (Machine.changeDest d f u).noticeQueue st = { u.noticeQueue st with
        dests := if hears s st = true then
            (if (s.dest d).owner = some (.station st) then addMark d (u.noticeQueue st).dests
              else (u.noticeQueue st).dests)
          else (u.noticeQueue st).dests } := fun st => by
      rw [changeDest_noticeQueue, hf.owner, (h.advances d).owner, hears_of_links h.links, hv]
      by_cases ho : (s.dest d).owner = some (.station st) <;> by_cases hs : hears s st = true <;> simp [ho, hs]
    by_cases hd : d ∈ order
    · refine ⟨order, {
        nodup := h.nodup
        links := hlinks.trans h.links
        advances := fun x => (h.advances x).trans (hadv x)
        shown := fun x => ?_
        queue := fun st => ?_ }⟩
      · rw [changeDest_dest]; split
        · next e => subst e; simp [hd, hmoved]
        · exact h.shown x
      · rw [hqueue, h.queue]
        by_cases hs : hears s st = true
        · by_cases ho : (s.dest d).owner = some (.station st)
          · simp only [hs, ho, if_true]
            rw [addMark_of_mem (mem_foldl_addMark (own := fun x => (s.dest x).owner = some (.station st)) ho order _
              (.inl hd))]
          · simp only [hs, ho, if_true, if_false]
        · simp [hs]
    · refine ⟨order ++ [d], {
        nodup := nodup_snoc h.nodup hd
        links := hlinks.trans h.links
        advances := fun x => (h.advances x).trans (hadv x)
        shown := fun x => ?_
        queue := fun st => ?_ }⟩
      · rw [changeDest_dest, List.mem_append, List.mem_singleton]; split
        · next e => subst e; simp [hmoved]
        · next e => simp [e, h.shown x]
      · rw [hqueue, h.queue]
        by_cases hs : hears s st = true
        · simp [hs, List.foldl_append]
        · simp [hs]

/-- The notices of a served request whose block only goes forward (R114, R164). -/
theorem Told.destNotices {q : Sender} {s u : State} (h : Told (greeted q s) u) (tag kind : Byte) (status : Status)
    (result : List Byte) : DestNotices (some q) s (settle (queueReply q tag kind ⟨u, status, result⟩)) := by
  obtain ⟨order, h⟩ := h
  exact h.offered.destNotices tag kind status result

/-- The notices of an event of the part's own that only goes forward (R114, R164). -/
theorem Told.destNotices_event {s u : State} (h : Told s u) : DestNotices none s (settle u) := by
  obtain ⟨order, h⟩ := h
  have h := h.offered
  refine noticesOffered_settle h.perm (fun st => ?_) (fun st => ?_) (fun st => ?_) (fun st _ => ?_)
  · rw [h.foldl_all st, h.queue, hears_of_links h.links]
  · rw [h.queue]
  · simp only [freeForNotice, State.link, h.links]
  · rw [h.queue]

/-! ### Routing goes forward -/

theorem Told.unreserve {s u : State} (h : Told s u) (d : DestId) : Told s (unreserve d u) := by
  have h1 : Told s (u.modDest d fun r => { r with reserved := r.reserved - 1 }) :=
    h.invisible rfl rfl fun x => by
      rw [modDest_dest]; split
      · next e => subst e; exact (sameVisible_iff _ _).mpr ⟨rfl, rfl, rfl, rfl⟩
      · exact sameVisible_refl _
  unfold Machine.unreserve
  dsimp only
  split
  · next hc => exact h1.changeDest d _ ⟨rfl, rfl, .inr ⟨hc.1, rfl⟩, Holds.within_refl _⟩
  · exact h1

theorem Told.modEntry {s u : State} (h : Told s u) (r : EntryRef) (f : Entry → Entry) : Told s (u.modEntry r f) :=
  h.elsewhere rfl rfl rfl

theorem Told.raise {s u : State} (h : Told s u) (c : Counter) : Told s (u.raise c) := h.elsewhere rfl rfl rfl

theorem Told.syncConditions {s u : State} (h : Told s u) : Told s (syncConditions u) :=
  h.elsewhere (by simp [Machine.syncConditions]) (by simp [Machine.syncConditions]) (by simp [Machine.syncConditions])

theorem Told.withdraw {s u : State} (h : Told s u) (r : EntryRef) (d : DestId) : Told s (withdraw r d u) :=
  h.elsewhere rfl rfl rfl

theorem Told.assign {s u : State} (h : Told s u) (r : EntryRef) (d : DestId) : Told s (assign r d u) := by
  have h1 : Told s ((u.modEntry r fun e => { e with dest := some (.gateDest d), state := .routed }).modDest d
      fun x => { x with reserved := x.reserved + 1 }) :=
    (h.modEntry r _).invisible rfl rfl fun x => by
      rw [modDest_dest]; split
      · next e => subst e; exact (sameVisible_iff _ _).mpr ⟨rfl, rfl, rfl, rfl⟩
      · exact sameVisible_refl _
  exact h1.raise _

theorem Told.decideRoute {s u : State} (h : Told s u) (r : EntryRef) (o : Option DestId) :
    Told s (decideRoute r o u) := by
  unfold Machine.decideRoute
  split
  · exact h
  · split
    · exact h.assign r _
    · exact h.modEntry r _

theorem Told.giveBack {s u : State} (h : Told s u) (r : EntryRef) (d : DestId) : Told s (giveBack r d u) :=
  (h.modEntry r _).unreserve d

theorem Told.countReroute {s u : State} (h : Told s u) (r : EntryRef) : Told s (countReroute r u) :=
  (h.modEntry r _).raise _

theorem Told.reroute {s u : State} (h : Told s u) (d : DestId) (r : EntryRef) : Told s (reroute d r u) := by
  unfold Machine.reroute
  split
  · exact h
  · split
    · split
      case h_1 | h_2 => exact (((h.withdraw r d).giveBack r d).countReroute r).decideRoute r (some d)
      case h_3 => exact (h.modEntry r _).unreserve d
      all_goals exact h
    · exact h

theorem Told.forEach {α : Type} {s : State} {f : α → State → State} (hf : ∀ x u, Told s u → Told s (f x u))
    (l : List α) {u : State} (h : Told s u) : Told s (forEach l f u) :=
  forEach_invariant (Told s) f l (fun x _ u => hf x u) u h

theorem Told.cascade {s u : State} (h : Told s u) (ds : List DestId) : Told s (cascade ds u) :=
  Told.forEach (fun x _ h => h.reroute x.1 x.2) _ h

theorem Told.gainHold {s u : State} (h : Told s u) {set : Holds → Holds} (hs : ∀ k : Holds, k.Within (set k))
    (d : DestId) : Told s (gainHold set d u) :=
  h.changeDest d _ ⟨rfl, rfl, .inl rfl, hs _⟩

/-- A rerouting hold that is gained only adds to the holds, and its cascade only goes forward (R92, R107). -/
theorem Told.gainRerouting {s u : State} (h : Told s u) (c : Holds → Bool) {set : Holds → Holds}
    (hs : ∀ k : Holds, k.Within (set k)) (ds : List DestId) : Told s (gainRerouting c set ds u) :=
  (Told.forEach (fun d _ h => h.gainHold hs d) _ h).syncConditions.cascade _

theorem within_setBlocked (k : Holds) : k.Within (setBlocked k) := ⟨id, fun _ => rfl, id, id, id⟩

theorem within_setFull (k : Holds) : k.Within (setFull k) := ⟨fun _ => rfl, id, id, id, id⟩

theorem within_setSilent (k : Holds) : k.Within (setSilent k) := ⟨id, id, fun _ => rfl, id, id⟩

theorem within_setGateOut (k : Holds) : k.Within (setGateOut k) := ⟨id, id, id, fun _ => rfl, id⟩

end Sys2Proof.Machine
end

section
/-! SUPPORT. RESTART, block by block (R18, R28, R70, R95, R117, R138, R155, R187). -/

namespace Sys2Proof.Machine

/-! ### The state apart from the destinations and what they are told -/

/-- Everything but the destinations and the notices. -/
structure Untold where
  kept : Kept
  map : List Entry
  gates : Vector Gate 12
  test : TestRecord
  bank : Bank
  draws : Nat

/-- That part of a state. -/
def State.untold (s : State) : Untold := ⟨s.kept, s.map, s.gates, s.test, s.bank, s.draws⟩

theorem kept_of_untold {s t : State} (h : t.untold = s.untold) : t.kept = s.kept := congrArg Untold.kept h

theorem map_of_untold {s t : State} (h : t.untold = s.untold) : t.map = s.map := congrArg Untold.map h

theorem gates_of_untold {s t : State} (h : t.untold = s.untold) : t.gates = s.gates := congrArg Untold.gates h

theorem test_of_untold {s t : State} (h : t.untold = s.untold) : t.test = s.test := congrArg Untold.test h

theorem bank_of_untold {s t : State} (h : t.untold = s.untold) : t.bank = s.bank := congrArg Untold.bank h

theorem modDest_untold (s : State) (d : DestId) (f : Dest → Dest) : (s.modDest d f).untold = s.untold := rfl

theorem offerDest_untold (d : DestId) (s : State) : (offerDest d s).untold = s.untold := by
  unfold offerDest; split <;> [split; skip; skip] <;> rfl

theorem offerLastDest_untold (d : DestId) (o : Option Sender) (s : State) :
    (offerLastDest d o s).untold = s.untold := by
  unfold offerLastDest; split <;> [split; skip; skip] <;> rfl

theorem changeDest_untold (d : DestId) (f : Dest → Dest) (s : State) : (changeDest d f s).untold = s.untold := by
  unfold changeDest; dsimp only; split
  · rfl
  · rw [offerDest_untold]; rfl

theorem completeRelease_untold (d : DestId) (s : State) : (completeRelease d s).untold = s.untold := by
  rw [completeRelease, offerLastDest_untold]; rfl

/-- A change of the destinations and their notices alone leaves every other block alone. -/
theorem sameExcept_of_untold {s t : State} (h : t.untold = s.untold) : SameExcept [.dests, .notices] s t :=
  have hbank : t.bank = s.bank := bank_of_untold h
  sameExcept_of_kept (kept_of_untold h) (fun _ => map_of_untold h) (by simp)
    (fun _ => gates_of_untold h) (fun _ => test_of_untold h) (by simp) (fun _ => by rw [hbank])
    (fun _ => by rw [hbank]; exact ⟨rfl, rfl, rfl⟩)

/-! ### Each destination of a RESTART (R117) -/

/-- What RESTART makes of a destination whose queue and R_d it has emptied. -/
def restartedDest (asserted : Bool) (r : Dest) : Dest :=
  match r.state with
  | .draining => { r with state := .closed }
  | .releasing => releasedRecord asserted r
  | .unclaimed | .closed | .opened => r

theorem settleRestarted_untold (d : DestId) (s : State) : (settleRestarted d s).untold = s.untold := by
  unfold settleRestarted; split
  · exact changeDest_untold d _ s
  · exact completeRelease_untold d s
  all_goals rfl

/-- Each destination is told to its owner, or to its former owner where its release completes (R114, R175). -/
theorem tells_settleRestarted (d : DestId) (s : State) : Tells d s (settleRestarted d s) := by
  unfold settleRestarted; split
  · exact tells_changeDest d _ s rfl
  · exact tells_completeRelease d s
  all_goals exact tells_refl d s

theorem settleRestarted_dest (d x : DestId) (s : State) : (settleRestarted d s).dest x
    = if x = d then restartedDest (s.rackSensor d) (s.dest d) else s.dest x := by
  cases h : (s.dest d).state <;> simp only [settleRestarted, restartedDest, h]
  case draining => exact changeDest_dest d x _ s
  case releasing => exact completeRelease_dest d x s
  all_goals
    split
    · next e => rw [e]
    · rfl

/-- Over all destinations, each is settled once by its own record and rack sensor. -/
theorem settleAllRestarted_dest (l : List DestId) (hn : l.Nodup) (x : DestId) : ∀ s : State,
    (forEach l settleRestarted s).dest x
      = if x ∈ l then restartedDest (s.rackSensor x) (s.dest x) else s.dest x := by
  induction l with
  | nil => intro s; rfl
  | cons d l ih =>
    intro s
    rw [List.nodup_cons] at hn
    have hr : (settleRestarted d s).rackSensor x = s.rackSensor x := by
      have hp : (settleRestarted d s).pins = s.pins := pins_of_kept (kept_of_untold (settleRestarted_untold d s))
      simp only [State.rackSensor, hp]
    have hc : forEach (d :: l) settleRestarted s = forEach l settleRestarted (settleRestarted d s) := rfl
    rw [hc, ih hn.2, hr, settleRestarted_dest]
    by_cases hx : x = d
    · subst hx; simp [hn.1]
    · simp [hx]

/-! ### The other blocks of a RESTART -/

/-- RESTART before the destinations are settled by their states. -/
def restartBlocks (s : State) : State :=
  let u := restartReader ((endToken .aborted s).modBelt restartBelt)
  { u with map := [], gates := mapTable restartGate u.gates, dests := mapTable restartDest u.dests }

theorem restartPart_eq (s : State) : restartPart s = forEach allDests settleRestarted (restartBlocks s) := rfl

theorem restartPart_untold (s : State) : (restartPart s).untold = (restartBlocks s).untold := by
  rw [restartPart_eq]
  exact forEach_keeps State.untold _ settleRestarted_untold allDests (restartBlocks s)

theorem restartBlocks_pins (s : State) : (restartBlocks s).pins = s.pins :=
  show (endToken .aborted s).pins = s.pins from pins_of_kept (endToken_kept .aborted s)

theorem restartBlocks_links (s : State) : (restartBlocks s).links = s.links :=
  show (endToken .aborted s).links = s.links from links_of_kept (endToken_kept .aborted s)

theorem endToken_frame (x : TestResult) (s : State) : SameExcept [.map, .gates, .test] s (endToken x s) :=
  sameExcept_of_kept (endToken_kept x s) (by simp) (fun _ => by rw [endToken_eq]) (by simp) (by simp)
    (fun _ => by rw [endToken_eq]) (fun _ => by rw [endToken_eq])
    (fun _ => by rw [endToken_eq]; exact ⟨rfl, rfl, rfl⟩)

theorem restartBlocks_frame (s : State) :
    SameExcept [.belt, .reader, .map, .gates, .dests, .test] s (restartBlocks s) := by
  refine ((endToken_frame .aborted s).mono (by simp)).trans fun b hb => ?_
  have h0 := b.same_refl (endToken .aborted s)
  cases b
  case belt | reader | map | gates | dests | test => simp at hb
  all_goals exact h0

theorem restartPart_frame (s : State) :
    SameExcept [.belt, .reader, .map, .gates, .dests, .test, .notices] s (restartPart s) :=
  ((restartBlocks_frame s).mono (by simp)).trans ((sameExcept_of_untold (restartPart_untold s)).mono (by simp))

theorem restartPart_map (s : State) : (restartPart s).map = [] := (map_of_untold (restartPart_untold s)).trans rfl

theorem restartPart_reader (s : State) : (restartPart s).reader
    = { s.reader with capture := captureAtStart s.pins.readEye, eyeBlocked := false } := by
  have h : (restartPart s).reader = (restartBlocks s).reader := reader_of_kept (kept_of_untold (restartPart_untold s))
  have hk := endToken_kept .aborted s
  rw [h, ← reader_of_kept hk, ← pins_of_kept hk]
  rfl

theorem restartPart_gate (s : State) (g : GateId) : (restartPart s).gate g = { s.gate g with
    queue := [], checks := (s.gate g).checks.map fun c => { c with forToken := false } } := by
  have h : (restartPart s).gates = mapTable restartGate (endToken .aborted s).gates :=
    (gates_of_untold (restartPart_untold s)).trans rfl
  have hg : (restartPart s).gate g = restartGate ((endToken .aborted s).gate g) := by
    rw [State.gate, h, mapTable_get]; rfl
  rw [hg, endToken_gate]
  rfl

theorem restartPart_test (s : State) :
    (restartPart s).test = if s.find .token = none then s.test else { s.test with result := .aborted } := by
  have h : (restartPart s).test = (endToken .aborted s).test :=
    (test_of_untold (restartPart_untold s)).trans rfl
  rw [h, endToken_test]

theorem restartPart_latch {s : State} (h : s.find .token ≠ none) : (restartPart s).bank.latches.getLsbD 12 = true := by
  have hb : (restartPart s).bank = (endToken .aborted s).bank :=
    (bank_of_untold (restartPart_untold s)).trans rfl
  rw [hb]
  exact (endToken_ends .aborted s (Option.isSome_iff_ne_none.mpr h)).2.1

theorem restartPart_links (s : State) : (restartPart s).links = s.links :=
  (links_of_kept (kept_of_untold (restartPart_untold s))).trans (restartBlocks_links s)

theorem restartBlocks_dest (s : State) (d : DestId) : (restartBlocks s).dest d = restartDest (s.dest d) := by
  have h : (endToken .aborted s).dests = s.dests := by rw [endToken_eq]
  have hm : (restartBlocks s).dests = mapTable restartDest s.dests := by rw [← h]; rfl
  rw [State.dest, hm, mapTable_get]
  rfl

/-- Each destination after RESTART, by its state before (R95, R117, R155). -/
theorem restartPart_dest (s : State) (d : DestId) :
    (restartPart s).dest d = restartedDest (s.rackSensor d) (restartDest (s.dest d)) := by
  have hp := restartBlocks_pins s
  have hr : (restartBlocks s).rackSensor d = s.rackSensor d := by simp only [State.rackSensor, hp]
  rw [restartPart_eq, settleAllRestarted_dest allDests nodup_allDests, if_pos (mem_allDests d), hr,
    restartBlocks_dest]

/-- The emptied queues and R_d show in no notice, and each destination is then told of once (R114). -/
theorem restartPart_offered (s : State) : Offered s (restartPart s) allDests := by
  have h : Offered s (restartBlocks s) [] := by
    refine offered_nil (restartBlocks_links s) ?_ fun d => ?_
    · show (endToken .aborted s).notices = s.notices
      rw [endToken_eq]
    · rw [restartBlocks_dest]
      exact (sameVisible_iff _ _).mpr ⟨rfl, rfl, rfl, rfl⟩
  exact h.forEach tells_settleRestarted allDests nodup_allDests

/-- A RESTART leaves no reservation and no record, closes a DRAINING destination, completes a RELEASING one, and leaves the others otherwise alone (R95, R117, R155). -/
theorem restartedDest_by_state (asserted : Bool) (r : Dest) :
    let r' := restartedDest asserted (restartDest r)
    r'.reserved = 0 ∧ r'.awaiting = []
      ∧ (r.state = .draining → r'.state = .closed ∧ r'.owner = r.owner ∧ r'.free = r.free ∧ r'.holds = r.holds)
      ∧ (r.state = .releasing → r'.state = .unclaimed ∧ r'.owner = none ∧ r'.free = 0 ∧ r'.holds.silent = false
          ∧ r'.holds.orphaned = false)
      ∧ (r.state = .unclaimed ∨ r.state = .closed ∨ r.state = .opened →
          r' = { r with reserved := 0, awaiting := [] }) := by
  cases h : r.state <;> simp [restartedDest, restartDest, releasedRecord, h]

theorem handlerOf_restart (q : Sender) (pl : List Byte) (s : State) :
    handlerOf .restart q pl s = ⟨restartPart s, .done, beltBytes (restartPart s).belt⟩ := rfl

/-- Settles O53: RESTART's part of each block. -/
theorem restartEmptiesTracking : Obligations.RestartEmptiesTracking := by
  intro s tag hs
  obtain ⟨u, hu⟩ : ∃ u, u = restartPart (greeted .site s) := ⟨_, rfl⟩
  have he := exec_served (tag := tag) hs.1 (admissible_commissioned .restart .site [] s hs rfl rfl) (by simp)
  rw [handlerOf_restart, ← hu] at he
  have hbelt : u.belt = restartBelt (greeted .site s).belt := hu ▸ restartPart_belt _
  have frame : SameExcept [.belt, .reader, .map, .gates, .dests, .test, .notices] (greeted .site s) u :=
    hu ▸ restartPart_frame _
  have links : u.links = (greeted .site s).links := hu ▸ restartPart_links _
  obtain ⟨took, belt, -, replied⟩ := answer_settled tag .restart (a := ⟨u, .done, beltBytes u.belt⟩) frame links
  have notices : DestNotices (some .site) s (settle (queueReply .site tag Kind.restart.code ⟨u, .done, beltBytes u.belt⟩)) :=
    Offered.destNotices (hu ▸ restartPart_offered _) tag _ .done _
  refine ⟨_, he, took, ?_, notices, ?_, settle_idleMs ?_, ?_, fun g => ?_,
    fun d => ?_, ?_, fun hf => settle_latch ?_, ?_⟩
  · rw [settle_map, queueReply_map, hu, restartPart_map]
  · rw [belt, hbelt, greeted_belt]; rfl
  · rw [queueReply_belt, hbelt]; rfl
  · rw [settle_reader, queueReply_reader, hu, restartPart_reader, greeted_reader, greeted_pins]; rfl
  · rw [settle_gate, queueReply_gate, hu, restartPart_gate, greeted_gate]
  · have hd : u.dest d = restartedDest (s.rackSensor d) (restartDest (s.dest d)) := by
      rw [hu, restartPart_dest, greeted_dest, greeted_rackSensor]
    rw [settle_dest, queueReply_dest, hd]
    exact restartedDest_by_state (s.rackSensor d) (s.dest d)
  · rw [settle_test, queueReply_test, hu, restartPart_test, greeted_find, greeted_test]
  · have latch := restartPart_latch (s := greeted .site s) (by rwa [greeted_find])
    rw [← hu] at latch
    rw [queueReply_bank]
    exact latch
  · rw [beltBytes_still belt]; exact replied

end Sys2Proof.Machine
end

section
/-! SUPPORT. RESUME of a HALTED belt: its whole cause set at once, and the SUSPECT entries an encoder loss has left (R15, R63, R79, R102). -/

namespace Sys2Proof.Machine

/-! ### A request whose block counts -/

theorem heard_of_same {s t u : State} {q : Sender} (h : Heard s t q) (hr : u.receivers = t.receivers)
    (hl : ∀ x, SameLink t u x) : Heard s u q := by
  obtain ⟨hunt, others, silence, hellos, state, links⟩ := h
  have hp : ∀ p, u.receiver p = t.receiver p := fun p => by simp only [State.receiver, hr]
  obtain ⟨ls, lh, lm, -⟩ := hl q
  exact ⟨(hp _).trans hunt, fun p h => (hp p).trans (others p h), lm.trans silence, lh.trans hellos, ls.trans state,
    fun x hx => (links x hx).trans (hl x)⟩

/-- A port's change takes nothing but the ports. -/
theorem modLink_links {s t : State} (h : t.links = s.links) (q : Sender) (f : Link → Link) :
    (t.modLink q f).links = (s.modLink q f).links := by
  simp only [State.modLink, State.link, h]

/-- A port has heard a request whose block leaves the ports alone. -/
theorem heard_of_answer {q : Sender} (tag kind : Byte) {s : State} {a : Answer}
    (hr : a.state.receivers = (greeted q s).receivers) (hl : a.state.links = (greeted q s).links) :
    Heard s (settle (queueReply q tag kind a)) q := by
  obtain ⟨heard, -⟩ := took_of_unchanged q tag kind s a.status a.result
  refine heard_of_same heard (by simp [hr]) fun x => ?_
  have hw : (queueReply q tag kind a).links = (queueReply q tag kind ⟨greeted q s, a.status, a.result⟩).links :=
    modLink_links hl q _
  have hs := settle_sameLink x (queueReply q tag kind a)
  have h0 := settle_sameLink x (queueReply q tag kind ⟨greeted q s, a.status, a.result⟩)
  have he : (queueReply q tag kind a).link x = (queueReply q tag kind ⟨greeted q s, a.status, a.result⟩).link x := by
    simp only [State.link, hw]
  unfold SameLink at *
  rw [he] at hs
  simp only [hs, h0, and_self]

/-- A greeting counts its frame alone. -/
theorem greeted_counter_other {q : Sender} {s : State} {c : Counter} (h : c ≠ .ofPort (.sender q) .framesGood) :
    (greeted q s).counter c = s.counter c := by
  simpa [h] using greeted_raised q s c

/-- A served request whose block moves counters of its own: as `answer_settled`, with the frame's own count at least. -/
theorem counting_settled {q : Sender} (tag : Byte) (k : Kind) {l : List Block} {s : State} {a : Answer}
    (h : SameExcept (.counters :: l) (greeted q s) a.state) (hk : a.state.links = (greeted q s).links)
    (hc : a.state.counter (.ofPort (.sender q) .framesGood) = (greeted q s).counter (.ofPort (.sender q) .framesGood))
    (hr : Block.receivers ∉ l := by simp) :
    let t := settle (queueReply q tag k.code a)
    TookCounting q l s t ∧ t.belt.still = a.state.belt.still ∧ t.matcher = a.state.matcher
      ∧ Replied s t q tag k a.status a.result := by
  refine ⟨⟨heard_of_answer tag k.code (h .receivers (by simp [hr])) hk, ?_, fun b hb => ?_⟩, settle_belt_still _,
    settle_matcher _, replied_of q tag k a s ((owed_of_links hk q).trans (greeted_owed q s))⟩
  · rw [settle_counter, queueReply_counter, hc]
    simpa using greeted_raised q s (.ofPort (.sender q) .framesGood)
  · simp only [List.cons_append, List.nil_append, List.mem_cons, not_or] at hb
    obtain ⟨br, bl, bc, hb⟩ := hb
    have hg : b.same s (greeted q s) := greeted_frame q s b (by simp [br, bl, bc])
    have hq : b.same a.state (queueReply q tag k.code a) := by
      cases b <;> simp_all [Block.same, SameDests, queueReply, SameNotices]
    exact Block.same_trans (Block.same_trans (Block.same_trans hg (h b (by simp [bc, hb]))) hq) (same_settle b _)

/-! ### The reservation of an entry that leaves (R79, R102) -/

/-- A record after n of its reservations have been released, one after another. -/
def freed (n : Nat) (r : Dest) : Dest :=
  { r with
    reserved := r.reserved - n
    state := if n ≠ 0 ∧ r.state = .draining ∧ r.reserved - n = 0 then .closed else r.state }

theorem freed_zero (r : Dest) : freed 0 r = r := by simp [freed]

theorem freed_freed (m n : Nat) (r : Dest) : freed m (freed n r) = freed (n + m) r := by
  have hsub : r.reserved - n - m = r.reserved - (n + m) := Nat.sub_sub ..
  by_cases hd : r.state = .draining
  · by_cases hn : n ≠ 0 ∧ r.reserved - n = 0
    · have hz : r.reserved - (n + m) = 0 := by omega
      simp [freed, hd, hn.1, hn.2, hz]
    · have hn' : ¬(n ≠ 0 ∧ r.state = .draining ∧ r.reserved - n = 0) := fun h => hn ⟨h.1, h.2.2⟩
      have hiff : (m ≠ 0 ∧ r.state = .draining ∧ r.reserved - (n + m) = 0)
          ↔ (n + m ≠ 0 ∧ r.state = .draining ∧ r.reserved - (n + m) = 0) := by
        simp only [hd, true_and]
        omega
      simp only [freed, hn', if_false, hsub, hiff]
  · simp [freed, hd, hsub]

theorem unreserve_dest (d x : DestId) (s : State) :
    (unreserve d s).dest x = if x = d then freed 1 (s.dest d) else s.dest x := by
  have hself : (s.modDest d fun r => { r with reserved := r.reserved - 1 }).dest d
      = { s.dest d with reserved := (s.dest d).reserved - 1 } := modDest_dest_self ..
  unfold unreserve freed
  dsimp only
  rw [hself]
  split
  · next hc =>
    rw [changeDest_dest, hself, modDest_dest]
    split
    · next hx => subst hx; simp_all
    · rfl
  · next hc =>
    rw [modDest_dest]
    split
    · next hx => subst hx; simp_all
    · rfl

theorem unreserve_untold (d : DestId) (s : State) : (unreserve d s).untold = s.untold := by
  unfold unreserve
  dsimp only
  split
  · rw [changeDest_untold, modDest_untold]
  · rfl

/-- The release of the reservation of an entry that is bound for a gate destination. -/
def releaseBound (e : Entry) (s : State) : State :=
  match e.dest with
  | some (.gateDest d) => unreserve d s
  | some .tail => s
  | none => s

theorem releaseBound_untold (e : Entry) (s : State) : (releaseBound e s).untold = s.untold := by
  unfold releaseBound
  split
  · exact unreserve_untold _ s
  all_goals rfl

/-- How many reservations of a destination a list of entries holds. -/
def heldFor (d : DestId) (l : List Entry) : Nat := (l.filter fun e => decide (e.dest = some (.gateDest d))).length

theorem heldFor_cons (d : DestId) (e : Entry) (l : List Entry) : heldFor d (e :: l) = heldFor d [e] + heldFor d l := by
  by_cases h : e.dest = some (.gateDest d) <;> simp [heldFor, h, Nat.add_comm]

theorem releaseBound_dest (e : Entry) (d : DestId) (s : State) :
    (releaseBound e s).dest d = freed (heldFor d [e]) (s.dest d) := by
  unfold releaseBound heldFor
  split <;> rename_i h
  case h_1 x =>
    rw [unreserve_dest]
    by_cases hx : d = x
    · subst hx; simp [h]
    · have hne : x ≠ d := Ne.symm hx
      simp [h, hx, hne, freed_zero]
  all_goals simp [h, freed_zero]

theorem Told.releaseBound {s u : State} (h : Told s u) (e : Entry) : Told s (releaseBound e u) := by
  unfold Machine.releaseBound
  split
  · exact h.unreserve _
  all_goals exact h

/-! ### One SUSPECT entry and all of them (R63) -/

theorem discardSuspect_eq (e : Entry) (s : State) :
    discardSuspect e s = (releaseBound e (s.dropEntry e.ref)).raise (.ofPart .suspectDiscards) := by
  rcases h : e.dest with _ | _ | d <;> simp [discardSuspect, releaseBound, h]

theorem discardSuspect_map (e : Entry) (s : State) : (discardSuspect e s).map = eraseEntry e.ref s.map := by
  rw [discardSuspect_eq, raise_map]
  exact map_of_untold (releaseBound_untold e _)

theorem discardSuspect_dest (e : Entry) (d : DestId) (s : State) :
    (discardSuspect e s).dest d = freed (heldFor d [e]) (s.dest d) := by
  rw [discardSuspect_eq, raise_dest, releaseBound_dest]
  rfl

theorem discardSuspect_counter (e : Entry) (c : Counter) (s : State) : (discardSuspect e s).counter c
    = if c = .ofPart .suspectDiscards then min (s.counter c + 1) 65535 else s.counter c := by
  have hb : (releaseBound e (s.dropEntry e.ref)).bank = s.bank := (bank_of_untold (releaseBound_untold e _)).trans rfl
  have hc : (releaseBound e (s.dropEntry e.ref)).counter c = s.counter c := by simp only [State.counter, hb]
  rw [discardSuspect_eq, raise_counter, hc]

theorem raise_bank_rest (s : State) (c : Counter) : (s.raise c).bank = { s.bank with live := (s.raise c).bank.live } := rfl

/-- A discarded entry touches the map, its destination, the notices and its counter alone. -/
theorem discardSuspect_frame (e : Entry) (s : State) :
    SameExcept [.counters, .map, .dests, .notices] s (discardSuspect e s) := by
  have h := releaseBound_untold e (s.dropEntry e.ref)
  have hb : (releaseBound e (s.dropEntry e.ref)).bank = s.bank := (bank_of_untold h).trans rfl
  have hg : (releaseBound e (s.dropEntry e.ref)).gates = s.gates := (gates_of_untold h).trans rfl
  have ht : (releaseBound e (s.dropEntry e.ref)).test = s.test := (test_of_untold h).trans rfl
  refine sameExcept_of_kept (discardSuspect_kept e s) (by simp) (by simp) (fun _ => ?_) (fun _ => ?_) (by simp)
    (by simp) (fun _ => ?_) <;> rw [discardSuspect_eq]
  · rw [raise_gates, hg]
  · rw [raise_test, ht]
  · rw [raise_bank_rest, hb]; exact ⟨rfl, rfl, rfl⟩

theorem Told.discardSuspect {s u : State} (h : Told s u) (e : Entry) : Told s (discardSuspect e u) := by
  rw [discardSuspect_eq]
  have hd : Told s (u.dropEntry e.ref) := h.elsewhere rfl rfl rfl
  exact (hd.releaseBound e).raise _

/-- Where a name is there once, its entry is what leaves. -/
theorem eraseEntry_eq_filter (r : EntryRef) (l : List Entry) (h : (l.map Entry.ref).Nodup) :
    eraseEntry r l = l.filter fun x => decide (x.ref ≠ r) := by
  induction l with
  | nil => rfl
  | cons e l ih =>
    rw [List.map_cons, List.nodup_cons] at h
    unfold eraseEntry
    split
    · next he =>
      have hl : l.filter (fun x => decide (x.ref ≠ r)) = l := List.filter_eq_self.mpr fun x hx => by
        have hne : x.ref ≠ r := fun e' => h.1 (he.trans e'.symm ▸ List.mem_map_of_mem hx)
        simpa using hne
      rw [List.filter_cons_of_neg (by simpa using he), hl]
    · next he => simp [he, ih h.2]

theorem discardAll_map (l : List Entry) : ∀ s : State,
    (forEach l discardSuspect s).map = l.foldl (fun m e => eraseEntry e.ref m) s.map := by
  induction l with
  | nil => intro s; rfl
  | cons e l ih =>
    intro s
    have h := ih (discardSuspect e s)
    rw [discardSuspect_map] at h
    exact h

theorem discardAll_dest (l : List Entry) (d : DestId) : ∀ s : State,
    (forEach l discardSuspect s).dest d = freed (heldFor d l) (s.dest d) := by
  induction l with
  | nil => intro s; exact (freed_zero _).symm
  | cons e l ih =>
    intro s
    have h := ih (discardSuspect e s)
    rw [discardSuspect_dest, freed_freed, ← heldFor_cons] at h
    exact h

theorem discardAll_counter (l : List Entry) (c : Counter) : ∀ s : State, (forEach l discardSuspect s).counter c
    = if c = .ofPart .suspectDiscards ∧ l ≠ [] then min (s.counter c + l.length) 65535 else s.counter c := by
  induction l with
  | nil => intro s; simp [forEach]
  | cons e l ih =>
    intro s
    have h := ih (discardSuspect e s)
    rw [discardSuspect_counter] at h
    refine h.trans ?_
    by_cases hc : c = .ofPart .suspectDiscards
    · by_cases hl : l = []
      · simp [hc, hl]
      · simp only [hc, hl, ne_eq, not_false_eq_true, and_self, if_true, reduceCtorEq, List.length_cons]
        omega
    · simp [hc]

/-- With every name in the map once, the entries discarded are those of their names. -/
theorem erase_all (l : List Entry) : ∀ m : List Entry, (m.map Entry.ref).Nodup →
    l.foldl (fun m e => eraseEntry e.ref m) m = m.filter fun x => decide (x.ref ∉ l.map Entry.ref) := by
  induction l with
  | nil => intro m _; simp
  | cons e l ih =>
    intro m hm
    rw [List.foldl_cons, eraseEntry_eq_filter _ _ hm, ih _ (hm.sublist (List.filter_sublist.map _)), List.filter_filter]
    refine List.filter_congr fun x _ => ?_
    simp [Bool.and_comm]

theorem discardSuspects_map {s : State} (h : (s.map.map Entry.ref).Nodup) :
    (discardSuspects s).map = s.map.filter fun e => e.state != .suspect := by
  rw [discardSuspects, discardAll_map, erase_all _ _ h]
  refine List.filter_congr fun x hx => ?_
  have named : x.ref ∈ (s.map.filter fun e => e.state == .suspect).map Entry.ref ↔ x.state = .suspect := by
    refine ⟨fun hm => ?_, fun hs => List.mem_map_of_mem (List.mem_filter.mpr ⟨hx, by simpa using hs⟩)⟩
    obtain ⟨y, hy, he⟩ := List.mem_map.mp hm
    obtain ⟨hy, hs⟩ := List.mem_filter.mp hy
    rw [List.inj_on_of_nodup_map h hy hx he] at hs
    simpa using hs
  simp only [named]
  by_cases hs : x.state = .suspect <;> simp [hs]

theorem discardSuspects_frame (s : State) : SameExcept [.counters, .map, .dests, .notices] s (discardSuspects s) :=
  forEach_invariant (SameExcept [.counters, .map, .dests, .notices] s) discardSuspect _
    (fun e _ u h => h.trans (discardSuspect_frame e u)) s (sameExcept_refl _ s)

/-! ### RESUME (R15) -/

/-- The cause set is emptied at once. -/
def clearCauses (s : State) : State := s.modBelt fun b => { b with causes := {} }

theorem resumeHalted_loss {s : State} (h : s.belt.causes.encoderLoss = true) :
    resumeHalted s = enterRunning (discardSuspects (clearCauses s)) := by
  simp only [resumeHalted, h, if_true, clearCauses]

theorem resumeHalted_noLoss {s : State} (h : ¬s.belt.causes.encoderLoss = true) :
    resumeHalted s = enterRunning (clearCauses s) := by
  unfold resumeHalted
  dsimp only
  rw [if_neg h, clearCauses]

/-- The belt runs with an empty cause set, whether or not an encoder was lost. -/
theorem resumeHalted_runs (s : State) :
    (resumeHalted s).belt.still = { s.belt.still with
        state := .running, motor := true, causes := {}, zeroWindows := 0, runGuard := some 0 }
      ∧ (resumeHalted s).matcher = { s.matcher with silenceMs := 0 } := by
  by_cases h : s.belt.causes.encoderLoss = true
  · have hb : (discardSuspects (clearCauses s)).belt = (clearCauses s).belt := belt_of_kept (discardSuspects_kept _)
    have hm : (discardSuspects (clearCauses s)).matcher = (clearCauses s).matcher := matcher_of_kept (discardSuspects_kept _)
    rw [resumeHalted_loss h]
    unfold enterRunning
    rw [hb, hm]
    exact ⟨rfl, rfl⟩
  · rw [resumeHalted_noLoss h]
    exact ⟨rfl, rfl⟩

theorem clearCauses_frame (s : State) : SameExcept [.belt] s (clearCauses s) := sameExcept_modBelt _ s

theorem resumeHalted_frame_noLoss {s : State} (h : ¬s.belt.causes.encoderLoss = true) :
    SameExcept [.belt, .matcher] s (resumeHalted s) := by
  rw [resumeHalted_noLoss h]
  exact ((clearCauses_frame s).mono (by simp)).trans (sameExcept_enterRunning _)

theorem resumeHalted_frame_loss {s : State} (h : s.belt.causes.encoderLoss = true) :
    SameExcept [.counters, .belt, .matcher, .map, .dests, .notices] s (resumeHalted s) := by
  rw [resumeHalted_loss h]
  exact (((clearCauses_frame s).mono (by simp)).trans ((discardSuspects_frame _).mono (by simp))).trans
    ((sameExcept_enterRunning _).mono (by simp))

theorem resumeHalted_links (s : State) : (resumeHalted s).links = s.links := by
  by_cases h : s.belt.causes.encoderLoss = true
  · rw [resumeHalted_loss h]
    exact (links_of_kept (discardSuspects_kept _)).trans rfl
  · rw [resumeHalted_noLoss h]; rfl

theorem resumeHalted_map {s : State} (hl : s.belt.causes.encoderLoss = true) (hm : (s.map.map Entry.ref).Nodup) :
    (resumeHalted s).map = s.map.filter fun e => e.state != .suspect := by
  rw [resumeHalted_loss hl]
  exact discardSuspects_map (s := clearCauses s) hm

theorem resumeHalted_dest {s : State} (hl : s.belt.causes.encoderLoss = true) (d : DestId) :
    (resumeHalted s).dest d = freed (heldFor d (s.map.filter fun e => e.state == .suspect)) (s.dest d) := by
  rw [resumeHalted_loss hl]
  exact discardAll_dest _ d (clearCauses s)

theorem resumeHalted_counter {s : State} (hl : s.belt.causes.encoderLoss = true) (c : Counter) :
    (resumeHalted s).counter c
      = if c = .ofPart .suspectDiscards ∧ s.map.filter (fun e => e.state == .suspect) ≠ [] then
          min (s.counter c + (s.map.filter fun e => e.state == .suspect).length) 65535
        else s.counter c := by
  rw [resumeHalted_loss hl]
  exact discardAll_counter _ c (clearCauses s)

/-- The destinations that close are told of to their owners (R102, R114). -/
theorem told_resumeHalted {s : State} (hl : s.belt.causes.encoderLoss = true) : Told s (resumeHalted s) := by
  have hc : Told s (clearCauses s) := (told_refl s).elsewhere rfl rfl rfl
  have hd : Told s (discardSuspects (clearCauses s)) := Told.forEach (fun e _ h => h.discardSuspect e) _ hc
  rw [resumeHalted_loss hl]
  exact hd.elsewhere rfl rfl rfl

theorem handleResume_halted {q : Sender} {pl : List Byte} {s : State} (h : s.belt.state = .halted) :
    handlerOf .resume q pl s = if clearable s then ⟨resumeHalted s, .done, beltBytes (resumeHalted s).belt⟩
      else ⟨s, .state, beltBytes s.belt⟩ := by
  show handleResume q pl s = _
  simp only [handleResume, h, beltReply]

/-- A belt that is not HALTED has nothing to resume. -/
theorem handleResume_other {q : Sender} {pl : List Byte} {s : State} (h : s.belt.state ≠ .halted) :
    handlerOf .resume q pl s
      = ⟨s, if s.belt.state = .running then .done else .state, beltBytes s.belt⟩ := by
  show handleResume q pl s = _
  cases hs : s.belt.state <;> simp_all [handleResume, beltReply]

theorem clearable_iff (s : State) :
    clearable s = true ↔ ¬(s.belt.causes.tailFull = true ∨ (s.belt.causes.stopChain = true ∧ s.pins.chainOpen = true)) := by
  simp [clearable, imp_iff_not_or]

/-- Settles O13: RESUME by the belt state and the causes, with the SUSPECT entries after an encoder loss. -/
theorem resumeClearsWholeSet : Obligations.ResumeClearsWholeSet := by
  intro s tag hs hlaw
  by_cases hu : s.belt.state = .unconfigured
  · obtain ⟨took, -, -, replied⟩ := unchanged_settled .site tag .resume s .notReady []
    refine ⟨_, exec_notReady (k := .resume) hs hu rfl rfl rfl rfl, ?_⟩
    rw [if_pos hu]
    exact ⟨took, replied⟩
  have he := exec_served (tag := tag) hs (admissible_commissioned .resume .site [] s ⟨hs, hu⟩ rfl rfl) (by simp)
  simp only [hu, if_false]
  by_cases hh : s.belt.state = .halted
  swap
  · rw [handleResume_other (by rwa [greeted_belt]), greeted_belt] at he
    obtain ⟨took, -, -, replied⟩ := unchanged_settled .site tag .resume s
      (if s.belt.state = .running then .done else .state) (beltBytes s.belt)
    refine ⟨_, he, ?_⟩
    rw [if_pos hh]
    exact ⟨took, replied⟩
  rw [handleResume_halted (by rwa [greeted_belt]), greeted_belt] at he
  simp only [hh, ne_eq, not_true_eq_false, if_false]
  by_cases hc : s.belt.causes.tailFull = true ∨ (s.belt.causes.stopChain = true ∧ s.pins.chainOpen = true)
  · rw [if_neg (by rw [clearable_iff, greeted_belt, greeted_pins]; exact not_not.mpr hc)] at he
    obtain ⟨took, -, -, replied⟩ := unchanged_settled .site tag .resume s .state (beltBytes s.belt)
    refine ⟨_, he, ?_⟩
    rw [if_pos hc]
    exact ⟨took, replied⟩
  rw [if_pos (by rw [clearable_iff, greeted_belt, greeted_pins]; exact hc)] at he
  refine ⟨_, he, ?_⟩
  rw [if_neg hc]
  obtain ⟨u, hu⟩ : ∃ u, u = resumeHalted (greeted .site s) := ⟨_, rfl⟩
  rw [← hu]
  have runs := hu ▸ resumeHalted_runs (greeted .site s)
  rw [greeted_belt, greeted_matcher] at runs
  have links : u.links = (greeted .site s).links := hu ▸ resumeHalted_links _
  by_cases hl : s.belt.causes.encoderLoss = true
  · have hg : (greeted .site s).belt.causes.encoderLoss = true := by rwa [greeted_belt]
    have frame : SameExcept [.counters, .belt, .matcher, .map, .dests, .notices] (greeted .site s) u :=
      hu ▸ resumeHalted_frame_loss hg
    have counter : ∀ c, u.counter c = _ := hu ▸ resumeHalted_counter hg
    have told : Told (greeted .site s) u := hu ▸ told_resumeHalted hg
    obtain ⟨took, belt, matcher, replied⟩ := counting_settled tag .resume (a := ⟨u, .done, beltBytes u.belt⟩) frame links
      (by rw [counter]; simp)
    refine ⟨belt.trans runs.1, matcher.trans runs.2, ?_, by rw [beltBytes_still belt]; exact replied⟩
    rw [if_pos hl]
    refine ⟨took, told.destNotices tag _ .done _, ?_, fun d => ?_, ?_, fun c hd hf => ?_⟩
    · rw [settle_map, queueReply_map, hu, resumeHalted_map hg (by rw [greeted_map]; exact hlaw.2), greeted_map]
    · rw [settle_dest, queueReply_dest, hu, resumeHalted_dest hg, greeted_dest, greeted_map]
      rfl
    · rw [settle_counter, queueReply_counter, counter, greeted_map, greeted_counter_other (by simp)]
      by_cases hn : s.map.filter (fun e => e.state == .suspect) = []
      · rw [if_neg fun h => h.2 hn, if_pos hn]
      · rw [if_pos ⟨rfl, hn⟩, if_neg hn]
    · rw [settle_counter, queueReply_counter, counter, if_neg fun h => hd h.1, greeted_counter_other hf]
  · have frame : SameExcept [.belt, .matcher] (greeted .site s) u :=
      hu ▸ resumeHalted_frame_noLoss (by rwa [greeted_belt])
    obtain ⟨took, belt, matcher, replied⟩ := answer_settled tag .resume (a := ⟨u, .done, beltBytes u.belt⟩) frame links
    refine ⟨belt.trans runs.1, matcher.trans runs.2, ?_, by rw [beltBytes_still belt]; exact replied⟩
    rw [if_neg hl]
    exact took

end Sys2Proof.Machine
end

section
/-! SUPPORT. SET-BELT: what is stored, and the destinations that gain BLOCKED by a new B (R9, R92, R148, R180). -/

namespace Sys2Proof.Machine

/-! ### What a cascade of reroutes leaves alone -/

/-- What neither a notice nor a change of entries, reservations or fire queues touches: the test record, the bank's copies and enables, and the counters of the ports. -/
structure Rested where
  test : TestRecord
  snapshot : Vector Nat 178
  enables : BitVec 13
  globalEnable : Bool
  frames : Port → PortCounter → Nat

/-- That part of a state. -/
def State.rested (s : State) : Rested :=
  ⟨s.test, s.bank.snapshot, s.bank.enables, s.bank.globalEnable, fun p c => s.counter (.ofPort p c)⟩

/-- The same, with the holds of every destination. -/
def State.steady (s : State) : Rested × (DestId → Holds) := (s.rested, fun d => (s.dest d).holds)

theorem rested_of_steady {s t : State} (h : t.steady = s.steady) : t.rested = s.rested := congrArg Prod.fst h

theorem holds_of_steady {s t : State} (h : t.steady = s.steady) (d : DestId) : (t.dest d).holds = (s.dest d).holds :=
  congrFun (congrArg Prod.snd h) d

theorem rested_of_eq {s t : State} (ht : t.test = s.test) (hb : t.bank = s.bank) : t.rested = s.rested := by
  simp only [State.rested, State.counter, ht, hb]

theorem rested_of_untold {s t : State} (h : t.untold = s.untold) : t.rested = s.rested :=
  rested_of_eq (test_of_untold h) (bank_of_untold h)

theorem steady_of_rested {s t : State} (h : t.rested = s.rested) (hd : ∀ d, (t.dest d).holds = (s.dest d).holds) :
    t.steady = s.steady := by
  simp only [State.steady, h, hd]

theorem modEntry_steady (r : EntryRef) (f : Entry → Entry) (s : State) : (s.modEntry r f).steady = s.steady := rfl

theorem withdraw_steady (r : EntryRef) (d : DestId) (s : State) : (withdraw r d s).steady = s.steady := rfl

theorem assignTail_steady (r : EntryRef) (s : State) : (assignTail r s).steady = s.steady := rfl

/-- A counter of the part or of a destination is none of a port's. -/
theorem raise_steady {c : Counter} (hc : ∀ p x, Counter.ofPort p x ≠ c) (s : State) : (s.raise c).steady = s.steady := by
  refine steady_of_rested ?_ fun d => rfl
  have hf : ∀ p x, (s.raise c).counter (.ofPort p x) = s.counter (.ofPort p x) := fun p x => by
    rw [raise_counter, if_neg (hc p x)]
  exact congrArg (Rested.mk s.test s.bank.snapshot s.bank.enables s.bank.globalEnable)
    (funext fun p => funext fun x => hf p x)

theorem unreserve_steady (d : DestId) (s : State) : (unreserve d s).steady = s.steady :=
  steady_of_rested (rested_of_untold (unreserve_untold d s)) fun x => by
    rw [unreserve_dest]; split
    · next h => rw [h]; rfl
    · rfl

theorem assign_steady (r : EntryRef) (d : DestId) (s : State) : (assign r d s).steady = s.steady :=
  (raise_steady (by simp) _).trans (steady_of_rested rfl fun x => by
    rw [modDest_dest]; split
    · next h => rw [h]; rfl
    · rfl)

theorem decideRoute_steady (r : EntryRef) (o : Option DestId) (s : State) : (decideRoute r o s).steady = s.steady := by
  unfold decideRoute
  split
  · rfl
  · split
    · exact assign_steady r _ s
    · exact assignTail_steady r s

theorem giveBack_steady (r : EntryRef) (d : DestId) (s : State) : (giveBack r d s).steady = s.steady :=
  (unreserve_steady d _).trans (modEntry_steady r _ s)

theorem countReroute_steady (r : EntryRef) (s : State) : (countReroute r s).steady = s.steady :=
  (raise_steady (by simp) _).trans (modEntry_steady r _ s)

theorem reroute_steady (d : DestId) (r : EntryRef) (s : State) : (reroute d r s).steady = s.steady := by
  unfold reroute
  split
  · rfl
  · split
    · split
      case h_1 | h_2 => rw [decideRoute_steady, countReroute_steady, giveBack_steady, withdraw_steady]
      case h_3 => rw [unreserve_steady, modEntry_steady]
      all_goals rfl
    · rfl

/-- No cascade moves a hold, a port's counter, the test record or the bank (R92). -/
theorem cascade_steady (ds : List DestId) (s : State) : (cascade ds s).steady = s.steady :=
  forEach_keeps State.steady _ (fun _ _ => reroute_steady _ _ _) _ s

theorem cascade_nil (s : State) : cascade [] s = s := by
  have hn : ∀ l : List Entry, (l.filterMap fun e => (concerned [] e).map fun d => (d, e.ref)) = [] := fun l =>
    List.filterMap_eq_nil_iff.mpr fun e _ => by
      unfold concerned
      split <;> simp
  rw [cascade, hn]
  rfl

/-! ### The destinations that gain BLOCKED (R107, R148) -/

theorem gainHold_rested (set : Holds → Holds) (d : DestId) (s : State) : (gainHold set d s).rested = s.rested :=
  rested_of_untold (changeDest_untold d _ s)

theorem modBank_rested {s : State} {f : Bank → Bank} (hl : (f s.bank).live = s.bank.live)
    (hs : (f s.bank).snapshot = s.bank.snapshot) (he : (f s.bank).enables = s.bank.enables)
    (hg : (f s.bank).globalEnable = s.bank.globalEnable) : (s.modBank f).rested = s.rested := by
  have hb : (s.modBank f).bank = f s.bank := rfl
  simp only [State.rested, State.counter, hb, hl, hs, he, hg, modBank_test]

theorem syncConditions_rested (s : State) : (syncConditions s).rested = s.rested := by
  unfold syncConditions
  exact modBank_rested rfl rfl rfl rfl

theorem syncConditions_dest (s : State) (d : DestId) : (syncConditions s).dest d = s.dest d := by
  simp [syncConditions]

theorem gainRerouting_rested (c : Holds → Bool) (set : Holds → Holds) (ds : List DestId) (s : State) :
    (gainRerouting c set ds s).rested = s.rested := by
  unfold gainRerouting
  dsimp only
  rw [rested_of_steady (cascade_steady _ _), syncConditions_rested]
  exact forEach_keeps State.rested _ (fun d u => gainHold_rested set d u) _ s

/-- Gaining a rerouting hold touches the destinations, the entries bound for them, their fire queues and the notices, with counters of its own. -/
theorem gainRerouting_frame (c : Holds → Bool) (set : Holds → Holds) (ds : List DestId) (s : State) :
    SameExcept [.counters, .dests, .map, .gates, .notices] s (gainRerouting c set ds s) := by
  have h := gainRerouting_rested c set ds s
  simp only [State.rested, Rested.mk.injEq] at h
  obtain ⟨test, snapshot, enables, globalEnable, -⟩ := h
  exact sameExcept_of_kept (gainRerouting_kept c set ds s) (by simp) (by simp) (by simp) (fun _ => test) (by simp)
    (by simp) (fun _ => ⟨snapshot, enables, globalEnable⟩)

theorem gainRerouting_frames (c : Holds → Bool) (set : Holds → Holds) (ds : List DestId) (s : State) (p : Port)
    (x : PortCounter) : (gainRerouting c set ds s).counter (.ofPort p x) = s.counter (.ofPort p x) :=
  congrFun (congrFun (congrArg Rested.frames (gainRerouting_rested c set ds s)) p) x

/-- The levels, the latches and ATTN are in no block of their own. -/
theorem syncConditions_frame {l : List Block} (s : State) : SameExcept l s (syncConditions s) := by
  have h := syncConditions_rested s
  simp only [State.rested, Rested.mk.injEq] at h
  obtain ⟨-, snapshot, enables, globalEnable, -⟩ := h
  exact sameExcept_of_kept (syncConditions_kept s) (fun _ => by simp [syncConditions])
    (fun _ => by simp [syncConditions]) (fun _ => by simp [syncConditions]) (fun _ => by simp [syncConditions])
    (fun _ => by simp [syncConditions]) (fun _ => by simp [syncConditions]) (fun _ => ⟨snapshot, enables, globalEnable⟩)

/-- The destinations of a list carry BLOCKED afterwards, and the others as before. -/
theorem gainAll_blocked (l : List DestId) (d : DestId) : ∀ s : State,
    ((forEach l (gainHold setBlocked) s).dest d).holds.blocked = ((s.dest d).holds.blocked || decide (d ∈ l)) := by
  induction l with
  | nil => intro s; simp [forEach]
  | cons x l ih =>
    intro s
    have h := ih (gainHold setBlocked x s)
    rw [gainHold, changeDest_dest] at h
    refine h.trans ?_
    by_cases hx : d = x
    · subst hx; simp [setBlocked]
    · simp [hx]

theorem gainRerouting_blocked (ds : List DestId) (s : State) (d : DestId) :
    ((gainRerouting Holds.blocked setBlocked ds s).dest d).holds.blocked
      = ((s.dest d).holds.blocked || decide (d ∈ ds)) := by
  unfold gainRerouting
  dsimp only
  rw [holds_of_steady (cascade_steady _ _), syncConditions_dest, gainAll_blocked]
  cases hb : (s.dest d).holds.blocked <;> simp [hb]

/-- With nothing due, only the levels are looked at. -/
theorem gainRerouting_nil (c : Holds → Bool) (set : Holds → Holds) (s : State) :
    gainRerouting c set [] s = syncConditions s := by
  unfold gainRerouting
  dsimp only
  rw [List.filter_nil, cascade_nil, forEach, List.foldl_nil]

theorem mem_blocksDue (s : State) (d : DestId) : d ∈ blocksDue s
    ↔ s.confirmEye d = true ∧ (s.dest d).holds.blocked = false ∧ s.settings.b ≤ (s.dest d).blockMs := by
  simp [blocksDue, blockDue, mem_allDests, and_left_comm, and_comm]

/-! ### What SET-BELT stores -/

/-- The values are stored, and the idle time acts at once (R9). -/
def takeSettings (v : Settings) (s : State) : State := idleStop { s with settings := v }

theorem storeSettings_eq (v : Settings) (s : State) : storeSettings v s
    = gainRerouting Holds.blocked setBlocked (blocksDue (takeSettings v s)) (takeSettings v s) := rfl

theorem takeSettings_cases (v : Settings) (s : State) :
    (s.belt.state = .running ∧ v.idleTime ≠ 0 ∧ 1000 * v.idleTime ≤ s.belt.idleMs
        ∧ takeSettings v s = standStill .idleStopped { s with settings := v })
      ∨ ¬(s.belt.state = .running ∧ v.idleTime ≠ 0 ∧ 1000 * v.idleTime ≤ s.belt.idleMs)
        ∧ takeSettings v s = { s with settings := v } := by
  by_cases h : s.belt.state = .running ∧ v.idleTime ≠ 0 ∧ 1000 * v.idleTime ≤ s.belt.idleMs
  · exact .inl ⟨h.1, h.2.1, h.2.2, idleStop_due (s := { s with settings := v }) h.1 h.2.1 h.2.2⟩
  · exact .inr ⟨h, idleStop_early (s := { s with settings := v }) h⟩

/-- Whatever the belt does, storing the values touches only the settings and the belt. -/
theorem takeSettings_eq (v : Settings) (s : State) :
    takeSettings v s = { s with settings := v, belt := (takeSettings v s).belt } := by
  rcases takeSettings_cases v s with ⟨-, -, -, h⟩ | ⟨-, h⟩
  · rw [h]; rfl
  · rw [h]

theorem takeSettings_belt (v : Settings) (s : State) : (takeSettings v s).belt.still
    = if s.belt.state = .running ∧ v.idleTime ≠ 0 ∧ 1000 * v.idleTime ≤ s.belt.idleMs then
        { s.belt.still with state := .idleStopped, motor := false, runGuard := none }
      else s.belt.still := by
  rcases takeSettings_cases v s with ⟨hs, hi, hm, h⟩ | ⟨hn, h⟩
  · rw [h, if_pos ⟨hs, hi, hm⟩]; rfl
  · rw [h, if_neg hn]

theorem takeSettings_settings (v : Settings) (s : State) : (takeSettings v s).settings = v := by
  rw [takeSettings_eq]

theorem takeSettings_dest (v : Settings) (s : State) (d : DestId) : (takeSettings v s).dest d = s.dest d := by
  rw [takeSettings_eq]; rfl

theorem takeSettings_confirmEye (v : Settings) (s : State) (d : DestId) :
    (takeSettings v s).confirmEye d = s.confirmEye d := by
  rw [takeSettings_eq]; rfl

theorem takeSettings_counter (v : Settings) (s : State) (c : Counter) : (takeSettings v s).counter c = s.counter c := by
  rw [takeSettings_eq]; rfl

theorem takeSettings_links (v : Settings) (s : State) : (takeSettings v s).links = s.links := by
  rw [takeSettings_eq]

theorem takeSettings_frame (v : Settings) (s : State) : SameExcept [.settings, .belt] s (takeSettings v s) := by
  rw [takeSettings_eq]
  intro b hb
  have h0 := b.same_refl s
  cases b
  case settings | belt => simp at hb
  all_goals exact h0

theorem told_takeSettings (v : Settings) (s : State) : Told s (takeSettings v s) := by
  rw [takeSettings_eq]
  exact (told_refl s).elsewhere rfl rfl rfl

/-! ### A new B with a destination due, and with none -/

/-- A destination gains BLOCKED by a new B (R148). -/
def gainsBlocked (v : Settings) (s : State) (d : DestId) : Prop :=
  s.confirmEye d = true ∧ (s.dest d).holds.blocked = false ∧ v.b ≤ (s.dest d).blockMs

theorem mem_blocksDue_takeSettings (v : Settings) (s : State) (d : DestId) :
    d ∈ blocksDue (takeSettings v s) ↔ gainsBlocked v s d := by
  rw [mem_blocksDue, takeSettings_confirmEye, takeSettings_dest, takeSettings_settings, gainsBlocked]

theorem storeSettings_none {v : Settings} {s : State} (h : ¬∃ d, gainsBlocked v s d) :
    storeSettings v s = syncConditions (takeSettings v s) := by
  have hd : blocksDue (takeSettings v s) = [] := List.eq_nil_iff_forall_not_mem.mpr fun d hd =>
    h ⟨d, (mem_blocksDue_takeSettings v s d).mp hd⟩
  rw [storeSettings_eq, hd, gainRerouting_nil]

theorem storeSettings_belt (v : Settings) (s : State) : (storeSettings v s).belt = (takeSettings v s).belt := by
  rw [storeSettings_eq, gainRerouting_belt]

theorem storeSettings_settings (v : Settings) (s : State) : (storeSettings v s).settings = v := by
  rw [storeSettings_eq, settings_of_kept (gainRerouting_kept _ _ _ _), takeSettings_settings]

theorem storeSettings_links (v : Settings) (s : State) : (storeSettings v s).links = s.links := by
  rw [storeSettings_eq, links_of_kept (gainRerouting_kept _ _ _ _), takeSettings_links]

theorem storeSettings_frames (v : Settings) (s : State) (p : Port) (x : PortCounter) :
    (storeSettings v s).counter (.ofPort p x) = s.counter (.ofPort p x) := by
  rw [storeSettings_eq, gainRerouting_frames, takeSettings_counter]

theorem storeSettings_frame (v : Settings) (s : State) :
    SameExcept [.counters, .settings, .belt, .dests, .map, .gates, .notices] s (storeSettings v s) := by
  rw [storeSettings_eq]
  exact ((takeSettings_frame v s).mono (by simp)).trans ((gainRerouting_frame _ _ _ _).mono (by simp))

theorem told_storeSettings (v : Settings) (s : State) : Told s (storeSettings v s) := by
  rw [storeSettings_eq]
  exact (told_takeSettings v s).gainRerouting Holds.blocked within_setBlocked _

theorem storeSettings_blocked (v : Settings) (s : State) (d : DestId) : ((storeSettings v s).dest d).holds.blocked
    = ((s.dest d).holds.blocked || (s.confirmEye d && decide (v.b ≤ (s.dest d).blockMs))) := by
  rw [storeSettings_eq, gainRerouting_blocked, takeSettings_dest]
  simp only [mem_blocksDue_takeSettings, gainsBlocked]
  cases (s.dest d).holds.blocked <;> simp

/-! ### SET-BELT (R180) -/

theorem distancesDiffer_iff (t u : Settings) : distancesDiffer t u = true ↔ u.dT ≠ t.dT ∨ u.w ≠ t.w := by
  simp only [distancesDiffer, Bool.or_eq_true, bne_iff_ne]
  exact or_congr ne_comm ne_comm

theorem geometryBusy_iff (s : State) : geometryBusy s = true ↔ s.belt.state = .running ∨ s.map ≠ [] := by
  simp [geometryBusy, State.isRunning]

theorem commissioned_iff (s : State) : s.commissioned = true ↔ s.belt.state ≠ .unconfigured := by
  simp [State.commissioned]

theorem clampStatus_ne (v asked : Settings) : clampStatus (v != asked) = if v = asked then .done else .doneClamped := by
  by_cases h : v = asked <;> simp [clampStatus, h]

/-- SET-BELT would move D_T or W. -/
def movesDistances (v : Settings) (s : State) : Prop := v.dT ≠ s.settings.dT ∨ v.w ≠ s.settings.w

/-- The check that SET-BELT fails on a commissioned belt, if any. -/
def failedCheck (v : Settings) (s : State) : Option Nat :=
  if (v.dT ≠ s.settings.dT ∨ v.w ≠ s.settings.w) ∧ s.belt.state ≠ .unconfigured then
    firstFailed [(4, windowFits v.w (configuredGates s.gates)), (5, tailFits v.dT (configuredGates s.gates))]
  else none

theorem failedCheck_greeted (v : Settings) (q : Sender) (s : State) : failedCheck v (greeted q s) = failedCheck v s := by
  simp only [failedCheck, greeted_settings, greeted_belt, greeted_gates]

theorem failedCheck_eq (v : Settings) (s : State) :
    (if distancesDiffer s.settings v && s.commissioned then
        firstFailed (((geometryChecks s.gates v s.routes).drop 3).take 2) else none) = failedCheck v s := by
  simp only [failedCheck, Bool.and_eq_true, distancesDiffer_iff, commissioned_iff]
  rfl

section
variable {q : Sender} {pl : List Byte} {s : State}

theorem handleSetBelt_busy (h : movesDistances (clampSettings (readSettings pl)) s)
    (hb : s.belt.state = .running ∨ s.map ≠ []) :
    handlerOf .setBelt q pl s = ⟨s, .busy, setBeltBytes s.settings⟩ := by
  show handleSetBelt q pl s = _
  have hc : (distancesDiffer s.settings (clampSettings (readSettings pl)) && geometryBusy s) = true := by
    rw [Bool.and_eq_true, distancesDiffer_iff, geometryBusy_iff]
    exact ⟨h, hb⟩
  unfold handleSetBelt
  dsimp only
  rw [if_pos hc]

theorem handleSetBelt_free
    (h : ¬(movesDistances (clampSettings (readSettings pl)) s ∧ (s.belt.state = .running ∨ s.map ≠ []))) :
    handlerOf .setBelt q pl s = (failedCheck (clampSettings (readSettings pl)) s).elim
      ⟨storeSettings (clampSettings (readSettings pl)) s,
        clampStatus (clampSettings (readSettings pl) != readSettings pl), setBeltBytes (clampSettings (readSettings pl))⟩
      fun n => ⟨s, .badConfig, setBeltBytes s.settings ++ [byteOf n]⟩ := by
  show handleSetBelt q pl s = _
  have hc : ¬(distancesDiffer s.settings (clampSettings (readSettings pl)) && geometryBusy s) = true := by
    rw [Bool.and_eq_true, distancesDiffer_iff, geometryBusy_iff]
    exact h
  unfold handleSetBelt
  dsimp only
  rw [if_neg hc, failedCheck_eq]
  cases failedCheck (clampSettings (readSettings pl)) s <;> rfl

end

/-- SET-BELT where it stores its values (R9, R148, R180). -/
theorem stored_settled (v : Settings) (s : State) (tag : Byte) (status : Status) :
    let t := settle (queueReply .site tag Kind.setBelt.code ⟨storeSettings v (greeted .site s), status, setBeltBytes v⟩)
    t.settings = v
      ∧ (if s.belt.state = .running ∧ v.idleTime ≠ 0 ∧ 1000 * v.idleTime ≤ s.belt.idleMs then
          t.belt.still = { s.belt.still with state := .idleStopped, motor := false, runGuard := none }
        else t.belt.still = s.belt.still)
      ∧ (if ∃ d : DestId, s.confirmEye d = true ∧ (s.dest d).holds.blocked = false ∧ v.b ≤ (s.dest d).blockMs then
          TookCounting .site [.settings, .belt, .dests, .map, .gates, .notices] s t
            ∧ DestNotices (some .site) s t
            ∧ ∀ d : DestId, (t.dest d).holds.blocked
                = ((s.dest d).holds.blocked || (s.confirmEye d && decide (v.b ≤ (s.dest d).blockMs)))
        else Took .site [.settings, .belt] s t)
      ∧ Replied s t .site tag .setBelt status (setBeltBytes v) := by
  obtain ⟨u, hu⟩ : ∃ u, u = storeSettings v (greeted .site s) := ⟨_, rfl⟩
  rw [← hu]
  intro t
  have links : u.links = (greeted .site s).links := hu ▸ storeSettings_links v _
  have settings : u.settings = v := hu ▸ storeSettings_settings v _
  have frame : SameExcept [.counters, .settings, .belt, .dests, .map, .gates, .notices] (greeted .site s) u :=
    hu ▸ storeSettings_frame v _
  have still : u.belt.still = if s.belt.state = .running ∧ v.idleTime ≠ 0 ∧ 1000 * v.idleTime ≤ s.belt.idleMs then
      { s.belt.still with state := .idleStopped, motor := false, runGuard := none } else s.belt.still := by
    rw [hu, storeSettings_belt, takeSettings_belt, greeted_belt]
  obtain ⟨took, belt, -, replied⟩ := counting_settled tag .setBelt (a := ⟨u, status, setBeltBytes v⟩) frame links
    (by rw [hu, storeSettings_frames])
  refine ⟨?_, ?_, ?_, replied⟩
  · rw [settle_settings, queueReply_settings, settings]
  · have hbelt := belt.trans still
    split
    · next h => rwa [if_pos h] at hbelt
    · next h => rwa [if_neg h] at hbelt
  · split
    · have told : Told (greeted .site s) u := hu ▸ told_storeSettings v _
      refine ⟨took, told.destNotices tag _ status _, fun d => ?_⟩
      rw [settle_dest, queueReply_dest, hu, storeSettings_blocked, greeted_dest, greeted_confirmEye]
    · next h =>
      have none : ¬∃ d, gainsBlocked v (greeted .site s) d := by
        simpa only [gainsBlocked, greeted_dest, greeted_confirmEye] using h
      have frame : SameExcept [.settings, .belt] (greeted .site s) u := by
        rw [hu, storeSettings_none none]
        exact (takeSettings_frame v _).trans (syncConditions_frame _)
      exact took_of_answer .site tag Kind.setBelt.code _ s ⟨u, status, setBeltBytes v⟩ frame (by simp) (by simp) (by simp)

/-- Settles O49: SET-BELT in its three outcomes, the stored one with a destination that gains BLOCKED and without. -/
theorem setBeltClampsAndStores : Obligations.SetBeltClampsAndStores := by
  intro s tag pl hs hl
  have he := exec_served (tag := tag) hs (admissible_site .setBelt pl s hs rfl (by simp [Kind.payloadFits, hl]) rfl) (by simp)
  dsimp only
  generalize hv : clampSettings (readSettings pl) = v
  by_cases hb : (v.dT ≠ s.settings.dT ∨ v.w ≠ s.settings.w) ∧ (s.belt.state = .running ∨ s.map ≠ [])
  · rw [handleSetBelt_busy (by rw [hv]; simpa [movesDistances] using hb.1) (by simpa using hb.2), greeted_settings] at he
    obtain ⟨took, -, -, replied⟩ := unchanged_settled .site tag .setBelt s .busy (setBeltBytes s.settings)
    refine ⟨_, he, ?_⟩
    rw [if_pos hb]
    exact ⟨took, replied⟩
  rw [handleSetBelt_free (by simpa [hv, movesDistances] using hb), hv, failedCheck_greeted, greeted_settings] at he
  refine ⟨_, he, ?_⟩
  rw [if_neg hb]
  cases hf : failedCheck v s with
  | some n =>
    rw [Option.elim_some]
    unfold failedCheck at hf
    rw [hf]
    obtain ⟨took, -, -, replied⟩ := unchanged_settled .site tag .setBelt s .badConfig
      (setBeltBytes s.settings ++ [byteOf n])
    exact ⟨took, replied⟩
  | none =>
    rw [Option.elim_none, clampStatus_ne]
    unfold failedCheck at hf
    rw [hf]
    dsimp only
    exact stored_settled v s tag _

end Sys2Proof.Machine
end

section
/-! SUPPORT. The map's list under a change of one entry, the condition levels one by one, and the frames of single changes (R51, R52, R191). -/

namespace Sys2Proof.Machine

/-! ### A change of one entry in the map's list -/

theorem ref_of_tag {f : Entry → Entry} (hf : ∀ e, (f e).tag = e.tag) (e : Entry) : (f e).ref = e.ref := by
  simp only [Entry.ref, hf]

/-- Only what a change makes of the entry found matters. -/
theorem updateEntry_congr {r : EntryRef} {f g : Entry → Entry} {l : List Entry} {e : Entry}
    (h : (l.find? fun x => x.ref == r) = some e) (hfg : f e = g e) : updateEntry r f l = updateEntry r g l := by
  induction l with
  | nil => rfl
  | cons x l ih =>
    by_cases hx : x.ref = r
    · obtain rfl : x = e := by simpa [hx] using h
      simp only [updateEntry, if_pos hx, hfg]
    · simp only [List.find?_cons, beq_eq_false_iff_ne.mpr hx] at h
      simp only [updateEntry, if_neg hx, ih h]

/-- Two changes of one entry are one. -/
theorem updateEntry_updateEntry (r : EntryRef) {f : Entry → Entry} (hf : ∀ e, (f e).tag = e.tag)
    (g : Entry → Entry) (l : List Entry) : updateEntry r g (updateEntry r f l) = updateEntry r (fun e => g (f e)) l := by
  induction l with
  | nil => rfl
  | cons x l ih =>
    by_cases hx : x.ref = r
    · simp only [updateEntry, if_pos hx, if_pos ((ref_of_tag hf x).trans hx)]
    · simp only [updateEntry, if_neg hx, ih]

/-- The entry found is found as the change leaves it. -/
theorem find_updateEntry_self {r : EntryRef} {f : Entry → Entry} {l : List Entry} {e : Entry}
    (h : (l.find? fun x => x.ref == r) = some e) (hf : (f e).tag = e.tag) :
    ((updateEntry r f l).find? fun x => x.ref == r) = some (f e) := by
  induction l with
  | nil => cases h
  | cons x l ih =>
    by_cases hx : x.ref = r
    · obtain rfl : x = e := by simpa [hx] using h
      have : (f x).ref = r := by rw [← hx]; simp only [Entry.ref, hf]
      simp [updateEntry, hx, this]
    · simp only [List.find?_cons, beq_eq_false_iff_ne.mpr hx] at h
      simp only [updateEntry, if_neg hx, List.find?_cons, beq_eq_false_iff_ne.mpr hx, ih h]

/-- Another entry is found as it was. -/
theorem find_updateEntry_ne {r x : EntryRef} (hx : x ≠ r) {f : Entry → Entry} {l : List Entry}
    (hf : ∀ e ∈ l, e.ref = r → (f e).ref = r) :
    ((updateEntry r f l).find? fun y => y.ref == x) = l.find? fun y => y.ref == x := by
  induction l with
  | nil => rfl
  | cons y l ih =>
    by_cases hy : y.ref = r
    · simp [updateEntry, hy, hf y (by simp) hy, hx.symm]
    · simp only [updateEntry, if_neg hy, List.find?_cons, ih fun e he => hf e (by simp [he])]

/-- A change that keeps its entry's name keeps every name. -/
theorem refs_updateEntry {r : EntryRef} {f : Entry → Entry} {l : List Entry}
    (hf : ∀ e ∈ l, e.ref = r → (f e).ref = r) : (updateEntry r f l).map Entry.ref = l.map Entry.ref := by
  induction l with
  | nil => rfl
  | cons y l ih =>
    by_cases hy : y.ref = r
    · simp [updateEntry, hy, hf y (by simp) hy]
    · simp only [updateEntry, if_neg hy, List.map_cons, ih fun e he => hf e (by simp [he])]

/-- With names distinct, the change falls on the entries of the name. -/
theorem updateEntry_eq_map {r : EntryRef} (f : Entry → Entry) {l : List Entry} (h : (l.map Entry.ref).Nodup) :
    updateEntry r f l = l.map fun x => if x.ref = r then f x else x := by
  induction l with
  | nil => rfl
  | cons x l ih =>
    simp only [List.map_cons, List.nodup_cons, List.mem_map, not_exists, not_and] at h
    by_cases hx : x.ref = r
    · have rest : (l.map fun y => if y.ref = r then f y else y) = l := by
        refine (List.map_congr_left fun y hy => if_neg fun hr => ?_).trans (List.map_id' l)
        exact h.1 y hy (hr.trans hx.symm)
      simp only [updateEntry, if_pos hx, List.map_cons, rest]
    · simp only [updateEntry, if_neg hx, List.map_cons, ih h.2]

/-- A name that was not there is that of the entry that has joined. -/
theorem updateEntry_joined {r : EntryRef} {f : Entry → Entry} {l : List Entry} {n : Entry}
    (h : r ∉ l.map Entry.ref) (hn : n.ref = r) : updateEntry r f (l ++ [n]) = l ++ [f n] := by
  induction l with
  | nil => simp [updateEntry, hn]
  | cons x l ih =>
    simp only [List.map_cons, List.mem_cons, not_or] at h
    simp only [List.cons_append, updateEntry, if_neg fun hx : x.ref = r => h.1 hx.symm, ih h.2]

theorem find_eq_none_iff {s : State} {r : EntryRef} : s.find r = none ↔ r ∉ s.map.map Entry.ref := by
  simp [State.find, List.mem_map]

/-- The name of an entry of the map is found, if not as that entry. -/
theorem exists_find_of_mem {s : State} {e : Entry} (h : e ∈ s.map) : ∃ x, s.find e.ref = some x :=
  Option.ne_none_iff_exists'.mp fun hn => find_eq_none_iff.mp hn (List.mem_map_of_mem h)

/-- An entry of the map is what is found under its name, where names are distinct. -/
theorem find_of_mem {s : State} (h : (s.map.map Entry.ref).Nodup) {e : Entry} (he : e ∈ s.map) :
    s.find e.ref = some e := by
  obtain ⟨x, hx⟩ := exists_find_of_mem he
  rw [hx, List.inj_on_of_nodup_map h (List.mem_of_find?_eq_some hx) he (find_ref hx)]

/-! ### Condition levels (R191) -/

theorem testBit_packBits (l : List Bool) (i : Nat) : (packBits l).testBit i = l.getD i false := by
  induction l generalizing i with
  | nil => simp [packBits]
  | cons b l ih =>
    have hb : packBits (b :: l) = Nat.bit b (packBits l) := by rw [packBits, Nat.bit_val]; omega
    rw [hb]
    cases i with
    | zero => simp
    | succ i => simp [Nat.testBit_bit_succ, ih]

/-- IDENTIFIER_SILENT is the matcher's level (R35). -/
theorem settle_level_silent (s : State) : (settle s).bank.levels.getLsbD 5 = s.matcher.silent := by
  rw [settle_levels, condLevels, BitVec.getLsbD_ofNat, testBit_packBits]; rfl

/-- READ_EYE_BLOCKED is the read-point unit's level (R25). -/
theorem settle_level_eyeBlocked (s : State) : (settle s).bank.levels.getLsbD 6 = s.reader.eyeBlocked := by
  rw [settle_levels, condLevels, BitVec.getLsbD_ofNat, testBit_packBits]; rfl

/-! ### Frames of single changes -/

/-- The blocks that a read-point or matcher event may change. -/
def frontBlocks : List Block := [.pins, .reader, .matcher, .patterns, .map, .dests, .receivers, .counters, .reset]

/-- A change within those blocks leaves every other block alone, and of them those that are as they were. -/
theorem sameExcept_of_front {l : List Block} {s t : State}
    (he : t = { s with
      pins := t.pins, reader := t.reader, matcher := t.matcher, patterns := t.patterns, map := t.map, dests := t.dests
      receivers := t.receivers, bank := { s.bank with live := t.bank.live }, inReset := t.inReset })
    (h : ∀ b ∈ frontBlocks, b ∉ l → b.same s t) : SameExcept l s t := by
  intro b hl
  by_cases hb : b ∈ frontBlocks
  · exact h b hb hl
  · have h0 := b.same_refl s
    rw [he]
    cases b
    case pins | reader | matcher | patterns | map | dests | receivers | counters | reset => simp [frontBlocks] at hb
    all_goals exact h0

theorem sameExcept_modReader (f : ReadPoint → ReadPoint) (s : State) : SameExcept [.reader] s (s.modReader f) :=
  sameExcept_of_front rfl (by simp [frontBlocks, Block.same, SameDests])

theorem sameExcept_withMap (m : List Entry) (s : State) : SameExcept [.map] s (s.withMap m) :=
  sameExcept_of_front rfl (by simp [frontBlocks, Block.same, SameDests])

theorem sameExcept_raise (c : Counter) (s : State) : SameExcept [.counters] s (s.raise c) :=
  sameExcept_of_front rfl (by simp [frontBlocks, Block.same, SameDests])

theorem sameExcept_setReadEye (b : Bool) (s : State) : SameExcept [.pins] s (setReadEye b s) :=
  sameExcept_of_front rfl (by simp [frontBlocks, Block.same, SameDests, setReadEye])

end Sys2Proof.Machine
end

section
/-! SUPPORT. The eyes at the release of reset, and the long blockage of the read-point eye (R25, R26, R28, R156). -/

namespace Sys2Proof.Machine

/-! ### The release of reset (R28, R156) -/

/-- Each confirm eye starts from its level, in whatever order. -/
theorem startEyes_eq (s : State) :
    startEyes s = eachDest allDests (fun d r => { r with eye := eyeAtRelease (s.confirmEye d) }) s := by
  have each : ∀ (l : List DestId) (u : State), u.pins = s.pins →
      forEach l (fun d x => x.modDest d fun r => { r with eye := eyeAtRelease (x.confirmEye d) }) u
        = eachDest l (fun d r => { r with eye := eyeAtRelease (s.confirmEye d) }) u := by
    intro l
    induction l with
    | nil => exact fun _ _ => rfl
    | cons d l ih =>
      intro u hu
      have hd : u.confirmEye d = s.confirmEye d := by simp only [State.confirmEye, hu]
      rw [eachDest_cons, ← hd]
      exact ih _ hu
  exact each allDests s rfl

theorem startEyes_dest (s : State) (d : DestId) :
    (startEyes s).dest d = { s.dest d with eye := if s.confirmEye d then .seen else .clear } := by
  rw [startEyes_eq, eachDest_all]
  rfl

/-- Only the destinations' records move. -/
theorem startEyes_frame (s : State) : startEyes s = { s with dests := (startEyes s).dests } := by
  rw [startEyes_eq]
  exact eachDest_eq _ _ s

theorem releasePart_frame (s : State) : SameExcept [.reset, .reader, .dests] s (releasePart s) := by
  unfold releasePart
  rw [startEyes_frame]
  exact sameExcept_of_front rfl (by simp [frontBlocks, Block.same])

theorem releasePart_reader (s : State) :
    (releasePart s).reader = { s.reader with capture := if s.pins.readEye then .clearWait none else .ready } := by
  unfold releasePart
  rw [startEyes_frame]
  rfl

theorem releasePart_dest (s : State) (d : DestId) :
    (releasePart s).dest d = { s.dest d with eye := if s.confirmEye d then .seen else .clear } := by
  rw [releasePart, modReader_dest, startEyes_dest]
  rfl

/-- Settles O5: the release settled, the read point's capture state and each confirm eye read off it. -/
theorem releaseStartsFromEyes : Obligations.ReleaseStartsFromEyes := by
  intro s hr
  refine ⟨settle (releasePart s), congrArg Host.Outcome.next (if_pos hr), (releasePart_frame s).settled, ?_, ?_,
    fun d => ?_⟩
  · rw [settle_inReset, releasePart, startEyes_frame]
    rfl
  · rw [settle_reader, releasePart_reader]
  · rw [settle_dest, releasePart_dest]

/-! ### The capture state (2.1) -/

theorem setCapture_frame (c : Capture) (s : State) : SameExcept [.reader] s (setCapture c s) := sameExcept_modReader _ s

@[simp] theorem setCapture_reader (c : Capture) (s : State) :
    (setCapture c s).reader = { s.reader with capture := c } := rfl

@[simp] theorem setCapture_map (c : Capture) (s : State) : (setCapture c s).map = s.map := rfl

@[simp] theorem setCapture_find (c : Capture) (s : State) (r : EntryRef) : (setCapture c s).find r = s.find r := rfl

/-! ### The length of a capture's entry (R24, R25, R55) -/

@[simp] theorem closeLength_tag (n : Nat) (c : Bool) (e : Entry) : (closeLength n c e).tag = e.tag := by
  unfold closeLength; split <;> rfl

theorem closeLength_ref (n : Nat) (c : Bool) (e : Entry) : (closeLength n c e).ref = e.ref :=
  ref_of_tag (closeLength_tag n c) e

section
variable (x : Tag) (made : Bool) (n : Nat) (c : Bool) (s : State)

@[simp] theorem closeCapture_false : closeCapture x false n c s = s := rfl

@[simp] theorem closeCapture_reader : (closeCapture x made n c s).reader = s.reader := by cases made <;> rfl

theorem closeCapture_frame : SameExcept [.map] s (closeCapture x made n c s) := by
  cases made
  · exact sameExcept_refl _ s
  · exact sameExcept_withMap _ s

theorem closeCapture_length : (closeCapture x made n c s).map.length = s.map.length := by
  cases made
  · rfl
  · exact updateEntry_length _ _ _

theorem closeCapture_others : SameOtherEntries s (closeCapture x made n c s) (.tag x) := by
  intro r hr
  cases made
  · rfl
  · exact find_updateEntry_ne hr fun e _ he => (closeLength_ref n c e).trans he

end

/-- The entry of a capture takes its length, but for a SUSPECT one (R55). -/
theorem closeCapture_closes {x : Tag} {s : State} {e : Entry} (n : Nat) (c : Bool) (h : s.find (.tag x) = some e)
    (hs : e.state ≠ .suspect) : (closeCapture x true n c s).find (.tag x)
      = some { e with length := some n, clampedLength := e.clampedLength || c } := by
  have he : closeLength n c e = { e with length := some n, clampedLength := e.clampedLength || c } := if_neg hs
  rw [← he]
  exact find_updateEntry_self h (closeLength_tag n c e)

/-! ### The long blockage (R25, R26) -/

theorem exec_lengthClamp {s : State} {r : Pos} {x : Tag} {made : Bool} (hr : s.inReset = false)
    (hc : s.reader.capture = .committed r x made) (hp : reached s.belt.p (r + dist 1200) = true) :
    exec .lengthClamp s = .next (settle (clampCapture x made s)) := by
  have hd : clampDue s = some (x, made) := by simp [clampDue, hc, clampLength, hp]
  rw [exec_event (c := .lengthClamp) rfl hr, hd]

theorem clampCapture_frame (x : Tag) (made : Bool) (s : State) :
    SameExcept [.reader, .map] s (clampCapture x made s) :=
  ((closeCapture_frame x made _ _ s).mono (by simp)).trans ((sameExcept_modReader _ _).mono (by simp))

theorem clampCapture_reader (x : Tag) (made : Bool) (s : State) :
    (clampCapture x made s).reader = { s.reader with capture := .clearWait none, eyeBlocked := true } := by
  rw [clampCapture, modReader_reader, closeCapture_reader]

theorem clampCapture_map (x : Tag) (made : Bool) (s : State) :
    (clampCapture x made s).map = (closeCapture x made 1200 true s).map := rfl

theorem clampCapture_find (x : Tag) (made : Bool) (s : State) (r : EntryRef) :
    (clampCapture x made s).find r = (closeCapture x made 1200 true s).find r := rfl

theorem exec_clearWaitEnd {s : State} {x : Pos} (hr : s.inReset = false)
    (hc : s.reader.capture = .clearWait (some x)) (he : s.pins.readEye = false)
    (hp : reached s.belt.p (x + dist 8) = true) : exec .clearWaitEnd s
      = .next (settle (s.modReader fun r => { r with capture := .ready, eyeBlocked := false })) :=
  exec_due (due := fun s => clearWaitDue s = true)
    (act := fun s => s.modReader fun r => { r with capture := .ready, eyeBlocked := false }) rfl hr
    (by simp [clearWaitDue, hc, he, commitDistance, hp])

/-- Settles O16: the clamp, with and without an entry, and the end of CLEAR_WAIT. -/
theorem longBlockageIsClamped : Obligations.LongBlockageIsClamped := by
  intro s hr
  refine ⟨fun r x made hc hp => ?_, fun x hc he hp => ?_⟩
  · refine ⟨_, exec_lengthClamp hr hc hp, (clampCapture_frame x made s).settled, ?_, ?_, fun y hy => ?_, ?_,
      fun e hm hf hs => ?_, fun hm => ?_⟩
    · rw [settle_reader, clampCapture_reader]
    · rw [settle_level_eyeBlocked, clampCapture_reader]
    · rw [settle_find, clampCapture_find, closeCapture_others x made _ _ s y hy]
    · rw [settle_map, clampCapture_map, closeCapture_length]
    · subst hm
      rw [settle_find, clampCapture_find, closeCapture_closes 1200 true hf hs, Bool.or_true]
    · subst hm
      rw [settle_map, clampCapture_map, closeCapture_false]
  · refine ⟨_, exec_clearWaitEnd hr hc he hp, (sameExcept_modReader _ s).settled, settle_reader _, ?_⟩
    rw [settle_level_eyeBlocked]
    rfl

end Sys2Proof.Machine
end

section
/-! SUPPORT. An entry that is handed to the route unit: what the decision makes of the entry and of the accounts, whichever block hands it over (R22, R30, R31, R34, R87). -/

namespace Sys2Proof.Machine

/-! ### States that decide alike (R84, R86, R87) -/

/-- The second state has P, the gates, the lists and the accounts of the first, so that the route unit decides in it as in the first. -/
structure DecidesAs (s t : State) : Prop where
  p : t.belt.p = s.belt.p
  gates : t.gates = s.gates
  routes : t.routes = s.routes
  accounts : AccountsOf s t

namespace DecidesAs
variable {s t u : State}

theorem refl (s : State) : DecidesAs s s := ⟨rfl, rfl, rfl, rfl, fun _ => rfl⟩

theorem trans (h : DecidesAs s t) (k : DecidesAs t u) : DecidesAs s u :=
  ⟨k.p.trans h.p, k.gates.trans h.gates, k.routes.trans h.routes, k.accounts.1.trans h.accounts.1,
    fun d => (k.accounts.2 d).trans (h.accounts.2 d)⟩

theorem search_eq (h : DecidesAs s t) (e : Entry) (o : Option DestId) : search t e o = search s e o :=
  search_congr h.p h.accounts.1 h.gates h.routes e o

theorem entry_eq (h : DecidesAs s t) (e : Entry) (o : Option DestId) : decidedEntry t e o = decidedEntry s e o := by
  simp only [decidedEntry, h.search_eq]

theorem withMap (h : DecidesAs s t) (m : List Entry) : DecidesAs s (t.withMap m) :=
  ⟨h.p, h.gates, h.routes, h.accounts⟩

/-- A counter of the part is none of the accounts. -/
theorem raisePart (h : DecidesAs s t) (c : GlobalCounter) : DecidesAs s (t.raisePart c) :=
  h.trans ⟨rfl, rfl, rfl, rfl, fun d => by simp [raise_counter]⟩

/-- A decision moves the accounts of both alike. -/
theorem decided (h : DecidesAs s t) (e : Entry) (o : Option DestId) :
    DecidesAs (decidedAccounts s e o) (decidedAccounts t e o) := by
  unfold decidedAccounts
  rw [h.search_eq]
  cases search s e o with
  | none => exact h
  | some d =>
    have hd : t.dest d = s.dest d := by simp only [State.dest, h.accounts.1]
    refine ⟨h.p, h.gates, h.routes, ?_, fun x => ?_⟩
    · simp only [raiseDest_eq, raise_dests, State.modDest, h.accounts.1, hd]
    · simp only [raiseDest_eq, raise_counter, modDest_counter, h.accounts.2]

/-- So do decisions in turn. -/
theorem inTurn (l : List Entry) :
    ∀ {s t : State}, DecidesAs s t → DecidesAs (decidedInTurn l s) (decidedInTurn l t) := by
  induction l with
  | nil => exact fun h => h
  | cons e l ih => exact fun h => ih (h.decided e none)

theorem settled (h : DecidesAs s t) : AccountsOf s (settle t) :=
  ⟨(settle_dests t).trans h.accounts.1, fun d => (settle_counter t _).trans (h.accounts.2 d)⟩

end DecidesAs

/-! ### One decision (R87) -/

@[simp] theorem decidedEntry_tag (s : State) (e : Entry) (o : Option DestId) : (decidedEntry s e o).tag = e.tag := by
  unfold decidedEntry; split <;> rfl

theorem decidedEntry_ref (s : State) (e : Entry) (o : Option DestId) : (decidedEntry s e o).ref = e.ref := by
  simp only [Entry.ref, decidedEntry_tag]

/-- A decision changes the entry in its place, and the accounts. -/
theorem decideRoute_eq {s : State} {r : EntryRef} {e : Entry} (o : Option DestId) (h : s.find r = some e) :
    decideRoute r o s
      = (decidedAccounts s e o).withMap (updateEntry r (fun _ => decidedEntry s e o) s.map) := by
  cases hs : search s e o with
  | none =>
    have entry : decidedEntry s e o = { e with dest := some .tail, state := .toTail } := by
      simp only [decidedEntry, hs]
    rw [decideRoute_tail h hs, assignTail, modEntry_eq,
      updateEntry_congr h (g := fun _ => decidedEntry s e o) entry.symm]
    simp only [decidedAccounts, hs]
  | some d =>
    have entry : decidedEntry s e o = { e with dest := some (.gateDest d), state := .routed } := by
      simp only [decidedEntry, hs]
    rw [decideRoute_winner h hs, assign, modEntry_eq,
      updateEntry_congr h (g := fun _ => decidedEntry s e o) entry.symm]
    simp only [decidedAccounts, hs]
    rfl

theorem decidedAccounts_frame (s : State) (e : Entry) (o : Option DestId) :
    SameExcept [.dests, .counters] s (decidedAccounts s e o) := by
  unfold decidedAccounts
  split
  · exact sameExcept_of_front rfl (by simp [frontBlocks, Block.same])
  · exact sameExcept_refl _ s

theorem decideRoute_frame (r : EntryRef) (o : Option DestId) (s : State) :
    SameExcept [.map, .dests, .counters] s (decideRoute r o s) := by
  cases h : s.find r with
  | none => simp only [decideRoute, h]; exact sameExcept_refl _ s
  | some e =>
    rw [decideRoute_eq o h]
    exact ((decidedAccounts_frame s e o).mono (by simp)).trans ((sameExcept_withMap _ _).mono (by simp))

/-- A decision moves no counter of the part. -/
theorem decideRoute_counter (r : EntryRef) (o : Option DestId) (s : State) (c : GlobalCounter) :
    (decideRoute r o s).counter (.ofPart c) = s.counter (.ofPart c) := by
  unfold decideRoute
  split
  · rfl
  · split
    · simp [assign, raise_counter]
    · rfl

/-! ### An entry handed over with a new identity -/

/-- An entry takes an identity, a counter of the part rises, and the route unit decides the entry at once. -/
def handOver (r : EntryRef) (f : Entry → Entry) (c : GlobalCounter) (s : State) : State :=
  decideRoute r none ((s.modEntry r f).raisePart c)

/-- An entry that is given up is handed over unnamed, as ID_LOST (R22, R30, R32). -/
theorem giveUp_eq (r : EntryRef) (s : State) : giveUp r s = handOver r Entry.unnamed .idLost s := rfl

theorem handOver_frame (r : EntryRef) (f : Entry → Entry) (c : GlobalCounter) (s : State) :
    SameExcept [.map, .dests, .counters] s (handOver r f c s) :=
  ((sameExcept_withMap _ s).mono (by simp)).trans
    (((sameExcept_raise _ _).mono (by simp)).trans (decideRoute_frame r none _))

theorem handOver_counter (r : EntryRef) (f : Entry → Entry) (c x : GlobalCounter) (s : State) :
    (handOver r f c s).counter (.ofPart x)
      = if x = c then min (s.counter (.ofPart x) + 1) 65535 else s.counter (.ofPart x) := by
  rw [handOver, decideRoute_counter, raisePart_eq, raise_counter]
  simp only [Counter.ofPart.injEq]
  rfl

section
variable {r : EntryRef} {f : Entry → Entry} {s v : State} {e : Entry} (c : GlobalCounter)

/-- The identity is taken, the counter has risen, and the decision is to come. -/
theorem decidesAs_handed : DecidesAs s ((s.modEntry r f).raisePart c) := ((DecidesAs.refl s).withMap _).raisePart c

theorem handed_find (hf : ∀ e, (f e).tag = e.tag) (h : s.find r = some e) :
    ((s.modEntry r f).raisePart c).find r = some (f e) := find_updateEntry_self h (hf e)

/-- The entry stands in its place as the decision on its new identity leaves it. -/
theorem handOver_map (hf : ∀ e, (f e).tag = e.tag) (h : s.find r = some e) :
    (handOver r f c s).map = updateEntry r (fun _ => decidedEntry s (f e) none) s.map := by
  rw [handOver, decideRoute_eq none (handed_find c hf h), (decidesAs_handed c).entry_eq]
  exact updateEntry_updateEntry r hf _ s.map

/-- The accounts are those the decision leaves, on the credits there were. -/
theorem handOver_decides (hf : ∀ e, (f e).tag = e.tag) (h : s.find r = some e) (hv : DecidesAs v s) :
    DecidesAs (decidedAccounts v (f e) none) (handOver r f c s) := by
  rw [handOver, decideRoute_eq none (handed_find c hf h)]
  exact ((hv.trans (decidesAs_handed c)).decided (f e) none).withMap _

/-- The decided entry bears its name still. -/
theorem decided_bears (hf : ∀ e, (f e).tag = e.tag) (h : s.find r = some e) : (decidedEntry s (f e) none).ref = r :=
  (decidedEntry_ref s (f e) none).trans ((ref_of_tag hf e).trans (find_ref h))

theorem handOver_find (hf : ∀ e, (f e).tag = e.tag) (h : s.find r = some e) :
    (handOver r f c s).find r = some (decidedEntry s (f e) none) := by
  rw [State.find, handOver_map c hf h]
  exact find_updateEntry_self h ((decidedEntry_tag s (f e) none).trans (hf e))

theorem handOver_others (hf : ∀ e, (f e).tag = e.tag) (h : s.find r = some e) :
    SameOtherEntries s (handOver r f c s) r := by
  intro x hx
  rw [State.find, handOver_map c hf h]
  exact find_updateEntry_ne hx fun _ _ _ => decided_bears hf h

theorem handOver_length (hf : ∀ e, (f e).tag = e.tag) (h : s.find r = some e) :
    (handOver r f c s).map.length = s.map.length := by
  rw [handOver_map c hf h, updateEntry_length]

theorem handOver_refs (hf : ∀ e, (f e).tag = e.tag) (h : s.find r = some e) :
    (handOver r f c s).map.map Entry.ref = s.map.map Entry.ref := by
  rw [handOver_map c hf h]
  exact refs_updateEntry fun _ _ _ => decided_bears hf h

end

theorem unnamed_tag (e : Entry) : e.unnamed.tag = e.tag := rfl

/-! ### The ID window and the silence of the identifier (R34, R35) -/

/-- An entry whose window ends is handed over unnamed, as ID_EXPIRED (R34). -/
theorem exec_idWindowExpiry {s : State} {x : Tag} {e : Entry} (hr : s.inReset = false) (h : s.find (.tag x) = some e)
    (hs : e.state = .pending) (hp : reached s.belt.p (e.r + dist s.settings.w) = true) :
    exec (.idWindowExpiry x) s = .next (settle (handOver (.tag x) Entry.unnamed .idExpired s)) := by
  rw [exec_event (c := .idWindowExpiry x) rfl hr, h]
  exact congrArg (fun u => Host.Outcome.next (settle u)) (if_pos ⟨hs, hp⟩)

/-- The silence of the identifier sets its level (R35). -/
def setSilentLevel (s : State) : State := { s with matcher := { s.matcher with silent := true } }

theorem exec_identifierSilent {s : State} (hr : s.inReset = false) (h : 2000 ≤ s.matcher.silenceMs)
    (hn : s.matcher.silent = false) : exec .identifierSilent s = .next (settle (setSilentLevel s)) :=
  exec_due (due := fun s => silentDue s = true) (act := setSilentLevel) rfl hr (by simp [silentDue, h, hn])

theorem setSilentLevel_frame (s : State) : SameExcept [.matcher] s (setSilentLevel s) :=
  sameExcept_of_front rfl (by simp [frontBlocks, Block.same, SameDests, setSilentLevel])

/-- Settles O18: the end of an ID window, and the end of the silence time. -/
theorem idWindowAndSilence : Obligations.IdWindowAndSilence := by
  intro s hr
  refine ⟨fun x e hf hs hp => ?_, fun h hn => ?_⟩
  · refine ⟨_, exec_idWindowExpiry hr hf hs hp, (handOver_frame _ _ _ s).settled, fun y hy => ?_, ?_, ?_,
      (handOver_decides _ unnamed_tag hf (.refl s)).settled, ?_⟩
    · rw [settle_find, handOver_others _ unnamed_tag hf y hy]
    · rw [settle_map, handOver_length _ unnamed_tag hf]
    · rw [settle_find, handOver_find _ unnamed_tag hf]
    · rw [settle_counter, handOver_counter, if_pos rfl]
  · refine ⟨_, exec_identifierSilent hr h hn, (setSilentLevel_frame s).settled, settle_matcher _, ?_⟩
    rw [settle_level_silent]
    rfl

end Sys2Proof.Machine
end

section
/-! SUPPORT. The read-point eye and the commit of a capture: what joins the map, and who is given up for it (R19 to R24, R26, R32, R87). -/

namespace Sys2Proof.Machine

/-! ### A capture that commits (R21, R22, R23) -/

/-- The next tag is given and CAPTURES counts (R21). -/
def countCapture (s : State) : State :=
  (s.modReader fun x => { x with tagCounter := s.reader.tagCounter + 1 }).raisePart .captures

theorem countCapture_frame (s : State) : SameExcept [.reader, .counters] s (countCapture s) :=
  ((sameExcept_modReader _ s).mono (by simp)).trans ((sameExcept_raise _ _).mono (by simp))

theorem countCapture_map (s : State) : (countCapture s).map = s.map := rfl

theorem countCapture_find (s : State) (r : EntryRef) : (countCapture s).find r = s.find r := rfl

theorem countCapture_counter (s : State) (c : Counter) : (countCapture s).counter c
    = if c = .ofPart .captures then min (s.counter c + 1) 65535 else s.counter c := raise_counter _ _ _

theorem countCapture_decides (s : State) : DecidesAs s (countCapture s) :=
  ⟨rfl, rfl, rfl, rfl, fun d => by rw [countCapture_counter, if_neg (by simp)]⟩

theorem commitCapture_eq (r : Pos) (s : State) :
    commitCapture r s = offerCapture r (s.reader.tagCounter + 1) (countCapture s) := rfl

/-- The map has no room for the capture, or its tag is live (R23). -/
abbrev Refused (s : State) : Prop := 64 ≤ s.map.length ∨ s.find (.tag (s.reader.tagCounter + 1)) ≠ none

theorem captureRefused_iff (s : State) :
    captureRefused (s.reader.tagCounter + 1) (countCapture s) = true ↔ Refused s := by
  rw [captureRefused, countCapture_find, countCapture_map, Bool.or_eq_true, decide_eq_true_iff,
    Option.isSome_iff_ne_none]

/-- A refused capture counts MAP_OVERRUN and makes no entry (R23). -/
theorem commitCapture_refused (r : Pos) {s : State} (h : Refused s) : commitCapture r s
    = setCapture (.committed r (s.reader.tagCounter + 1) false) ((countCapture s).raisePart .mapOverrun) := by
  rw [commitCapture_eq, offerCapture, if_pos ((captureRefused_iff s).mpr h)]

/-- An entry joins the newest end of the map, and the capture goes its way. -/
def joinMap (c : Capture) (n : Entry) (s : State) : State := setCapture c (s.withMap (s.map ++ [n]))

/-- Any other makes its PENDING entry, once there is room among the PENDING ones (R22). -/
theorem commitCapture_made (r : Pos) {s : State} (h : ¬Refused s) : commitCapture r s
    = joinMap (.committed r (s.reader.tagCounter + 1) true) (newEntry r (s.reader.tagCounter + 1))
        (makePendingRoom (countCapture s)) := by
  rw [commitCapture_eq, offerCapture, if_neg fun hc => h ((captureRefused_iff s).mp hc)]
  rfl

theorem endCapture_committed {r r' : Pos} {x : Tag} {made : Bool} {s : State}
    (h : s.reader.capture = .committed r' x made) :
    endCapture r s = setCapture .ready (closeCapture x made (edgeLength s r) false s) := by
  simp only [endCapture, h]

/-! ### The oldest PENDING entry is given up for the ninth (R22, R32) -/

theorem makePendingRoom_room {s : State} (h : (pendingEntries s).length < 8) : makePendingRoom s = s := by
  unfold makePendingRoom
  split
  · rfl
  · next he => rw [he] at h; exact if_neg (by omega)

theorem makePendingRoom_full {s : State} {e : Entry} {rest : List Entry} (he : pendingEntries s = e :: rest)
    (h : ¬(pendingEntries s).length < 8) : makePendingRoom s = handOver e.ref Entry.unnamed .idLost s := by
  rw [he] at h
  simp only [makePendingRoom, he, if_pos (Nat.le_of_not_lt h), giveUp_eq]

theorem mem_map_of_pending {s : State} {e : Entry} (h : e ∈ pendingEntries s) : e ∈ s.map :=
  (List.mem_filter.mp h).1

/-- Eight PENDING entries have an oldest one. -/
theorem exists_oldest {s : State} (h : ¬(pendingEntries s).length < 8) : ∃ e rest, pendingEntries s = e :: rest := by
  cases he : pendingEntries s with
  | nil => simp [he] at h
  | cons e rest => exact ⟨e, rest, rfl⟩

/-- The capture state and P stand while room is made, and so do the names in the map. -/
theorem makePendingRoom_keeps (s : State) :
    (makePendingRoom s).kept = s.kept ∧ (makePendingRoom s).map.map Entry.ref = s.map.map Entry.ref := by
  by_cases h : (pendingEntries s).length < 8
  · rw [makePendingRoom_room h]; exact ⟨rfl, rfl⟩
  · obtain ⟨e, rest, he⟩ := exists_oldest h
    obtain ⟨x, hx⟩ := exists_find_of_mem (mem_map_of_pending (s := s) (he ▸ List.mem_cons_self))
    rw [makePendingRoom_full he h]
    exact ⟨decideRoute_kept _ _ _, handOver_refs _ unnamed_tag hx⟩

/-! ### What a made capture changes -/

/-- What has changed where a capture has made its entry: the entry joins the newest end, after the oldest of 8 PENDING entries has been given up, and CAPTURES has counted (R21, R22, R32, R87). -/
def EntryMade (moved : List Block) (n : Entry) (s t : State) : Prop :=
  if (pendingEntries s).length < 8 then
    SameExcept (moved ++ [.map, .counters]) s t ∧ Raised [.ofPart .captures] s t ∧ t.map = s.map ++ [n]
  else
    SameExcept (moved ++ [.map, .dests, .counters]) s t ∧ t.map.length = s.map.length + 1 ∧ t.map.getLast? = some n
      ∧ t.counter (.ofPart .captures) = min (s.counter (.ofPart .captures) + 1) 65535
      ∧ t.counter (.ofPart .idLost) = min (s.counter (.ofPart .idLost) + 1) 65535
      ∧ ∀ (e : Entry) (rest : List Entry), MapLaw s → pendingEntries s = e :: rest →
          t.map = (s.map.map fun x => if x.ref = e.ref then decidedEntry s e.unnamed none else x) ++ [n]
            ∧ AccountsOf (decidedAccounts s e.unnamed none) t

theorem joinMap_frame (c : Capture) (n : Entry) (s : State) : SameExcept [.reader, .map] s (joinMap c n s) :=
  ((sameExcept_withMap _ s).mono (by simp)).trans ((setCapture_frame c _).mono (by simp))

theorem joinMap_reader (c : Capture) (n : Entry) (s : State) :
    (joinMap c n s).reader = { s.reader with capture := c } := rfl

theorem joinMap_edgeLength (c : Capture) (n : Entry) (s : State) (r : Pos) :
    edgeLength (joinMap c n s) r = edgeLength s r := rfl

theorem joinMap_map (c : Capture) (n : Entry) (s : State) : (joinMap c n s).map = s.map ++ [n] := rfl

theorem joinMap_counter (c : Capture) (n : Entry) (s : State) (x : Counter) :
    (joinMap c n s).counter x = s.counter x := rfl

theorem joinMap_decides {s t : State} (h : DecidesAs s t) (c : Capture) (n : Entry) : DecidesAs s (joinMap c n t) :=
  ⟨h.p, h.gates, h.routes, h.accounts⟩

theorem entryMade_joinMap (c : Capture) (n : Entry) (s : State) :
    EntryMade [.reader] n s (settle (joinMap c n (makePendingRoom (countCapture s)))) := by
  unfold EntryMade
  split
  · next h =>
    rw [makePendingRoom_room (s := countCapture s) h]
    refine ⟨SameExcept.settled ?_, Raised.settled fun x => ?_, settle_map _⟩
    · exact ((countCapture_frame s).mono (by simp)).trans ((joinMap_frame c n _).mono (by simp))
    · rw [joinMap_counter, countCapture_counter]; simp only [List.mem_singleton]
  · next h =>
    obtain ⟨e, rest, he⟩ := exists_oldest h
    obtain ⟨x, hx⟩ := exists_find_of_mem (mem_map_of_pending (s := s) (he ▸ List.mem_cons_self))
    rw [makePendingRoom_full (s := countCapture s) he h]
    refine ⟨SameExcept.settled ?_, ?_, ?_, ?_, ?_, fun e' rest' hm he' => ?_⟩
    · exact ((countCapture_frame s).mono (by simp)).trans
        (((handOver_frame _ _ _ _).mono (by simp)).trans ((joinMap_frame c n _).mono (by simp)))
    · rw [settle_map, joinMap_map, List.length_append, handOver_length _ unnamed_tag (s := countCapture s) hx]
      rfl
    · rw [settle_map, joinMap_map, List.getLast?_concat]
    · rw [settle_counter, joinMap_counter, handOver_counter, if_neg (by simp), countCapture_counter, if_pos rfl]
    · rw [settle_counter, joinMap_counter, handOver_counter, if_pos rfl, countCapture_counter, if_neg (by simp)]
    · obtain ⟨rfl, rfl⟩ : e = e' ∧ rest = rest' := by simpa [he] using he'
      have hf : s.find e.ref = some e := find_of_mem hm.2 (mem_map_of_pending (he ▸ List.mem_cons_self))
      refine ⟨?_, (joinMap_decides (handOver_decides _ unnamed_tag (s := countCapture s) hf
        (countCapture_decides s)) c n).settled⟩
      rw [settle_map, joinMap_map, handOver_map _ unnamed_tag (s := countCapture s) hf,
        (countCapture_decides s).entry_eq, countCapture_map, updateEntry_eq_map _ hm.2]

theorem makePendingRoom_reader (s : State) : (makePendingRoom (countCapture s)).reader
    = { s.reader with tagCounter := s.reader.tagCounter + 1 } := reader_of_kept (makePendingRoom_keeps _).1

/-- What a refused capture changes: CAPTURES and MAP_OVERRUN count (R23). -/
theorem refused_frame (c : Capture) (s : State) :
    SameExcept [.reader, .counters] s (setCapture c ((countCapture s).raisePart .mapOverrun)) :=
  (countCapture_frame s).trans (((sameExcept_raise _ _).mono (by simp)).trans ((setCapture_frame c _).mono (by simp)))

theorem refused_raised (c : Capture) (s : State) :
    Raised [.ofPart .captures, .ofPart .mapOverrun] s (setCapture c ((countCapture s).raisePart .mapOverrun)) := by
  intro x
  have h : (setCapture c ((countCapture s).raisePart .mapOverrun)).counter x
      = ((countCapture s).raise (.ofPart .mapOverrun)).counter x := rfl
  rw [h, raise_counter, countCapture_counter]
  by_cases hc : x = .ofPart .captures
  · simp [hc]
  · simp [hc]

/-! ### CAPTURE_COMMIT (R21) -/

theorem exec_captureCommit {s : State} {r : Pos} (hr : s.inReset = false) (hc : s.reader.capture = .opened r)
    (hp : reached s.belt.p (r + dist 8) = true) :
    exec .captureCommit s = .next (settle (commitCapture r s)) := by
  have hd : commitDue s = some r := by simp [commitDue, hc, commitDistance, hp]
  rw [exec_event (c := .captureCommit) rfl hr, hd]

/-- Settles O15: a capture refused, and one that makes its entry. -/
theorem commitMakesPendingEntry : Obligations.CommitMakesPendingEntry := by
  intro s r hr hc hp
  refine ⟨_, exec_captureCommit hr hc hp, ?_⟩
  split
  · next h =>
    rw [commitCapture_refused r h]
    exact ⟨(refused_frame _ s).settled, (refused_raised _ s).settled, settle_reader _⟩
  · next h =>
    rw [commitCapture_made r h]
    refine ⟨?_, entryMade_joinMap _ (newEntry r (s.reader.tagCounter + 1)) s⟩
    rw [settle_reader, joinMap_reader, makePendingRoom_reader]

end Sys2Proof.Machine
end

section
/-! SUPPORT. The edges of the read-point eye, by the capture state (R19, R20, R24, R26). -/

namespace Sys2Proof.Machine

/-! ### A blockage (R19, R26) -/

theorem exec_readEyeBlock {s : State} (hr : s.inReset = false) (h : s.pins.readEye = false) :
    exec .readEyeBlock s = .next (settle (eyeBlocks (setReadEye true s))) := by
  rw [exec_input (c := .readEyeBlock) rfl hr, if_neg (by simp [h])]

theorem eyeBlocks_frame (s : State) : SameExcept [.reader] s (eyeBlocks s) := by
  unfold eyeBlocks
  split
  · exact setCapture_frame _ s
  · exact setCapture_frame _ s
  · exact sameExcept_refl _ s
  · exact sameExcept_refl _ s

/-- A blockage opens a capture in READY and takes the clear-since position away in CLEAR_WAIT. -/
theorem readEyeBlock_outcome {s : State} (hr : s.inReset = false) (h : s.pins.readEye = false) :
    ∃ t, exec .readEyeBlock s = .next t ∧ SameExcept [.pins, .reader] s t
      ∧ t.pins = { s.pins with readEye := true }
      ∧ (s.reader.capture = .ready → t.reader = { s.reader with capture := .opened s.belt.p })
      ∧ (∀ x, s.reader.capture = .clearWait x → t.reader = { s.reader with capture := .clearWait none }) := by
  have frame := eyeBlocks_frame (setReadEye true s)
  have capture : (setReadEye true s).reader.capture = s.reader.capture := rfl
  refine ⟨_, exec_readEyeBlock hr h, ?_, ?_, fun hc => ?_, fun x hc => ?_⟩
  · exact (((sameExcept_setReadEye true s).mono (by simp)).trans (frame.mono (by simp))).settled
  · rw [settle_pins]
    exact frame .pins (by simp)
  · rw [settle_reader]
    simp only [eyeBlocks, capture, hc]
    rfl
  · rw [settle_reader]
    simp only [eyeBlocks, capture, hc]
    rfl

/-! ### A clear, by the capture it meets (R20, R24, R26) -/

theorem exec_readEyeClear {s : State} (hr : s.inReset = false) (h : s.pins.readEye = true) :
    exec .readEyeClear s = .next (settle (eyeClears (setReadEye false s))) := by
  rw [exec_input (c := .readEyeClear) rfl hr, if_pos h]

section
variable {s : State} {r : Pos}

/-- A capture shorter than 8 counts is dropped (R20). -/
theorem eyeClears_short (hc : s.reader.capture = .opened r) (h : (s.belt.p - r).toNat < 8) :
    eyeClears s = setCapture .ready s := by
  simp only [eyeClears, hc]
  exact if_pos h

/-- A longer one commits and ends (R24). -/
theorem eyeClears_long (hc : s.reader.capture = .opened r) (h : 8 ≤ (s.belt.p - r).toNat) :
    eyeClears s = endCapture r (commitCapture r s) := by
  simp only [eyeClears, hc]
  exact if_neg (Nat.not_lt.mpr h)

theorem eyeClears_committed {x : Tag} {made : Bool} (hc : s.reader.capture = .committed r x made) :
    eyeClears s = setCapture .ready (closeCapture x made (s.belt.p - r).toNat false s) := by
  simp only [eyeClears, hc]
  exact endCapture_committed hc

theorem eyeClears_waiting {x : Option Pos} (hc : s.reader.capture = .clearWait x) :
    eyeClears s = setCapture (.clearWait (some s.belt.p)) s := by
  simp only [eyeClears, hc]

/-- A refused capture ends with nothing to close (R23). -/
theorem endCapture_refused (r : Pos) (h : Refused s) : endCapture r (commitCapture r s)
    = setCapture .ready ((countCapture s).raisePart .mapOverrun) := by
  rw [commitCapture_refused r h]
  rfl

/-- The entry of a capture that commits and ends at one clear has its length. -/
def closedEntry (r : Pos) (s : State) : Entry :=
  { tag := some (s.reader.tagCounter + 1), r := r, length := some (s.belt.p - r).toNat, state := .pending }

theorem endCapture_made (r : Pos) (h : ¬Refused s) : endCapture r (commitCapture r s)
    = joinMap .ready (closedEntry r s) (makePendingRoom (countCapture s)) := by
  obtain ⟨kept, refs⟩ := makePendingRoom_keeps (countCapture s)
  have belt : (makePendingRoom (countCapture s)).belt = (countCapture s).belt := belt_of_kept kept
  have fresh : .tag (s.reader.tagCounter + 1) ∉ (makePendingRoom (countCapture s)).map.map Entry.ref := by
    rw [refs]
    exact find_eq_none_iff.mp (not_not.mp fun hf => h (.inr hf))
  rw [commitCapture_made r h, endCapture_committed (made := true) (x := s.reader.tagCounter + 1) rfl,
    joinMap_edgeLength, edgeLength, belt, closeCapture, if_pos rfl, modEntry_eq, joinMap_map,
    updateEntry_joined fresh rfl]
  rfl

end

theorem counter_of_live {s u : State} (live : u.bank.live = s.bank.live) (c : Counter) : u.counter c = s.counter c := by
  simp only [State.counter, live]

theorem Raised.since {l : List Counter} {s u t : State} (h : Raised l u t) (live : u.bank.live = s.bank.live) :
    Raised l s t := fun c => by rw [h c, counter_of_live live]

/-- What a capture has changed since the inputs were followed, it has changed since before them. -/
theorem EntryMade.since {l moved : List Block} {n : Entry} {s u t : State} (h : EntryMade moved n u t)
    (frame : SameExcept l s u) (map : u.map = s.map) (live : u.bank.live = s.bank.live) (decides : DecidesAs s u) :
    EntryMade (l ++ moved) n s t := by
  have pending : pendingEntries u = pendingEntries s := by rw [pendingEntries, map]; rfl
  unfold EntryMade at h ⊢
  rw [pending] at h
  have wide : ∀ m, SameExcept (moved ++ m) u t → SameExcept (l ++ moved ++ m) s t := fun m hm =>
    (frame.mono fun b hb => by simp [hb]).trans (hm.mono fun b hb => by rw [List.append_assoc]; simp_all)
  split
  · next hp =>
    rw [if_pos hp] at h
    obtain ⟨hf, hr, hm⟩ := h
    exact ⟨wide _ hf, hr.since live, by rw [hm, map]⟩
  · next hp =>
    rw [if_neg hp] at h
    obtain ⟨hf, length, last, captures, lost, given⟩ := h
    rw [map] at length
    rw [counter_of_live live] at captures lost
    refine ⟨wide _ hf, length, last, captures, lost, fun e rest hl he => ?_⟩
    obtain ⟨hm, dests, assigned⟩ := given e rest (by rwa [MapLaw, map]) he
    obtain ⟨dests', assigned'⟩ := (decides.decided e.unnamed none).accounts
    refine ⟨?_, dests.trans dests', fun d => (assigned d).trans (assigned' d)⟩
    rw [hm, map, decides.entry_eq]

theorem setReadEye_decides (b : Bool) (s : State) : DecidesAs s (setReadEye b s) :=
  ⟨rfl, rfl, rfl, rfl, fun _ => rfl⟩

/-- A clear that changes nothing but the capture state. -/
theorem clear_setsCapture (c : Capture) (s : State) :
    SameExcept [.pins, .reader] s (settle (setCapture c (setReadEye false s)))
    ∧ (settle (setCapture c (setReadEye false s))).reader = { s.reader with capture := c } :=
  ⟨(((sameExcept_setReadEye false s).mono (by simp)).trans ((setCapture_frame c _).mono (by simp))).settled,
    settle_reader _⟩

/-- A clear of a capture of 8 counts or more that the map refuses (R23, R24). -/
theorem clear_refused (s : State) :
    let t := settle (setCapture .ready ((countCapture (setReadEye false s)).raisePart .mapOverrun))
    t.reader = { s.reader with capture := .ready, tagCounter := s.reader.tagCounter + 1 }
      ∧ SameExcept [.pins, .reader, .counters] s t ∧ Raised [.ofPart .captures, .ofPart .mapOverrun] s t := by
  have eye := sameExcept_setReadEye false s
  have counted : SameExcept [.pins, .reader, .counters] s
      (setCapture .ready ((countCapture (setReadEye false s)).raisePart .mapOverrun)) :=
    (eye.mono (by simp)).trans ((refused_frame _ _).mono (by simp))
  have raised := (refused_raised .ready (setReadEye false s)).since (s := s) rfl
  refine ⟨?_, counted.settled, raised.settled⟩
  rw [settle_reader]
  rfl

/-- A clear of one that makes its entry (R20, R21, R22, R24). -/
theorem clear_made (s : State) (r : Pos) :
    let t := settle (joinMap .ready (closedEntry r s) (makePendingRoom (countCapture (setReadEye false s))))
    t.reader = { s.reader with capture := .ready, tagCounter := s.reader.tagCounter + 1 }
      ∧ EntryMade [.pins, .reader] (closedEntry r s) s t := by
  have made := entryMade_joinMap .ready (closedEntry r s) (setReadEye false s)
  refine ⟨?_, made.since (sameExcept_setReadEye false s) rfl rfl (setReadEye_decides false s)⟩
  rw [settle_reader, joinMap_reader, makePendingRoom_reader]
  rfl

/-- A clear of a COMMITTED capture changes the map and the capture state alone (R24). -/
theorem clear_committed (s : State) (x : Tag) (made : Bool) (n : Nat) :
    SameExcept [.pins, .reader, .map] s
        (settle (setCapture .ready (closeCapture x made n false (setReadEye false s))))
      ∧ (settle (setCapture .ready (closeCapture x made n false (setReadEye false s)))).reader
        = { s.reader with capture := .ready } := by
  have eye := sameExcept_setReadEye false s
  have close := closeCapture_frame x made n false (setReadEye false s)
  have ends := setCapture_frame .ready (closeCapture x made n false (setReadEye false s))
  refine ⟨((eye.mono (by simp)).trans ((close.mono (by simp)).trans (ends.mono (by simp)))).settled, ?_⟩
  rw [settle_reader, setCapture_reader, closeCapture_reader]
  rfl

/-- No clear moves an input of its own. -/
theorem eyeClears_pins (s : State) : (eyeClears s).pins = s.pins := by
  cases hc : s.reader.capture with
  | ready => simp only [eyeClears, hc]
  | clearWait x => rw [eyeClears_waiting hc]; rfl
  | committed r x made =>
    rw [eyeClears_committed hc]
    exact closeCapture_frame x made _ false s .pins (by simp)
  | opened r =>
    rcases Nat.lt_or_ge (s.belt.p - r).toNat 8 with hl | hl
    · rw [eyeClears_short hc hl]; rfl
    · rw [eyeClears_long hc hl]
      by_cases h : Refused s
      · rw [endCapture_refused r h]; rfl
      · rw [endCapture_made r h]
        have pins : (makePendingRoom (countCapture s)).pins = (countCapture s).pins :=
          pins_of_kept (makePendingRoom_keeps (countCapture s)).1
        exact pins

/-- Settles O14: a blockage, and a clear by the capture it meets. -/
theorem readEyeMovesCapture : Obligations.ReadEyeMovesCapture := by
  intro s hr
  refine ⟨readEyeBlock_outcome hr, fun h => ⟨_, exec_readEyeClear hr h, ?_, fun r hc hl => ?_, fun r hc hl => ?_,
    fun r x e hc hf hs => ?_, fun r x hc => ?_, fun x hc => ?_⟩⟩
  · rw [settle_pins, eyeClears_pins]
    rfl
  · rw [eyeClears_short (s := setReadEye false s) hc hl]
    exact clear_setsCapture .ready s
  · rw [eyeClears_long (s := setReadEye false s) hc hl]
    split
    · next h =>
      rw [endCapture_refused r (s := setReadEye false s) h]
      exact clear_refused s
    · next h =>
      rw [endCapture_made r (s := setReadEye false s) h]
      exact clear_made s r
  · rw [eyeClears_committed (s := setReadEye false s) hc]
    obtain ⟨frame, reader⟩ := clear_committed s x true (s.belt.p - r).toNat
    refine ⟨frame, reader, ?_, ?_, fun y hy => ?_⟩
    · rw [settle_find, setCapture_find, closeCapture_closes _ false (s := setReadEye false s) hf hs, Bool.or_false]
      rfl
    · rw [settle_map, setCapture_map, closeCapture_length]
      rfl
    · rw [settle_find, setCapture_find]
      exact closeCapture_others x true _ false _ y hy
  · rw [eyeClears_committed (s := setReadEye false s) hc]
    exact clear_setsCapture .ready s
  · rw [eyeClears_waiting (s := setReadEye false s) hc]
    exact clear_setsCapture _ s

end Sys2Proof.Machine
end

section
/-! SUPPORT. Item reports: the older PENDING entries given up in turn, and the entry that takes the report (R29 to R33, R35, R40, R87). -/

namespace Sys2Proof.Machine

/-! ### Entries given up in turn (R30, R32) -/

theorem forEach_giveUp_frame (l : List EntryRef) (s : State) :
    SameExcept [.map, .dests, .counters] s (forEach l giveUp s) :=
  forEach_invariant (SameExcept _ s) giveUp l (fun _ _ u hu => hu.trans (handOver_frame _ _ _ u)) s
    (sameExcept_refl _ s)

theorem decidedInTurn_snoc (l : List Entry) (e : Entry) (s : State) :
    decidedInTurn (l ++ [e]) s = decidedAccounts (decidedInTurn l s) e none := by
  rw [decidedInTurn, List.foldl_append]
  rfl

/-- What has changed where the entries of a list have been given up one after another: each is UNKNOWN with owner NONE, counted as ID_LOST, and decided on the credits that those before it left. -/
structure GivenUp (s : State) (l : List Entry) (t : State) : Prop where
  decides : DecidesAs (decidedInTurn (l.map Entry.unnamed) s) t
  length : t.map.length = s.map.length
  others : ∀ r, r ∉ l.map Entry.ref → t.find r = s.find r
  found : ∀ (before : List Entry) (x : Entry) (after : List Entry), l = before ++ x :: after →
    t.find x.ref = some (decidedEntry (decidedInTurn (before.map Entry.unnamed) s) x.unnamed none)
  lost : t.counter (.ofPart .idLost) = if l = [] then s.counter (.ofPart .idLost)
    else min (s.counter (.ofPart .idLost) + l.length) 65535
  counted : ∀ c, c ≠ .idLost → t.counter (.ofPart c) = s.counter (.ofPart c)

theorem givenUp_nil (s : State) : GivenUp s [] s where
  decides := .refl s
  length := rfl
  others _ _ := rfl
  found before x after h := by simp at h
  lost := rfl
  counted _ _ := rfl

/-- One entry more is given up behind the others. -/
theorem GivenUp.snoc {s t : State} {l : List Entry} {e : Entry} (h : GivenUp s l t) (he : s.find e.ref = some e)
    (hn : e.ref ∉ l.map Entry.ref) : GivenUp s (l ++ [e]) (giveUp e.ref t) := by
  have ht : t.find e.ref = some e := (h.others _ hn).trans he
  rw [giveUp_eq]
  refine ⟨?_, ?_, fun r hr => ?_, fun before x after hx => ?_, ?_, fun c hc => ?_⟩
  · rw [List.map_append, List.map_singleton, decidedInTurn_snoc]
    exact handOver_decides _ unnamed_tag ht h.decides
  · rw [handOver_length _ unnamed_tag ht, h.length]
  · simp only [List.map_append, List.map_singleton, List.mem_append, List.mem_singleton, not_or] at hr
    rw [handOver_others _ unnamed_tag ht r hr.2, h.others r hr.1]
  · rcases List.eq_nil_or_concat after with rfl | ⟨mid, y, rfl⟩
    · obtain ⟨rfl, rfl⟩ : l = before ∧ e = x := by simpa using List.append_inj' hx rfl
      rw [handOver_find _ unnamed_tag ht, h.decides.entry_eq]
    · rw [List.concat_eq_append, ← List.cons_append, ← List.append_assoc] at hx
      obtain ⟨rfl, -⟩ := List.append_inj' hx rfl
      have hne : x.ref ≠ e.ref := fun hr => hn (hr ▸ List.mem_map_of_mem (by simp))
      rw [handOver_others _ unnamed_tag ht x.ref hne, h.found before x mid rfl]
  · have hne : l ++ [e] ≠ [] := by simp
    rw [handOver_counter, if_pos rfl, h.lost, if_neg hne, List.length_append, List.length_singleton]
    split
    · next hl => subst hl; rfl
    · omega
  · rw [handOver_counter, if_neg hc, h.counted c hc]

/-- Entries of the map with distinct names are given up one after another. -/
theorem givenUp_forEach {s : State} (l : List Entry) (hn : (l.map Entry.ref).Nodup)
    (hm : ∀ x ∈ l, s.find x.ref = some x) : GivenUp s l (forEach (l.map Entry.ref) giveUp s) := by
  induction l using List.reverseRecOn with
  | nil => exact givenUp_nil s
  | append_singleton l e ih =>
    rw [List.map_append, List.nodup_append] at hn
    obtain ⟨hl, -, hd⟩ := hn
    have rest := ih hl fun x hx => hm x (by simp [hx])
    have he : e.ref ∉ l.map Entry.ref := fun h => hd _ h e.ref (by simp) rfl
    rw [List.map_append, forEach, List.foldl_append]
    exact rest.snoc (hm e (by simp)) he

/-! ### The report (R29, R31) -/

theorem wordAt_lt (pl : List Byte) (i : Nat) : wordAt pl i < 65536 := by
  have h : ∀ j, byteAt pl j < 256 := fun j => (pl.getD j 0).isLt
  have hi := h i
  have hj := h (i + 1)
  unfold wordAt
  omega

/-- A pattern code is absent where its two bytes are 0. -/
theorem pattern_eq_zero (pl : List Byte) (i : Nat) : BitVec.ofNat 16 (wordAt pl i) = 0 ↔ wordAt pl i = 0 := by
  rw [← BitVec.toNat_inj, BitVec.toNat_ofNat, Nat.mod_eq_of_lt (wordAt_lt pl i)]
  rfl

/-- The entry that takes a report, field by field (R29, R31). -/
theorem identified_readReport (threshold : Nat) (l : List PatternEntry) (pl : List Byte) (e : Entry) :
    identified threshold l (readReport pl) e = { e with
      cls := some (if threshold ≤ min (byteAt pl 3) 100 then clampClass (byteAt pl 1) else ItemClass.unknown)
      owner := some (if wordAt pl 4 = 0 then .nobody else lookupOwner (BitVec.ofNat 16 (wordAt pl 4)) l)
      pattern := if wordAt pl 4 = 0 then none else some (BitVec.ofNat 16 (wordAt pl 4))
      broken := yesAt pl 2
      confidence := some (min (byteAt pl 3) 100) } := by
  simp only [identified, classTaken, ownerTaken, readReport, pattern_eq_zero]
  rfl

theorem identified_tag (threshold : Nat) (l : List PatternEntry) (r : ItemReport) (e : Entry) :
    (identified threshold l r e).tag = e.tag := rfl

/-! ### The pattern table under a report (R40) -/

/-- The table after a report: looked up where the report has a code. -/
def reportedTable (r : ItemReport) (l : List PatternEntry) : List PatternEntry :=
  if r.pattern = 0 then l else lookupTable r.pattern l

theorem takeReport_eq (ref : EntryRef) (r : ItemReport) (s : State) : takeReport ref r s
    = handOver ref (identified s.settings.threshold s.patterns r) .reportsMatched
        (s.withPatterns (reportedTable r s.patterns)) := by
  unfold takeReport reportedTable handOver
  dsimp only
  split <;> rfl

/-- No code, or one that the table does not hold, leaves the table as it is (R40). -/
theorem reportedTable_miss {pl : List Byte} {l : List PatternEntry}
    (h : wordAt pl 4 = 0 ∨ patternOf (BitVec.ofNat 16 (wordAt pl 4)) l = none) : reportedTable (readReport pl) l = l := by
  simp only [reportedTable, readReport, pattern_eq_zero]
  split
  · rfl
  · next h0 => simp only [lookupTable, h.resolve_left h0]

/-- A code that the table holds is made the most recent (R40). -/
theorem reportedTable_hit {pl : List Byte} {l : List PatternEntry} {x : PatternEntry} (h0 : wordAt pl 4 ≠ 0)
    (h : patternOf (BitVec.ofNat 16 (wordAt pl 4)) l = some x) :
    reportedTable (readReport pl) l = (l.filter fun y => y.code != x.code) ++ [x] := by
  simp only [reportedTable, readReport, pattern_eq_zero, if_neg h0, lookupTable, h]
  rfl

theorem sameExcept_withPatterns (l : List PatternEntry) (s : State) : SameExcept [.patterns] s (s.withPatterns l) :=
  sameExcept_of_front rfl (by simp [frontBlocks, Block.same, SameDests])

/-! ### A report on the identifier port (R30, R33, R35) -/

/-- The state in which a good report is matched: its port is back in HUNT, it is counted good, and the silence of the identifier is over. -/
def heardReport (s : State) : State := hearIdentifier ((hunt .identifier s).raisePort .identifier .framesGood)

theorem heardReport_frame (s : State) : SameExcept [.matcher, .receivers, .counters] s (heardReport s) :=
  sameExcept_of_front rfl (by simp [frontBlocks, Block.same, SameDests, heardReport, hearIdentifier, hunt])

theorem heardReport_counter (s : State) (c : Counter) : (heardReport s).counter c
    = if c = .ofPort .identifier .framesGood then min (s.counter c + 1) 65535 else s.counter c :=
  raise_counter (hunt .identifier s) _ c

theorem heardReport_decides (s : State) : DecidesAs s (heardReport s) :=
  ⟨rfl, rfl, rfl, rfl, fun d => by rw [heardReport_counter, if_neg (by simp)]⟩

theorem heardReport_receiver (s : State) (p : Port) :
    (heardReport s).receiver p = if p = .identifier then {} else s.receiver p := by
  have h : (heardReport s).receiver p = (hunt .identifier s).receiver p := rfl
  rw [h, hunt]
  split
  · next hp => rw [hp, modReceiver_receiver_self]
  · next hp => exact modReceiver_receiver_ne _ _ _ _ hp

theorem exec_itemReport {s : State} {tag : Byte} {pl : List Byte} (hr : s.inReset = false) (hl : pl.length = 6) :
    exec (.itemReport .identifier tag pl) s = .next (settle (matchReport (readReport pl) (heardReport s))) := by
  rw [exec_event (c := .itemReport .identifier tag pl) rfl hr]
  exact congrArg (fun u => Host.Outcome.next (settle u)) (if_pos hl)

theorem matchReport_unmatched {r : ItemReport} {s : State} (h : (pendingEntries s).find? (hasSeq r.seq) = none) :
    matchReport r s = s.raisePart .reportUnmatched := by
  simp only [matchReport, h]

/-- A report is taken by the oldest PENDING entry of its number, after those before it have been given up. -/
theorem matchReport_matched {r : ItemReport} {s : State} {older rest : List Entry} {e : Entry}
    (hp : pendingEntries s = older ++ e :: rest) (ho : ∀ x ∈ older, hasSeq r.seq x = false)
    (he : hasSeq r.seq e = true) :
    matchReport r s = takeReport e.ref r (forEach (older.map Entry.ref) giveUp s) := by
  have find : (pendingEntries s).find? (hasSeq r.seq) = some e := by
    rw [hp, List.find?_append, List.find?_eq_none.mpr (by simpa using ho)]
    simp [he]
  have before : (pendingEntries s).takeWhile (fun x => !hasSeq r.seq x) = older := by
    rw [hp, List.takeWhile_append_of_pos (by simpa using ho)]
    simp [he]
  simp only [matchReport, find, before]

theorem takeReport_frame (ref : EntryRef) (r : ItemReport) (s : State) :
    SameExcept [.patterns, .map, .dests, .counters] s (takeReport ref r s) := by
  rw [takeReport_eq]
  exact ((sameExcept_withPatterns _ s).mono (by simp)).trans ((handOver_frame _ _ _ _).mono (by simp))

/-- Whatever the report meets, it moves the entries, the accounts and the pattern table alone. -/
theorem matchReport_frame (r : ItemReport) (s : State) :
    SameExcept [.patterns, .map, .dests, .counters] s (matchReport r s) := by
  unfold matchReport
  split
  · exact (sameExcept_raise _ s).mono (by simp)
  · exact ((forEach_giveUp_frame _ s).mono (by simp)).trans (takeReport_frame _ _ _)

/-- The PENDING entries bear distinct names, as the map's do. -/
theorem pending_refs_nodup {s : State} (h : MapLaw s) : ((pendingEntries s).map Entry.ref).Nodup :=
  (List.filter_sublist.map Entry.ref).nodup h.2

/-- The older PENDING entries have been given up when the report is taken, and the one that takes it stands as it was. -/
theorem givenUp_older {s : State} {older rest : List Entry} {e : Entry} (hm : MapLaw s)
    (hp : pendingEntries s = older ++ e :: rest) :
    GivenUp s older (forEach (older.map Entry.ref) giveUp s) ∧ s.find e.ref = some e ∧ e.ref ∉ older.map Entry.ref := by
  have distinct := pending_refs_nodup hm
  rw [hp, List.map_append, List.nodup_append] at distinct
  obtain ⟨nodup, -, apart⟩ := distinct
  have found : ∀ x ∈ older ++ e :: rest, s.find x.ref = some x := fun x hx =>
    find_of_mem hm.2 (mem_map_of_pending (hp ▸ hx))
  exact ⟨givenUp_forEach older nodup fun x hx => found x (by simp [hx]), found e (by simp),
    fun h => apart _ h e.ref (by simp) rfl⟩

/-- What the older entries have come to, and what the report makes of the one that takes it. -/
structure Reported (pl : List Byte) (s : State) (older : List Entry) (e : Entry) (t : State) : Prop where
  length : t.map.length = s.map.length
  others : ∀ r, r ≠ e.ref → r ∉ older.map Entry.ref → t.find r = s.find r
  matched : t.counter (.ofPart .reportsMatched) = min (s.counter (.ofPart .reportsMatched) + 1) 65535
  lost : t.counter (.ofPart .idLost) = if older = [] then s.counter (.ofPart .idLost)
    else min (s.counter (.ofPart .idLost) + older.length) 65535
  patterns : t.patterns = reportedTable (readReport pl) s.patterns
  found : ∀ (before : List Entry) (x : Entry) (after : List Entry), older = before ++ x :: after →
    t.find x.ref = some (decidedEntry (decidedInTurn (before.map Entry.unnamed) s) x.unnamed none)
  taken : t.find e.ref = some (decidedEntry (decidedInTurn (older.map Entry.unnamed) s)
    (identified s.settings.threshold s.patterns (readReport pl) e) none)
  accounts : DecidesAs (decidedAccounts (decidedInTurn (older.map Entry.unnamed) s)
    (identified s.settings.threshold s.patterns (readReport pl) e) none) t

theorem reported_takeReport (pl : List Byte) {s u : State} {older : List Entry} {e : Entry} (h : GivenUp s older u)
    (frame : SameExcept [.map, .dests, .counters] s u) (he : s.find e.ref = some e) (hn : e.ref ∉ older.map Entry.ref) :
    Reported pl s older e (takeReport e.ref (readReport pl) u) := by
  have settings : u.settings = s.settings := frame .settings (by simp)
  have patterns : u.patterns = s.patterns := frame .patterns (by simp)
  have hu : (u.withPatterns (reportedTable (readReport pl) s.patterns)).find e.ref = some e := (h.others _ hn).trans he
  have decides : DecidesAs (decidedInTurn (older.map Entry.unnamed) s)
      (u.withPatterns (reportedTable (readReport pl) s.patterns)) :=
    ⟨h.decides.p, h.decides.gates, h.decides.routes, h.decides.accounts⟩
  have tag := identified_tag s.settings.threshold s.patterns (readReport pl)
  rw [takeReport_eq, settings, patterns]
  refine ⟨?_, fun r hr ho => ?_, ?_, ?_, ?_, fun before x after hx => ?_, ?_, handOver_decides _ tag hu decides⟩
  · rw [handOver_length _ tag hu]; exact h.length
  · rw [handOver_others _ tag hu r hr]; exact h.others r ho
  · rw [handOver_counter, if_pos rfl, withPatterns_counter, h.counted _ (by simp)]
  · rw [handOver_counter, if_neg (by simp), withPatterns_counter, h.lost]
  · exact handOver_frame _ _ _ _ .patterns (by simp)
  · have hne : x.ref ≠ e.ref := fun hr => hn (hr ▸ List.mem_map_of_mem (by simp [hx]))
    rw [handOver_others _ tag hu x.ref hne]; exact h.found before x after hx
  · rw [handOver_find _ tag hu, decides.entry_eq]

/-- Settles O17: what every report does, one that is unmatched, and one that is matched behind older entries. -/
theorem itemReportIsMatchedOrCounted : Obligations.ItemReportIsMatchedOrCounted := by
  intro s tag pl hr hl
  have frame := matchReport_frame (readReport pl) (heardReport s)
  have receiver : ∀ p, (settle (matchReport (readReport pl) (heardReport s))).receiver p
      = if p = .identifier then {} else s.receiver p := fun p => by
    have h : (matchReport (readReport pl) (heardReport s)).receivers = (heardReport s).receivers :=
      frame .receivers (by simp)
    rw [settle_receiver, State.receiver, h]
    exact heardReport_receiver s p
  refine ⟨_, exec_itemReport hr hl, ?_, receiver .identifier, fun q => receiver (.sender q), fun hn => ?_,
    fun older e rest hm hp ho he => ?_⟩
  · rw [settle_matcher]
    exact frame .matcher (by simp)
  · rw [matchReport_unmatched (s := heardReport s) (r := readReport pl) hn]
    refine ⟨((heardReport_frame s).trans ((sameExcept_raise _ _).mono (by simp))).settled, Raised.settled fun c => ?_⟩
    rw [raisePart_eq, raise_counter, heardReport_counter]
    by_cases hc : c = .ofPort .identifier .framesGood
    · simp [hc]
    · simp [hc]
  · obtain ⟨given, found, apart⟩ := givenUp_older (s := heardReport s) hm hp
    have reported := reported_takeReport pl given (forEach_giveUp_frame _ _) found apart
    rw [← matchReport_matched (s := heardReport s) (r := readReport pl) hp ho he] at reported
    have turn := fun l : List Entry => (heardReport_decides s).inTurn (l.map Entry.unnamed)
    have part : ∀ c, (heardReport s).counter (.ofPart c) = s.counter (.ofPart c) := fun c => by
      rw [heardReport_counter, if_neg (by simp)]
    refine ⟨?_, ?_, fun r hre hro => ?_, ?_, ?_, fun h => ?_, fun x h0 h => ?_, fun before x after hx => ?_, ?_, ?_⟩
    · exact (((heardReport_frame s).mono (by simp)).trans (frame.mono (by simp))).settled
    · rw [settle_map, reported.length]; rfl
    · rw [settle_find, reported.others r hre fun h => ?_]
      · rfl
      · obtain ⟨x, hx, rfl⟩ := List.mem_map.mp h
        exact hro x hx rfl
    · rw [settle_counter, reported.matched, part]
    · rw [settle_counter, reported.lost, part]
    · rw [settle_patterns, reported.patterns]; exact reportedTable_miss h
    · rw [settle_patterns, reported.patterns]; exact reportedTable_hit h0 h
    · rw [settle_find, reported.found before x after hx, (turn before).entry_eq]
    · rw [settle_find, reported.taken, (turn older).entry_eq, identified_readReport]; rfl
    · have accounts := ((turn older).decided (identified s.settings.threshold s.patterns (readReport pl) e) none).trans
        reported.accounts
      rw [identified_readReport] at accounts
      exact accounts.settled

end Sys2Proof.Machine
end

section
/-! SUPPORT. The admission checks in the order in which they stand, and what a request that one of them turns away is answered (R38, R75, R162, R173, R179). -/

namespace Sys2Proof.Machine

/-! ### A request frame with room for its reply -/

/-- With room in the reply queue, a request of the table is answered as the greeted state serves it, whatever comes of it (R162, R163). -/
theorem exec_answered (k : Kind) {q : Sender} (tag : Byte) (pl : List Byte) {s : State} (hr : s.inReset = false)
    (hq : (s.link q).replies.length < 8) : exec (k.command (.sender q) tag pl) s
      = .next (settle (queueReply q tag k.code (serveKind k (handlerOf k) q pl (greeted q s)))) := by
  have room : ¬8 ≤ ((hunt (.sender q) s).link q).replies.length := by simp only [hunt, modReceiver_link]; omega
  by_cases hk : k = .itemReport
  · subst hk
    have foreign : Kind.itemReport.takenFrom q = false := by cases q <;> rfl
    calc exec (Kind.itemReport.command (.sender q) tag pl) s
        = event (fun u => takeUnknown (.sender q) Kind.itemReport.code tag (hunt (.sender q) u)) s := rfl
      _ = _ := by
        rw [event_next _ _ hr]
        simp only [takeUnknown, takeOnPort, room, if_false, serveKind, foreign]
        rfl
  · rw [exec_command hk, frameEvent, event_next _ _ hr]
    simp only [takeRequest, takeOnPort, room, if_false]
    rfl

/-- A request answered without its owning block changes nothing, and its reply is owed. -/
theorem exec_unserved {k : Kind} {q : Sender} {tag : Byte} {pl : List Byte} {s : State} {status : Status}
    {result : List Byte} (hr : s.inReset = false) (hq : (s.link q).replies.length < 8)
    (h : serveKind k (handlerOf k) q pl (greeted q s) = ⟨greeted q s, status, result⟩) :
    ∃ t, exec (k.command (.sender q) tag pl) s = .next t ∧ Took q [] s t ∧ Replied s t q tag k status result := by
  obtain ⟨took, -, -, replied⟩ := unchanged_settled q tag k s status result
  exact ⟨_, by rw [exec_answered k tag pl hr hq, h], took, replied⟩

/-! ### The checks in their order (R173) -/

/-- A kind that is not taken on the port is refused before any check. -/
theorem serveKind_foreign {k : Kind} {q : Sender} (handle : Sender → List Byte → State → Answer) (pl : List Byte)
    (s : State) (h : k.takenFrom q = false) : serveKind k handle q pl s = ⟨s, .unknownKind, []⟩ := by
  simp [serveKind, h, refuse]

/-- A check that fails gives the status, and the result is what the kind carries. -/
theorem serveKind_turnedAway {k : Kind} {q : Sender} (handle : Sender → List Byte → State → Answer) {pl : List Byte}
    {s : State} {status : Status} (hk : k.takenFrom q = true) (h : admission k q pl (greeted q s) = some status) :
    serveKind k handle q pl (greeted q s) = ⟨greeted q s, status, turnedAwayResult k q pl s⟩ := by
  simp only [serveKind, hk, if_true, h, turnAway, turnedAwayResult_greeted]

/-- A link that is QUIET hears the frame and is ACTIVE, so the check of the link reads as before the frame. -/
theorem greeted_hearing (q : Sender) (s : State) :
    (((greeted q s).link q).state ≠ .active ∧ ((greeted q s).link q).state ≠ .quiet)
      ↔ ((s.link q).state ≠ .active ∧ (s.link q).state ≠ .quiet) := by
  rw [greeted_link]
  by_cases h : (s.link q).state = .quiet <;> simp [h]

theorem commissioned_eq_false {s : State} : s.commissioned = false ↔ s.belt.state = .unconfigured := by
  simp [State.commissioned]

section
variable {k : Kind} {q : Sender} {pl : List Byte} {s : State} (ht : k.isTraining = false)
include ht

theorem admission_notActive (hl : (s.link q).state ≠ .active ∧ (s.link q).state ≠ .quiet) :
    admission k q pl (greeted q s) = some .notActive := by
  simp only [admission, ht, Bool.false_eq_true, if_false, greeted_hearing, if_pos hl]

section
variable (hl : ¬((s.link q).state ≠ .active ∧ (s.link q).state ≠ .quiet))
include hl

/-- A station waits for COMMISSION with every request. -/
theorem admission_station_notReady (hq : q ≠ .site) (hu : s.belt.state = .unconfigured) :
    admission k q pl (greeted q s) = some .notReady := by
  simp only [admission, ht, Bool.false_eq_true, if_false, greeted_hearing, if_neg hl]
  cases q with
  | site => exact absurd rfl hq
  | station st => simp [commissioned_eq_false.mpr hu]

theorem admission_argument (hu : ¬(q ≠ .site ∧ s.belt.state = .unconfigured)) (hf : k.payloadFits q pl = false) :
    admission k q pl (greeted q s) = some .argument := by
  simp only [admission, ht, Bool.false_eq_true, if_false, greeted_hearing, if_neg hl]
  cases q with
  | site => simp [hf]
  | station st =>
    have hc : s.commissioned = true := Bool.of_not_eq_false fun h => hu ⟨by simp, commissioned_eq_false.mp h⟩
    simp [hf, hc]

/-- The site waits for COMMISSION with the requests of its table (R179). -/
theorem admission_site_notReady (hq : q = .site) (hf : k.payloadFits q pl = true) (hw : k.waitsForCommission = true)
    (hu : s.belt.state = .unconfigured) : admission k q pl (greeted q s) = some .notReady := by
  simp only [admission, ht, Bool.false_eq_true, if_false, greeted_hearing, if_neg hl]
  subst hq
  simp [hf, hw, commissioned_eq_false.mpr hu]

end
end

/-- Settles O46: the greeted state meets the checks as the state before the frame would, each check that fails turns the request away, and a kind of another port is refused before them. -/
theorem admissionTurnsAway : Obligations.AdmissionTurnsAway := by
  intro s q k tag pl hr hq hello goodbye carried
  have ht : k.isTraining = false := by simp [Kind.isTraining, hello, goodbye]
  have hc : turnedAwayResult k q pl s = carried := by
    cases hf : k.payloadFits q pl <;> cases q <;>
      simp [turnedAwayResult, carried, hf, patternCounts, routeMembers, listMembers]
  have turnedAway : ∀ status, k.takenFrom q = true → admission k q pl (greeted q s) = some status →
      ∃ t, exec (k.command (.sender q) tag pl) s = .next t ∧ Took q [] s t ∧ Replied s t q tag k status carried :=
    fun status hk ha => exec_unserved hr hq (hc ▸ serveKind_turnedAway _ hk ha)
  by_cases hk : k.takenFrom q = false
  · simpa only [if_pos hk] using exec_unserved hr hq (serveKind_foreign _ _ _ hk)
  have hk' : k.takenFrom q = true := by simpa using hk
  simp only [if_neg hk]
  by_cases hl : (s.link q).state ≠ .active ∧ (s.link q).state ≠ .quiet
  · simpa only [if_pos hl] using turnedAway _ hk' (admission_notActive ht hl)
  simp only [if_neg hl]
  by_cases hu : q ≠ .site ∧ s.belt.state = .unconfigured
  · simpa only [if_pos hu] using turnedAway _ hk' (admission_station_notReady ht hl hu.1 hu.2)
  simp only [if_neg hu]
  by_cases hf : k.payloadFits q pl = false
  · simpa only [if_pos hf] using turnedAway _ hk' (admission_argument ht hl hu hf)
  simp only [if_neg hf]
  by_cases hw : q = .site ∧ k.waitsForCommission = true ∧ s.belt.state = .unconfigured
  · simpa only [if_pos hw] using
      turnedAway _ hk' (admission_site_notReady ht hl hw.1 (by simpa using hf) hw.2.1 hw.2.2)
  · simpa only [if_neg hw, and_true] using ⟨_, exec_answered k tag pl hr hq⟩

end Sys2Proof.Machine
end

section
/-! SUPPORT. The requests of the pattern table: the code they name, what an answer of the table leaves as the event ends, and the removals (R38, R41, R47, R48). -/

namespace Sys2Proof.Machine

/-! ### The code of a request (R157) -/

/-- The first word of a payload is the code, most significant byte first. -/
theorem code_of_bytes (hi lo : Byte) (rest : List Byte) :
    BitVec.ofNat 16 (wordAt (hi :: lo :: rest) 0) = (hi ++ lo : Word16) := by
  have h := hi.isLt
  have l := lo.isLt
  apply BitVec.eq_of_toNat_eq
  rw [BitVec.toNat_append, BitVec.toNat_ofNat, Nat.shiftLeft_eq, Nat.mul_comm,
    ← Nat.two_pow_add_eq_or_of_lt (i := 8) l]
  simp only [wordAt, byteAt, List.getD_cons_zero, List.getD_cons_succ]
  omega

theorem code_eq_zero (hi lo : Byte) : (hi ++ lo : Word16) = 0 ↔ hi = 0 ∧ lo = 0 := by
  rw [← code_of_bytes hi lo [], pattern_eq_zero]
  have zero : ∀ b : Byte, b = 0 ↔ b.toNat = 0 := fun b => by rw [← BitVec.toNat_inj]; rfl
  simp only [wordAt, byteAt, List.getD_cons_zero, List.getD_cons_succ, zero]
  omega

/-! ### Answers of the table (R38) -/

theorem patternCounts_congr {s t : State} (st : Station) (h : t.patterns = s.patterns) :
    patternCounts st t = patternCounts st s := by simp only [patternCounts, h]

section
variable (st : Station) (tag : Byte) (k : Kind) (s : State) (status : Status)

/-- A request refused, or done with no change, is answered with the counts of the table. -/
theorem counts_settled :
    let t := settle (queueReply (.station st) tag k.code (patternReply st status (greeted (.station st) s)))
    Took (.station st) [] s t ∧ Replied s t (.station st) tag k status (patternCounts st s) := by
  obtain ⟨took, -, -, replied⟩ := unchanged_settled (.station st) tag k s status (patternCounts st s)
  have same : patternReply st status (greeted (.station st) s)
      = ⟨greeted (.station st) s, status, patternCounts st s⟩ := by
    rw [patternReply, patternCounts_congr st (greeted_patterns _ s)]
  rw [same]
  exact ⟨took, replied⟩

/-- A request that changes the table is answered with the counts after it. -/
theorem table_settled (l : List PatternEntry) :
    let t := settle (queueReply (.station st) tag k.code
      (patternReply st status ((greeted (.station st) s).withPatterns l)))
    Took (.station st) [.patterns] s t ∧ t.patterns = l
      ∧ Replied s t (.station st) tag k status (patternCounts st t) := by
  obtain ⟨took, -, -, replied⟩ := answer_settled tag k (a := patternReply st status ((greeted (.station st) s).withPatterns l))
    (sameExcept_withPatterns l (greeted (.station st) s)) rfl
  have patterns := settle_patterns (queueReply (.station st) tag k.code
    (patternReply st status ((greeted (.station st) s).withPatterns l)))
  refine ⟨took, patterns, ?_⟩
  rw [patternCounts_congr st patterns]
  exact replied

end

/-- The site holds no code: its requests on them are NOT_OWNER with no result in every belt state (R41, R47; log 29). -/
theorem site_notOwner {k : Kind} {pl : List Byte} {s : State} (hs : Served s .site) (tag : Byte)
    (hk : k = .registerPattern ∨ k = .dropPattern) (hf : k.payloadFits .site pl = true) :
    ∃ t, exec (k.command (.sender .site) tag pl) s = .next t ∧ Took .site [] s t
      ∧ Replied s t .site tag k .notOwner [] := by
  obtain ⟨taken, early, known⟩ : k.takenFrom .site = true ∧ k.waitsForCommission = false ∧ k ≠ .itemReport := by
    rcases hk with rfl | rfl <;> decide
  have refused : handlerOf k .site pl (greeted .site s) = ⟨greeted .site s, .notOwner, []⟩ := by
    rcases hk with rfl | rfl <;> rfl
  obtain ⟨took, -, -, replied⟩ := unchanged_settled .site tag k s .notOwner []
  exact ⟨_, by rw [exec_served hs (admissible_site k pl s hs taken hf early) known, refused], took, replied⟩

/-! ### Removals (R47, R48) -/

/-- DROP-PATTERN of a station, over the code its payload names. -/
theorem handleDropPattern_station (st : Station) (hi lo : Byte) (s : State) :
    handleDropPattern (.station st) [hi, lo] s = if hi = 0 ∧ lo = 0 then patternReply st .argument s
      else match patternOf (hi ++ lo) s.patterns with
      | none => patternReply st .done s
      | some e =>
        if e.owner = st then patternReply st .done (s.withPatterns (withoutPattern (hi ++ lo) s.patterns))
        else patternReply st .notOwner s := by
  simp only [handleDropPattern, code_of_bytes, code_eq_zero] <;> rfl

theorem dropPattern_station (tag hi lo : Byte) {st : Station} {s : State} (hs : ServedCommissioned s (.station st)) :
    ∃ t, exec (.dropPattern (.sender (.station st)) tag [hi, lo]) s = .next t
      ∧ (if hi = 0 ∧ lo = 0 then
          Took (.station st) [] s t ∧ Replied s t (.station st) tag .dropPattern .argument (patternCounts st s)
        else match patternOf (hi ++ lo) s.patterns with
          | none => Took (.station st) [] s t
              ∧ Replied s t (.station st) tag .dropPattern .done (patternCounts st s)
          | some e =>
            if e.owner = st then
              Took (.station st) [.patterns] s t
                ∧ t.patterns = s.patterns.filter (fun x => x.code != (hi ++ lo : Word16))
                ∧ Replied s t (.station st) tag .dropPattern .done (patternCounts st t)
            else Took (.station st) [] s t
              ∧ Replied s t (.station st) tag .dropPattern .notOwner (patternCounts st s)) := by
  have served := exec_served (k := .dropPattern) (tag := tag) hs.1
    (admissible_commissioned .dropPattern _ [hi, lo] s hs rfl rfl) (by decide)
  have counts := counts_settled st tag .dropPattern s
  refine ⟨_, served, ?_⟩
  rw [handlerOf, handleDropPattern_station, greeted_patterns]
  by_cases h0 : hi = 0 ∧ lo = 0
  · simp only [if_pos h0]
    exact counts .argument
  simp only [if_neg h0]
  cases patternOf (hi ++ lo) s.patterns with
  | none => exact counts .done
  | some e =>
    by_cases ho : e.owner = st
    · simp only [if_pos ho]
      exact table_settled st tag .dropPattern s .done (withoutPattern (hi ++ lo) s.patterns)
    · simp only [if_neg ho]
      exact counts .notOwner

theorem clearPatterns_site (tag x : Byte) {s : State} (hs : Served s .site) :
    ∃ t, exec (.clearPatterns (.sender .site) tag [x]) s = .next t
      ∧ (if s.belt.state = .unconfigured then
          Took .site [] s t ∧ Replied s t .site tag .clearPatterns .notReady []
        else match inRange? 6 x.toNat with
          | none => Took .site [] s t ∧ Replied s t .site tag .clearPatterns .argument []
          | some st => Took .site [.patterns] s t
              ∧ t.patterns = s.patterns.filter (fun e => e.owner != st)
              ∧ Replied s t .site tag .clearPatterns .done [byteOf (patternCount st s.patterns)]) := by
  have unchanged := fun status => unchanged_settled .site tag .clearPatterns s status []
  by_cases hu : s.belt.state = .unconfigured
  · obtain ⟨took, -, -, replied⟩ := unchanged .notReady
    exact ⟨_, exec_notReady (k := .clearPatterns) hs hu rfl rfl rfl rfl, by rw [if_pos hu]; exact ⟨took, replied⟩⟩
  · refine ⟨_, exec_served (k := .clearPatterns) hs (admissible_commissioned _ _ _ s ⟨hs, hu⟩ rfl rfl) (by decide), ?_⟩
    rw [if_neg hu]
    simp only [handlerOf, handleClearPatterns, byteAt, List.getD_cons_zero, greeted_patterns]
    cases inRange? 6 x.toNat with
    | none =>
      obtain ⟨took, -, -, replied⟩ := unchanged .argument
      exact ⟨took, replied⟩
    | some st =>
      obtain ⟨took, -, -, replied⟩ := answer_settled tag .clearPatterns
        (a := ⟨(greeted .site s).withPatterns (s.patterns.filter fun e => e.owner != st), .done,
          [byteOf (patternCount st s.patterns)]⟩) (sameExcept_withPatterns _ (greeted .site s)) rfl
      exact ⟨took, settle_patterns _, replied⟩

/-- Settles O41: a removal filters the table and offers no notice, and each refusal leaves the table as it was. -/
theorem patternRemoval : Obligations.PatternRemoval := fun _ tag hi lo =>
  ⟨fun _ hs => dropPattern_station tag hi lo hs, fun hs => site_notOwner hs tag (.inr rfl) rfl,
    fun hs => clearPatterns_site tag hi hs⟩

end Sys2Proof.Machine
end

section
/-! SUPPORT. What an operation keeps of the tables and the queues: the laws of the pattern table, of the fire queues and of GATE_OUT, and the queues' bounds, as one relation between the state before and the state after (R38, R110, R122, R123, R139, R163, R174). -/

namespace Sys2Proof.Machine

/-! ### The fire queues over the map -/

/-- What a fire queue reads of an entry. -/
def Entry.fireView (e : Entry) : EntryState × Option Target × Option Pos := (e.state, e.dest, e.fireAt)

/-- No fire queue names the entry. -/
def Unqueued (r : EntryRef) (s : State) : Prop := ∀ g, r ∉ (s.gate g).queue

/-- The law of the fire queues, over a map in which no name stands twice (R51, R122, R123). -/
structure FireSound (s : State) : Prop where
  names : (s.map.map Entry.ref).Nodup
  fire : FireLaw s

/-- A queued entry is found, ARMED, bound for the queue's gate. -/
theorem FireSound.queued {s : State} (h : FireSound s) {g : GateId} {r : EntryRef} (hr : r ∈ (s.gate g).queue) :
    ∃ e, s.find r = some e ∧ e.state = .armed ∧ e.gate? = some g := by
  obtain ⟨e, he, hs, hg, -⟩ := (h.fire g).2.1 r hr
  exact ⟨e, he, hs, hg⟩

/-- An entry that is not ARMED stands in no fire queue. -/
theorem FireSound.unqueued_of_state {s : State} (h : FireSound s) {r : EntryRef} {e : Entry} (hf : s.find r = some e)
    (hs : e.state ≠ .armed) : Unqueued r s := fun g hr => by
  obtain ⟨x, hx, ha, -⟩ := h.queued hr
  rw [hf] at hx
  cases hx
  exact hs ha

/-- An entry stands in no fire queue but that of its gate. -/
theorem FireSound.gate_of_queued {s : State} (h : FireSound s) {r : EntryRef} {e : Entry} (hf : s.find r = some e)
    {g : GateId} (hr : r ∈ (s.gate g).queue) : e.gate? = some g := by
  obtain ⟨x, hx, -, hg⟩ := h.queued hr
  rw [hf] at hx
  cases hx
  exact hg

theorem fireAtOf_congr {s t : State} {r : EntryRef}
    (h : (t.find r).map Entry.fireView = (s.find r).map Entry.fireView) : fireAtOf t r = fireAtOf s r := by
  have view : ∀ o : Option Entry, o.bind Entry.fireAt = (o.map Entry.fireView).bind fun v => v.2.2 := fun o => by
    cases o <;> rfl
  simp only [fireAtOf, view, h]

/-- Queues that lose members keep their law, as long as those that stay read the same in the map. -/
theorem FireSound.of_queues {s t : State} (h : FireSound s) (names : (t.map.map Entry.ref).Nodup)
    (p : t.belt.p = s.belt.p) (queue : ∀ g, (t.gate g).queue.Sublist (s.gate g).queue)
    (found : ∀ g, ∀ r ∈ (t.gate g).queue, (t.find r).map Entry.fireView = (s.find r).map Entry.fireView) :
    FireSound t where
  names := names
  fire g := by
    obtain ⟨nodup, armed, order⟩ := h.fire g
    refine ⟨nodup.sublist (queue g), fun r hr => ?_, (order.sublist (queue g)).imp_of_mem fun hx hy hle => ?_⟩
    · obtain ⟨e, he, hs, hg, hf⟩ := armed r ((queue g).subset hr)
      have view := found g r hr
      rw [he] at view
      obtain ⟨e', he', hv⟩ := Option.map_eq_some_iff.mp view
      simp only [Entry.fireView, Prod.mk.injEq] at hv
      obtain ⟨vs, vd, vf⟩ := hv
      refine ⟨e', he', vs.trans hs, ?_, by rw [vf]; exact hf⟩
      simpa only [Entry.gate?, vd] using hg
    · have same : ∀ r ∈ (t.gate g).queue, fireAhead t r = fireAhead s r := fun r hr => by
        simp only [fireAhead, fireAtOf_congr (found g r hr), p]
      rw [same _ hx, same _ hy]
      exact hle

/-! ### The relation -/

/-- Bounds and laws of the queues and of the pattern table, from a state to a later one. The fire queues, the awaiting-confirm queues and the reply queues lose members at most. -/
structure QueuesKept (s t : State) : Prop where
  patterns : PatternLaw s → PatternLaw t
  fire : FireSound s → FireSound t
  queue : ∀ g, (t.gate g).queue.Sublist (s.gate g).queue
  awaiting : ∀ d, (t.dest d).awaiting.length ≤ (s.dest d).awaiting.length
  replies : ∀ q, (t.link q).replies.length ≤ (s.link q).replies.length
  places : ∀ st, (s.noticeQueue st).places.length ≤ 16 → (t.noticeQueue st).places.length ≤ 16

/-- The same, with the law of GATE_OUT. -/
structure TablesKept (s t : State) : Prop extends QueuesKept s t where
  gateOut : GateOutLaw s → GateOutLaw t

theorem queuesKept_refl (s : State) : QueuesKept s s :=
  ⟨id, id, fun _ => .refl _, fun _ => le_rfl, fun _ => le_rfl, fun _ => id⟩

theorem QueuesKept.trans {s t u : State} (h : QueuesKept s t) (k : QueuesKept t u) : QueuesKept s u where
  patterns := k.patterns ∘ h.patterns
  fire := k.fire ∘ h.fire
  queue g := (k.queue g).trans (h.queue g)
  awaiting d := (k.awaiting d).trans (h.awaiting d)
  replies q := (k.replies q).trans (h.replies q)
  places st := k.places st ∘ h.places st

theorem tablesKept_refl (s : State) : TablesKept s s := ⟨queuesKept_refl s, id⟩

theorem TablesKept.trans {s t u : State} (h : TablesKept s t) (k : TablesKept t u) : TablesKept s u :=
  ⟨h.toQueuesKept.trans k.toQueuesKept, k.gateOut ∘ h.gateOut⟩

/-- What leaves a fire queue does not come back. -/
theorem QueuesKept.unqueued {s t : State} (h : QueuesKept s t) {r : EntryRef} (hr : Unqueued r s) : Unqueued r t :=
  fun g hm => hr g ((h.queue g).subset hm)

theorem forEach_queuesKept {α : Type} {f : α → State → State} (h : ∀ x s, QueuesKept s (f x s)) (l : List α)
    (s : State) : QueuesKept s (forEach l f s) :=
  forEach_invariant (QueuesKept s) f l (fun x _ u hu => hu.trans (h x u)) s (queuesKept_refl s)

theorem forEach_tablesKept {α : Type} {f : α → State → State} (h : ∀ x s, TablesKept s (f x s)) (l : List α)
    (s : State) : TablesKept s (forEach l f s) :=
  forEach_invariant (TablesKept s) f l (fun x _ u hu => hu.trans (h x u)) s (tablesKept_refl s)

/-! ### Single changes -/

/-- All that the laws read. -/
structure Tables where
  p : Pos
  patterns : List PatternEntry
  map : List Entry
  dests : Vector Dest 24
  gates : Vector Gate 12
  links : Vector Link 7
  notices : Vector NoticeQueue 6

/-- That part of a state. -/
def State.tables (s : State) : Tables := ⟨s.belt.p, s.patterns, s.map, s.dests, s.gates, s.links, s.notices⟩

theorem gateOutLaw_congr {s t : State} (hd : ∀ d, (t.dest d).holds.gateOut = (s.dest d).holds.gateOut)
    (hg : ∀ g, (t.gate g).service = (s.gate g).service) (h : GateOutLaw s) : GateOutLaw t := fun d => by
  rw [hd, hg]; exact h d

/-- A change of the fire queues and the map, by what the queues that remain read of it. -/
theorem queuesKept_of_fire {s t : State} (hp : t.belt.p = s.belt.p) (patterns : t.patterns = s.patterns)
    (dests : t.dests = s.dests) (links : t.links = s.links) (notices : t.notices = s.notices)
    (names : FireSound s → (t.map.map Entry.ref).Nodup) (queue : ∀ g, (t.gate g).queue.Sublist (s.gate g).queue)
    (found : FireSound s → ∀ g, ∀ r ∈ (t.gate g).queue,
      (t.find r).map Entry.fireView = (s.find r).map Entry.fireView) : QueuesKept s t where
  patterns h := by unfold PatternLaw; rw [patterns]; exact h
  fire h := h.of_queues (names h) hp queue (found h)
  queue := queue
  awaiting d := by simp only [State.dest, dests, le_refl]
  replies q := by simp only [State.link, links, le_refl]
  places st h := by simpa only [State.noticeQueue, notices] using h

/-- A change of none of the tables. -/
theorem tablesKept_of_tables {s t : State} (h : t.tables = s.tables) : TablesKept s t := by
  simp only [State.tables, Tables.mk.injEq] at h
  obtain ⟨hp, patterns, map, dests, gates, links, notices⟩ := h
  have gate : ∀ g, t.gate g = s.gate g := fun g => by simp only [State.gate, gates]
  refine ⟨queuesKept_of_fire hp patterns dests links notices (fun h => by rw [map]; exact h.names)
    (fun g => by rw [gate]) fun _ g r _ => by simp only [State.find, map], ?_⟩
  exact gateOutLaw_congr (fun d => by simp only [State.dest, dests]) fun g => by rw [gate]

theorem modDest_queuesKept {s : State} {d : DestId} {f : Dest → Dest}
    (h : (f (s.dest d)).awaiting.length ≤ (s.dest d).awaiting.length) : QueuesKept s (s.modDest d f) :=
  { tablesKept_refl s with
    awaiting := fun x => by
      rw [modDest_dest]; split
      · next e => subst e; exact h
      · exact le_rfl
    fire := fun hs => hs.of_queues hs.names rfl (fun _ => .refl _) fun _ _ _ => rfl }

theorem modDest_tablesKept {s : State} {d : DestId} {f : Dest → Dest}
    (h : (f (s.dest d)).awaiting.length ≤ (s.dest d).awaiting.length)
    (hg : (f (s.dest d)).holds.gateOut = (s.dest d).holds.gateOut) : TablesKept s (s.modDest d f) :=
  ⟨modDest_queuesKept h, gateOutLaw_congr (fun x => by
    rw [modDest_dest]; split
    · next e => subst e; exact hg
    · rfl) fun _ => rfl⟩

theorem modGate_queuesKept {s : State} {g : GateId} {f : Gate → Gate}
    (h : (f (s.gate g)).queue.Sublist (s.gate g).queue) : QueuesKept s (s.modGate g f) :=
  queuesKept_of_fire rfl rfl rfl rfl rfl FireSound.names (fun x => by
    rw [modGate_gate]; split
    · next e => subst e; exact h
    · exact .refl _) fun _ _ _ _ => rfl

theorem modGate_tablesKept {s : State} {g : GateId} {f : Gate → Gate}
    (h : (f (s.gate g)).queue.Sublist (s.gate g).queue) (hs : (f (s.gate g)).service = (s.gate g).service) :
    TablesKept s (s.modGate g f) :=
  ⟨modGate_queuesKept h, gateOutLaw_congr (fun _ => rfl) fun x => by
    rw [modGate_gate]; split
    · next e => subst e; exact hs
    · rfl⟩

theorem modLink_tablesKept {s : State} {q : Sender} {f : Link → Link}
    (h : (f (s.link q)).replies.length ≤ (s.link q).replies.length) : TablesKept s (s.modLink q f) :=
  { tablesKept_refl s with
    fire := fun hs => hs.of_queues hs.names rfl (fun _ => .refl _) fun _ _ _ => rfl
    replies := fun x => by
      rw [modLink_link]; split
      · next e => subst e; exact h
      · exact le_rfl }

theorem modNotices_tablesKept {s : State} {st : Station} {f : NoticeQueue → NoticeQueue}
    (h : (s.noticeQueue st).places.length ≤ 16 → (f (s.noticeQueue st)).places.length ≤ 16) :
    TablesKept s (s.modNotices st f) :=
  { tablesKept_refl s with
    fire := fun hs => hs.of_queues hs.names rfl (fun _ => .refl _) fun _ _ _ => rfl
    places := fun x => by
      rw [modNotices_noticeQueue]; split
      · next e => subst e; exact h
      · exact id }

theorem withPatterns_tablesKept {s : State} {l : List PatternEntry} (h : PatternLaw s → PatternLaw (s.withPatterns l)) :
    TablesKept s (s.withPatterns l) :=
  { tablesKept_refl s with
    patterns := h
    fire := fun hs => hs.of_queues hs.names rfl (fun _ => .refl _) fun _ _ _ => rfl }

/-- A change of the map alone, by its names and by what the queued names read of it. -/
theorem withMap_tablesKept {s : State} {m : List Entry} (names : (s.map.map Entry.ref).Nodup → (m.map Entry.ref).Nodup)
    (found : FireSound s → ∀ g, ∀ r ∈ (s.gate g).queue,
      ((s.withMap m).find r).map Entry.fireView = (s.find r).map Entry.fireView) : TablesKept s (s.withMap m) :=
  ⟨queuesKept_of_fire rfl rfl rfl rfl rfl (fun h => names h.names) (fun _ => .refl _) found, fun h => h⟩

theorem modEntry_names {f : Entry → Entry} (hf : ∀ e, (f e).tag = e.tag) (r : EntryRef) (l : List Entry) :
    (updateEntry r f l).map Entry.ref = l.map Entry.ref :=
  refs_updateEntry fun e _ he => (ref_of_tag hf e).trans he

/-- A change of the map keeps the queues' law where the names that are queued read the same of it. -/
theorem FireSound.withMap {s : State} (h : FireSound s) {m : List Entry} (names : (m.map Entry.ref).Nodup)
    (found : ∀ g, ∀ r ∈ (s.gate g).queue, ((s.withMap m).find r).map Entry.fireView = (s.find r).map Entry.fireView) :
    FireSound (s.withMap m) :=
  h.of_queues names rfl (fun _ => .refl _) found

/-- An entry that no fire queue names may be changed at will, but for its name. -/
theorem TablesKept.modEntry {s₀ s : State} (h : TablesKept s₀ s) {r : EntryRef} {f : Entry → Entry}
    (hf : ∀ e, (f e).tag = e.tag) (hr : FireSound s₀ → Unqueued r s) : TablesKept s₀ (s.modEntry r f) :=
  { h with
    fire := fun h₀ => (h.fire h₀).withMap (by rw [modEntry_names hf]; exact (h.fire h₀).names) fun g x hx => by
      have hfind : (s.withMap (updateEntry r f s.map)).find x = s.find x :=
        find_updateEntry_ne (fun e : x = r => hr h₀ g (e ▸ hx)) fun e _ he => (ref_of_tag hf e).trans he
      rw [hfind] }

/-- Any entry may be changed in what no fire queue reads. -/
theorem modEntry_unread {s : State} {r : EntryRef} {f : Entry → Entry} (hf : ∀ e, (f e).tag = e.tag)
    (hv : ∀ e, (f e).fireView = e.fireView) : TablesKept s (s.modEntry r f) :=
  withMap_tablesKept (fun h => by rwa [modEntry_names hf]) fun _ g x _ => by
    by_cases hx : x = r
    · subst hx
      cases h : s.find x with
      | none =>
        have hn : (s.withMap (updateEntry x f s.map)).find x = none := by
          rw [find_eq_none_iff] at h ⊢
          show x ∉ (updateEntry x f s.map).map Entry.ref
          rwa [modEntry_names hf]
        rw [hn]
      | some e =>
        have hs : (s.withMap (updateEntry x f s.map)).find x = some (f e) := find_updateEntry_self h (hf e)
        rw [hs, Option.map_some, Option.map_some, hv]
    · have hfind : (s.withMap (updateEntry r f s.map)).find x = s.find x :=
        find_updateEntry_ne hx fun e _ he => (ref_of_tag hf e).trans he
      rw [hfind]

theorem eraseEntry_sublist (r : EntryRef) (l : List Entry) : (eraseEntry r l).Sublist l := by
  induction l with
  | nil => exact .refl _
  | cons e l ih =>
    unfold eraseEntry
    split
    · exact List.sublist_cons_self e l
    · exact ih.cons_cons e

theorem eraseEntry_find_ne {r x : EntryRef} (hx : x ≠ r) (l : List Entry) :
    (eraseEntry r l).find? (fun e => e.ref == x) = l.find? fun e => e.ref == x := by
  induction l with
  | nil => rfl
  | cons e l ih =>
    unfold eraseEntry
    split
    · next he => simp [he, hx.symm]
    · simp only [List.find?_cons, ih]

/-- An entry that no fire queue names may leave the map. -/
theorem TablesKept.dropEntry {s₀ s : State} (h : TablesKept s₀ s) {r : EntryRef} (hr : FireSound s₀ → Unqueued r s) :
    TablesKept s₀ (s.dropEntry r) :=
  { h with
    fire := fun h₀ => (h.fire h₀).withMap ((h.fire h₀).names.sublist ((eraseEntry_sublist r s.map).map Entry.ref))
      fun g x hx => by
        have hfind : (s.withMap (eraseEntry r s.map)).find x = s.find x :=
          eraseEntry_find_ne (fun e : x = r => hr h₀ g (e ▸ hx)) s.map
        rw [hfind] }

/-- An entry whose name is not in the map may join it. -/
theorem joined_tablesKept {s : State} {e : Entry} (h : s.find e.ref = none) :
    TablesKept s (s.withMap (s.map ++ [e])) := by
  refine withMap_tablesKept (fun hn => ?_) fun hs g x hx => ?_
  · rw [List.map_append, List.nodup_append]
    refine ⟨hn, by simp, fun x hx y hy hxy => ?_⟩
    rw [List.map_singleton, List.mem_singleton] at hy
    exact find_eq_none_iff.mp h (hy ▸ hxy ▸ hx)
  · obtain ⟨y, hy, -⟩ := hs.queued hx
    have hfind : (s.withMap (s.map ++ [e])).find x = some y := by
      have hy' : (s.map.find? fun e => e.ref == x) = some y := hy
      simp [State.find, List.find?_append, hy']
    rw [hfind, hy]

end Sys2Proof.Machine
end

section
/-! SUPPORT. The shared operations keep the tables: notices, destination records, entries that are decided and rerouted, the token's end, the holds, and the chutes (R58, R91, R92, R107, R135, R139 to R147, R174, R175). -/

namespace Sys2Proof.Machine

/-! ### Notices and destination records -/

theorem raise_tablesKept (c : Counter) (s : State) : TablesKept s (s.raise c) := tablesKept_of_tables (by simp [State.tables])

theorem syncConditions_tablesKept (s : State) : TablesKept s (syncConditions s) :=
  tablesKept_of_tables (by simp [State.tables, syncConditions])

theorem offerDest_tablesKept (d : DestId) (s : State) : TablesKept s (offerDest d s) := by
  unfold offerDest
  split
  · split <;> [exact modNotices_tablesKept id; exact tablesKept_refl s]
  all_goals exact tablesKept_refl s

theorem offerLastDest_tablesKept (d : DestId) (o : Option Sender) (s : State) :
    TablesKept s (offerLastDest d o s) := by
  unfold offerLastDest
  split
  · split <;> [exact modNotices_tablesKept id; exact tablesKept_refl s]
  all_goals exact tablesKept_refl s

/-- A notice joins the places while they are below 16 (R174). -/
theorem offerNotice_tablesKept (st : Station) (n : Notice) (s : State) : TablesKept s (offerNotice st n s) := by
  unfold offerNotice
  split
  · split
    · next h => exact modNotices_tablesKept fun _ => by rw [List.length_append, List.length_singleton]; omega
    · exact raise_tablesKept _ s
  · exact tablesKept_refl s

theorem changeDest_queuesKept {d : DestId} {f : Dest → Dest} {s : State}
    (h : (f (s.dest d)).awaiting.length ≤ (s.dest d).awaiting.length) : QueuesKept s (changeDest d f s) := by
  unfold changeDest
  dsimp only
  split
  · exact modDest_queuesKept h
  · exact (modDest_queuesKept h).trans (offerDest_tablesKept d _).toQueuesKept

/-- A record that keeps its queue and GATE_OUT may be changed, whatever is offered for it. -/
theorem changeDest_tablesKept {d : DestId} {f : Dest → Dest} {s : State}
    (h : (f (s.dest d)).awaiting.length ≤ (s.dest d).awaiting.length)
    (hg : (f (s.dest d)).holds.gateOut = (s.dest d).holds.gateOut) : TablesKept s (changeDest d f s) := by
  unfold changeDest
  dsimp only
  split
  · exact modDest_tablesKept h hg
  · exact (modDest_tablesKept h hg).trans (offerDest_tablesKept d _)

theorem unreserve_tablesKept (d : DestId) (s : State) : TablesKept s (unreserve d s) := by
  have h : TablesKept s (s.modDest d fun r => { r with reserved := r.reserved - 1 }) := modDest_tablesKept le_rfl rfl
  unfold unreserve
  dsimp only
  split
  · exact h.trans (changeDest_tablesKept le_rfl rfl)
  · exact h

theorem completeRelease_tablesKept (d : DestId) (s : State) : TablesKept s (completeRelease d s) :=
  (modDest_tablesKept (f := releasedRecord (s.rackSensor d)) le_rfl rfl).trans (offerLastDest_tablesKept _ _ _)

/-! ### The token -/

theorem leaveQueue_tablesKept (g : GateId) (r : EntryRef) (s : State) : TablesKept s (leaveQueue g r s) :=
  modGate_tablesKept List.filter_sublist rfl

/-- An entry that has left the queue of its gate stands in none. -/
theorem leaveQueue_unqueued {g : GateId} {r : EntryRef} {s : State} {e : Entry} (hs : FireSound s)
    (hf : s.find r = some e) (hg : e.gate? = some g) : Unqueued r (leaveQueue g r s) := fun x hm => by
  rw [leaveQueue, modGate_gate] at hm
  split at hm
  · simp at hm
  · next hx => exact hx (Option.some.inj ((hs.gate_of_queued hf hm).symm.trans hg))

/-- The token leaves its fire queue before it leaves the map (R67). -/
theorem endToken_tablesKept (x : TestResult) (s : State) : TablesKept s (endToken x s) := by
  have last : ∀ u : State, TablesKept u (latchTestDone (u.modTest fun t => { t with result := x })) := fun u =>
    tablesKept_of_tables (by simp [State.tables, latchTestDone])
  unfold endToken
  split
  · exact tablesKept_refl s
  · next e he =>
    dsimp only
    split
    · next g hg =>
      exact ((leaveQueue_tablesKept g .token s).dropEntry fun hs => leaveQueue_unqueued hs he hg).trans (last _)
    · next hg =>
      refine ((tablesKept_refl s).dropEntry fun hs g hm => ?_).trans (last _)
      rw [hs.gate_of_queued he hm] at hg
      cases hg

/-! ### Decisions and reroutes -/

section
variable {s₀ s : State} {r : EntryRef}

/-- An entry that no fire queue names may be decided. -/
theorem TablesKept.decideRoute (h : TablesKept s₀ s) (hr : FireSound s₀ → Unqueued r s) (o : Option DestId) :
    TablesKept s₀ (decideRoute r o s) := by
  unfold Machine.decideRoute
  split
  · exact h
  · split
    · next d _ =>
      exact ((h.modEntry (f := fun e => { e with dest := some (.gateDest d), state := .routed }) (fun _ => rfl) hr).trans
        (modDest_tablesKept le_rfl rfl)).trans (raise_tablesKept _ _)
    · exact h.modEntry (fun _ => rfl) hr

theorem TablesKept.giveBack (h : TablesKept s₀ s) (hr : FireSound s₀ → Unqueued r s) (d : DestId) :
    TablesKept s₀ (giveBack r d s) :=
  (h.modEntry (f := fun e => { e with dest := none }) (fun _ => rfl) hr).trans (unreserve_tablesKept d _)

/-- A withdrawn entry that gives its reservation back is decided again, and stands in no fire queue all the while (R58, R91). -/
theorem TablesKept.decideAgain (h : TablesKept s₀ s) (hr : FireSound s₀ → Unqueued r s) (d : DestId) :
    TablesKept s₀ (Machine.decideRoute r (some d) (countReroute r (Machine.giveBack r d s))) := by
  have unqueued : FireSound s₀ → Unqueued r (Machine.giveBack r d s) := fun h₀ =>
    (unreserve_tablesKept d (s.modEntry r fun e => { e with dest := none })).unqueued (hr h₀)
  have counted : TablesKept s₀ (countReroute r (Machine.giveBack r d s)) :=
    ((h.giveBack hr d).modEntry (f := fun e => { e with attempts := min (e.attempts + 1) 7 }) (fun _ => rfl)
      unqueued).trans (raise_tablesKept _ _)
  exact counted.decideRoute unqueued (some d)

end

/-- A rerouted entry leaves its fire queue first; no other entry moves (R58, R62, R65, R91). -/
theorem reroute_tablesKept (d : DestId) (r : EntryRef) (s : State) : TablesKept s (reroute d r s) := by
  have again : ∀ e, s.find r = some e → e.dest = some (.gateDest d) →
      TablesKept s (decideRoute r (some d) (countReroute r (giveBack r d (withdraw r d s)))) := fun e he hd => by
    have unqueued : FireSound s → Unqueued r (leaveQueue (destGate d) r s) := fun hs =>
      leaveQueue_unqueued hs he (by simp only [Entry.gate?, hd])
    have withdrawn : TablesKept s (withdraw r d s) :=
      (leaveQueue_tablesKept (destGate d) r s).modEntry (fun _ => rfl) unqueued
    exact withdrawn.decideAgain unqueued d
  unfold reroute
  split
  · exact tablesKept_refl s
  · next e he =>
    split
    · next hd =>
      split
      case h_3 hs =>
        exact ((tablesKept_refl s).modEntry (f := fun x => { x with dest := some .tail }) (fun _ => rfl)
          fun h₀ => h₀.unqueued_of_state he (by simp [hs])).trans (unreserve_tablesKept d _)
      case h_4 | h_5 => exact tablesKept_refl s
      all_goals exact again e he hd.1
    · exact tablesKept_refl s

theorem cascade_tablesKept (ds : List DestId) (s : State) : TablesKept s (cascade ds s) :=
  forEach_tablesKept (fun _ _ => reroute_tablesKept _ _ _) _ s

/-! ### Holds -/

/-- Any hold but GATE_OUT is gained on a record alone. -/
theorem gainHold_tablesKept {set : Holds → Holds} (hg : ∀ h, (set h).gateOut = h.gateOut) (d : DestId) (s : State) :
    TablesKept s (gainHold set d s) :=
  changeDest_tablesKept le_rfl (hg _)

theorem gainRerouting_tablesKept {set : Holds → Holds} (hg : ∀ h, (set h).gateOut = h.gateOut) (c : Holds → Bool)
    (ds : List DestId) (s : State) : TablesKept s (gainRerouting c set ds s) :=
  ((forEach_tablesKept (gainHold_tablesKept hg) _ s).trans (syncConditions_tablesKept _)).trans (cascade_tablesKept _ _)

theorem applyRack_tablesKept (d : DestId) (o : RackOutcome) (s : State) : TablesKept s (applyRack d o s) := by
  have full : ∀ u, TablesKept u (gainFull d u) := gainRerouting_tablesKept (set := setFull) (fun _ => rfl) _ _
  cases o with
  | nothing => exact tablesKept_refl s
  | setLevel => exact full s
  | clearLevel => exact changeDest_tablesKept le_rfl rfl
  | latch => exact (modDest_tablesKept (f := fun r => { r with rearm := .waitingForClear }) le_rfl rfl).trans (full _)

/-! ### Chutes -/

theorem offerArrival_tablesKept (d : DestId) (a : Awaiting) (c : Bool) (s : State) :
    TablesKept s (offerArrival d a c s) := by
  unfold offerArrival
  split
  · exact offerNotice_tablesKept _ _ s
  all_goals exact tablesKept_refl s

theorem settleEmptied_tablesKept (d : DestId) (s : State) : TablesKept s (settleEmptied d s) := by
  unfold settleEmptied
  split
  · exact completeRelease_tablesKept d s
  · exact tablesKept_refl s

theorem countMiss_tablesKept (d : DestId) (s : State) : TablesKept s (countMiss d s) := by
  have h : TablesKept s (s.modDest d fun r => { r with misses := missCount r.misses }) := modDest_tablesKept le_rfl rfl
  unfold countMiss
  dsimp only
  split
  · exact h.trans (gainRerouting_tablesKept (set := setSilent) (fun _ => rfl) _ _ _)
  · exact h

/-- What follows a missed record once it has left the queue (R144 to R147). -/
theorem afterMiss_tablesKept (d : DestId) (a : Awaiting) (s : State) : TablesKept s
    (settleEmptied d (offerArrival d a false (countMiss d ((unreserve d s).raiseDest d .misses)))) :=
  ((((unreserve_tablesKept d s).trans (raise_tablesKept _ _)).trans (countMiss_tablesKept d _)).trans
    (offerArrival_tablesKept d a false _)).trans (settleEmptied_tablesKept d _)

theorem miss_tablesKept (d : DestId) (place : Nat) (s : State) : TablesKept s (miss d place s) := by
  unfold miss
  split
  · exact tablesKept_refl s
  · exact (modDest_tablesKept (f := fun r => { r with awaiting := r.awaiting.eraseIdx place })
      (List.length_eraseIdx_le _ _) rfl).trans (afterMiss_tablesKept d _ _)

/-- A record missed at the head of the queue leaves it (R144). -/
theorem miss_head_awaiting {d : DestId} {s : State} (h : (s.dest d).awaiting ≠ []) :
    ((miss d 0 s).dest d).awaiting.length < (s.dest d).awaiting.length := by
  cases ha : (s.dest d).awaiting with
  | nil => exact absurd ha h
  | cons a rest =>
    have missed : ((miss d 0 s).dest d).awaiting.length ≤ rest.length := by
      have := (afterMiss_tablesKept d a (s.modDest d fun r => { r with awaiting := r.awaiting.eraseIdx 0 })).awaiting d
      rw [modDest_dest_self, ha] at this
      simpa only [miss, ha, List.getElem?_cons_zero, List.eraseIdx_cons_zero] using this
    exact Nat.lt_succ_of_le missed

theorem sighting_tablesKept (d : DestId) (s : State) : TablesKept s (sighting d s) := by
  unfold sighting
  split
  · exact raise_tablesKept _ s
  · have confirmed : TablesKept s (changeDest d confirmedRecord s) :=
      changeDest_tablesKept (by simp [confirmedRecord]) rfl
    exact (((confirmed.trans (unreserve_tablesKept d _)).trans (raise_tablesKept _ _)).trans
      (offerArrival_tablesKept d _ true _)).trans (settleEmptied_tablesKept d _)

end Sys2Proof.Machine
end

section
/-! SUPPORT. The gates keep the tables: a gate that goes out and one that comes back, the watch, the checks and the missed fires (R110, R127, R129, R131, R132, R150, R151). -/

namespace Sys2Proof.Machine

/-! ### GATE_OUT (R110) -/

/-- The two destinations of a gate are those that lie at it. -/
theorem mem_gateDests {g : GateId} {d : DestId} : d ∈ [gateDest g .left, gateDest g .right] ↔ destGate d = g := by
  simp only [List.mem_cons, List.not_mem_nil, or_false, Fin.ext_iff, gateDest, destGate]
  omega

theorem gainAll_gateOut (l : List DestId) (d : DestId) : ∀ s : State,
    ((forEach l (gainHold setGateOut) s).dest d).holds.gateOut = (decide (d ∈ l) || (s.dest d).holds.gateOut) := by
  induction l with
  | nil => intro s; simp [forEach]
  | cons x l ih =>
    intro s
    refine (ih (gainHold setGateOut x s)).trans ?_
    rw [gainHold, changeDest_dest]
    by_cases hx : d = x
    · simp [hx, setGateOut]
    · simp [hx]

theorem gainAll_gate (l : List DestId) (set : Holds → Holds) (s : State) (g : GateId) :
    (forEach l (gainHold set) s).gate g = s.gate g := by
  have h : (forEach l (gainHold set) s).gates = s.gates :=
    forEach_keeps State.gates _ (fun d u => gates_of_untold (changeDest_untold d _ u)) l s
  simp only [State.gate, h]

/-- A gate goes OUT_OF_SERVICE and both its destinations carry GATE_OUT, before any entry is moved (R110, R129). -/
theorem gateOut_holds_tablesKept (g : GateId) (s : State) : TablesKept s
    (forEach ([gateDest g .left, gateDest g .right].filter fun d => !(s.dest d).holds.gateOut) (gainHold setGateOut)
      (s.modGate g fun x => { x with service := .outOfService })) where
  toQueuesKept := (modGate_queuesKept (.refl _)).trans (forEach_queuesKept (fun _ _ => changeDest_queuesKept le_rfl) _ _)
  gateOut law d := by
    rw [gainAll_gateOut, gainAll_gate, modGate_gate, Bool.or_eq_true, decide_eq_true_iff, List.mem_filter,
      mem_gateDests, modGate_dest]
    by_cases hd : destGate d = g
    · cases h : (s.dest d).holds.gateOut <;> simp [hd]
    · simpa [hd] using law d

/-- A gate that goes out brings GATE_OUT to both its destinations, and empties its queue once the token has left it (R129). -/
theorem gateOut_tablesKept (g : GateId) (s : State) : TablesKept s (gateOut g s) := by
  have rerouted : TablesKept s (gainRerouting Holds.gateOut setGateOut [gateDest g .left, gateDest g .right]
      (s.modGate g fun x => { x with service := .outOfService })) :=
    ((gateOut_holds_tablesKept g s).trans (syncConditions_tablesKept _)).trans (cascade_tablesKept _ _)
  unfold gateOut
  dsimp only
  split
  · exact (rerouted.trans (endToken_tablesKept _ _)).trans (modGate_tablesKept (List.nil_sublist _) rfl)
  · exact rerouted.trans (modGate_tablesKept (List.nil_sublist _) rfl)

theorem loseGateOut_dest (x d : DestId) (s : State) : ((changeDest x loseGateOut s).dest d).holds.gateOut
    = (decide (d ≠ x) && (s.dest d).holds.gateOut) := by
  rw [changeDest_dest]
  by_cases hd : d = x <;> simp [hd, loseGateOut]

/-- A gate that comes back takes GATE_OUT from both its destinations, and from no other (R132). -/
theorem gateBack_dest (g : GateId) (s : State) (d : DestId) : ((gateBack g s).dest d).holds.gateOut
    = (decide (destGate d ≠ g) && (s.dest d).holds.gateOut) := by
  have at_gate : destGate d = g ↔ d = gateDest g .left ∨ d = gateDest g .right := by
    rw [← mem_gateDests, List.mem_pair]
  rw [gateBack, loseGateOut_dest, loseGateOut_dest, modGate_dest]
  simp only [ne_eq, at_gate, not_or, Bool.decide_and, Bool.and_assoc, Bool.and_left_comm]

theorem gateBack_gate (g x : GateId) (s : State) :
    (gateBack g s).gate x = if x = g then { s.gate g with service := .inService } else s.gate x := by
  have gates : (gateBack g s).gates = (s.modGate g fun x => { x with service := .inService }).gates :=
    (gates_of_untold (changeDest_untold _ _ _)).trans (gates_of_untold (changeDest_untold _ _ _))
  have gate : (gateBack g s).gate x = (s.modGate g fun x => { x with service := .inService }).gate x := by
    simp only [State.gate, gates]
  rw [gate, modGate_gate]

theorem gateBack_tablesKept (g : GateId) (s : State) : TablesKept s (gateBack g s) where
  toQueuesKept := ((modGate_queuesKept (.refl _)).trans (changeDest_queuesKept le_rfl)).trans
    (changeDest_queuesKept le_rfl)
  gateOut law d := by
    rw [gateBack_dest, gateBack_gate]
    by_cases hd : destGate d = g
    · simp [hd]
    · simpa [hd] using law d

/-! ### Faults, the watch and the checks -/

theorem recordFault_tablesKept (g : GateId) (c : FaultCause) (o : Option Side) (s : State) :
    TablesKept s (recordFault g c o s) := modGate_tablesKept (.refl _) rfl

theorem handFault_tablesKept (g : GateId) (s : State) : TablesKept s (handFault g s) := by
  unfold handFault
  split
  · exact gateOut_tablesKept g s
  · exact tablesKept_refl s

theorem uncommanded_tablesKept (g : GateId) (side : Side) (s : State) : TablesKept s (uncommanded g side s) :=
  (recordFault_tablesKept g _ _ s).trans (handFault_tablesKept g _)

theorem beginWatch_tablesKept (g : GateId) (s : State) : TablesKept s (beginWatch g s) := by
  unfold beginWatch
  split
  · split
    case h_1 => exact tablesKept_refl s
    case h_4 => exact (tablesKept_of_tables (s := s) (t := s.drew 1) rfl).trans (uncommanded_tablesKept g _ _)
    all_goals exact uncommanded_tablesKept g _ s
  · exact tablesKept_refl s

theorem startCheck_tablesKept (g : GateId) (side : Side) (b : Bool) (s : State) :
    TablesKept s (startCheck g side b s) := by
  unfold startCheck
  split
  · split <;> [exact endToken_tablesKept _ s; exact tablesKept_refl s]
  · exact modGate_tablesKept (.refl _) rfl

theorem checkSeen_tablesKept (g : GateId) (side : Side) (s : State) : TablesKept s (checkSeen g side s) := by
  have seen : TablesKept s (s.modGate g fun x => { x with checks := x.checks.filter fun c => c.side != side }) :=
    modGate_tablesKept (.refl _) rfl
  unfold checkSeen
  dsimp only
  split
  · exact (seen.trans (endToken_tablesKept _ _)).trans (beginWatch_tablesKept g _)
  · exact seen.trans (beginWatch_tablesKept g _)

theorem strayExtension_tablesKept (g : GateId) (side : Side) (s : State) :
    TablesKept s (strayExtension g side s) := by
  unfold strayExtension
  split
  · split
    · exact uncommanded_tablesKept g side s
    · exact tablesKept_refl s
  · split
    · exact uncommanded_tablesKept g side s
    · exact tablesKept_refl s

theorem switchGoesExtended_tablesKept (g : GateId) (side : Side) (s : State) :
    TablesKept s (switchGoesExtended g side s) := by
  unfold switchGoesExtended
  split
  · exact strayExtension_tablesKept g side s
  · exact checkSeen_tablesKept g side s

theorem checkFails_tablesKept (g : GateId) (c : ActuatorCheck) (s : State) : TablesKept s (checkFails g c s) := by
  have recorded : TablesKept s (recordFault g .actuatorNoExtend (some c.side)
      (s.modGate g fun x => { x with checks := x.checks.erase c })) :=
    (modGate_tablesKept (f := fun x => { x with checks := x.checks.erase c }) (.refl _) rfl).trans
      (recordFault_tablesKept g _ _ _)
  unfold checkFails
  dsimp only
  split
  · exact (recorded.trans (endToken_tablesKept _ _)).trans (handFault_tablesKept g _)
  · exact recorded.trans (handFault_tablesKept g _)

/-! ### Arming refused, a fire missed -/

theorem refuseArming_tablesKept (r : EntryRef) (d : DestId) (s : State) : TablesKept s (refuseArming r d s) := by
  unfold refuseArming
  dsimp only
  split
  · exact (raise_tablesKept _ s).trans (endToken_tablesKept _ _)
  · exact (raise_tablesKept _ s).trans (reroute_tablesKept d r _)

theorem missedFire_tablesKept (g : GateId) (r : EntryRef) (d : DestId) (s : State) :
    TablesKept s (missedFire g r d s) := by
  have missed : TablesKept s ((s.modGate g fun x => { x with queue := x.queue.tail }).raiseGate g .missedFires) :=
    (modGate_tablesKept (f := fun x => { x with queue := x.queue.tail }) (List.tail_sublist _) rfl).trans
      (raise_tablesKept _ _)
  unfold missedFire
  dsimp only
  split
  · exact missed.trans (endToken_tablesKept _ _)
  · exact missed.trans (reroute_tablesKept d r _)

end Sys2Proof.Machine
end

section
/-! SUPPORT. The owner pattern table: what a lookup, a registration, an eviction and a removal make of the list, and that each keeps the table's law (R38 to R48). -/

namespace Sys2Proof.Machine

/-! ### The law of the list (R38) -/

/-- The law of the pattern table, as it speaks of the list alone. -/
structure LawfulPatterns (l : List PatternEntry) : Prop where
  length : l.length ≤ 64
  codes : (l.map PatternEntry.code).Nodup
  locked : ∀ st, lockedCount st l ≤ 10

theorem patternLaw_iff (s : State) : PatternLaw s ↔ LawfulPatterns s.patterns :=
  ⟨fun ⟨length, codes, locked⟩ => ⟨length, codes, locked⟩, fun ⟨length, codes, locked⟩ => ⟨length, codes, locked⟩⟩

theorem lockedCount_sublist {l m : List PatternEntry} (h : l.Sublist m) (st : Station) :
    lockedCount st l ≤ lockedCount st m := (h.filter _).length_le

/-- A removal keeps the law. -/
theorem LawfulPatterns.sublist {l m : List PatternEntry} (h : LawfulPatterns m) (hl : l.Sublist m) :
    LawfulPatterns l where
  length := hl.length_le.trans h.length
  codes := h.codes.sublist (hl.map _)
  locked st := (lockedCount_sublist hl st).trans (h.locked st)

theorem withoutPattern_sublist (c : Word16) (l : List PatternEntry) : (withoutPattern c l).Sublist l :=
  List.filter_sublist

/-- The entry found for a code is in the table, and bears the code. -/
theorem patternOf_some {c : Word16} {l : List PatternEntry} {e : PatternEntry} (h : patternOf c l = some e) :
    e ∈ l ∧ e.code = c := by
  refine ⟨List.mem_of_find?_eq_some h, ?_⟩
  simpa using List.find?_some h

/-- A table without the code is as it was once the code is removed. -/
theorem withoutPattern_absent {c : Word16} {l : List PatternEntry} (h : patternOf c l = none) :
    withoutPattern c l = l := by
  refine List.filter_eq_self.mpr fun e he => ?_
  have := List.find?_eq_none.mp h e he
  simpa using this

theorem withoutPattern_length_lt {l : List PatternEntry} {e : PatternEntry} (h : e ∈ l) :
    (withoutPattern e.code l).length < l.length :=
  List.length_filter_lt_length_iff_exists.mpr ⟨e, h, by simp⟩

/-- Removing a locked entry's code gives a lock back (R38). -/
theorem withoutPattern_lockedCount_lt {l : List PatternEntry} {e : PatternEntry} (h : e ∈ l) (hl : e.locked = true) :
    lockedCount e.owner (withoutPattern e.code l) < lockedCount e.owner l := by
  unfold lockedCount withoutPattern
  rw [List.filter_comm]
  exact List.length_filter_lt_length_iff_exists.mpr ⟨e, List.mem_filter.mpr ⟨h, by simp [hl]⟩, by simp⟩

theorem lockedCount_append (st : Station) (l : List PatternEntry) (e : PatternEntry) :
    lockedCount st (l ++ [e]) = lockedCount st l + if e.owner = st ∧ e.locked = true then 1 else 0 := by
  by_cases h : e.owner = st ∧ e.locked = true
  · simp [lockedCount, List.filter_append, h]
  · rw [if_neg h]
    simp only [lockedCount, List.filter_append, List.length_append]
    simpa using h

/-- An entry goes to the most recent end by the law where there is a place for it, and a lock for it if it is locked. -/
theorem makeRecent_lawful {l : List PatternEntry} {e : PatternEntry} (h : LawfulPatterns l)
    (room : (withoutPattern e.code l).length < 64)
    (lock : e.locked = true → lockedCount e.owner (withoutPattern e.code l) < 10) :
    LawfulPatterns (makeRecent e l) := by
  have rest := h.sublist (withoutPattern_sublist e.code l)
  refine ⟨?_, ?_, fun st => ?_⟩
  · rw [makeRecent, List.length_append, List.length_singleton]; omega
  · rw [makeRecent, List.map_append, List.nodup_append]
    refine ⟨rest.codes, by simp, fun x hx y hy hxy => ?_⟩
    obtain ⟨z, hz, rfl⟩ := List.mem_map.mp hx
    rw [List.map_singleton, List.mem_singleton] at hy
    have := (List.mem_filter.mp hz).2
    simp [hxy, hy] at this
  · have bound := rest.locked st
    rw [makeRecent, lockedCount_append]
    split
    · next hst =>
      obtain ⟨rfl, hl⟩ := hst
      have := lock hl
      omega
    · omega

/-- A hit goes to the most recent end (R40). -/
theorem lookupTable_lawful (c : Word16) {l : List PatternEntry} (h : LawfulPatterns l) :
    LawfulPatterns (lookupTable c l) := by
  unfold lookupTable
  split
  · next e he =>
    obtain ⟨hm, -⟩ := patternOf_some he
    exact makeRecent_lawful h ((withoutPattern_length_lt hm).trans_le h.length) fun hl =>
      (withoutPattern_lockedCount_lt hm hl).trans_le (h.locked _)
  · exact h

/-! ### Room in a full table (R44, R46) -/

theorem length_eq_sum_patternCount (l : List PatternEntry) : l.length = ∑ st : Station, patternCount st l := by
  induction l with
  | nil => simp [patternCount]
  | cons e l ih =>
    have cons : ∀ st, patternCount st (e :: l) = (if e.owner = st then 1 else 0) + patternCount st l := fun st => by
      by_cases h : e.owner = st
      · simp [patternCount, h, Nat.add_comm]
      · simp [patternCount, h]
    simp only [cons, Finset.sum_add_distrib, Finset.sum_ite_eq, Finset.mem_univ, if_true, List.length_cons, ih]
    omega

/-- A full table has an unlocked entry: six stations lock ten entries each at most (log 26). -/
theorem exists_unlocked {l : List PatternEntry} (h : LawfulPatterns l) (full : 64 ≤ l.length) :
    ∃ v, (l.find? fun e => !e.locked) = some v := by
  refine Option.ne_none_iff_exists'.mp fun hn => ?_
  have locked : ∀ e ∈ l, e.locked = true := fun e he => by simpa using List.find?_eq_none.mp hn e he
  have counts : ∀ st, patternCount st l ≤ 10 := fun st => by
    have same : lockedCount st l = patternCount st l :=
      congrArg List.length (List.filter_congr fun e he => by simp [locked e he])
    exact same ▸ h.locked st
  have total : l.length ≤ ∑ _st : Station, 10 :=
    (length_eq_sum_patternCount l).le.trans (Finset.sum_le_sum fun st _ => counts st)
  simp at total
  omega

/-- The eviction of the least recent unlocked entry: it leaves, and its owner is offered the notice. -/
theorem makeRoom_full {s : State} {v : PatternEntry} (full : 64 ≤ s.patterns.length)
    (hv : (s.patterns.find? fun e => !e.locked) = some v) : makeRoom s
      = offerNotice v.owner (.evicted v.code (patternCount v.owner (withoutPattern v.code s.patterns)))
          (s.withPatterns (withoutPattern v.code s.patterns)) := by
  unfold makeRoom evict
  rw [if_pos full, hv]

/-- With room in the table nothing is evicted. -/
theorem makeRoom_room {s : State} (room : s.patterns.length < 64) : makeRoom s = s := if_neg (by omega)

theorem offerNotice_patterns (st : Station) (n : Notice) (s : State) : (offerNotice st n s).patterns = s.patterns :=
  patterns_of_kept (offerNotice_kept st n s)

theorem makeRoom_full_patterns {s : State} {v : PatternEntry} (full : 64 ≤ s.patterns.length)
    (hv : (s.patterns.find? fun e => !e.locked) = some v) :
    (makeRoom s).patterns = withoutPattern v.code s.patterns := by
  rw [makeRoom_full full hv, offerNotice_patterns]
  rfl

/-- By the law, room is made. -/
theorem makeRoom_length {s : State} (h : LawfulPatterns s.patterns) : (makeRoom s).patterns.length < 64 := by
  by_cases full : 64 ≤ s.patterns.length
  · obtain ⟨v, hv⟩ := exists_unlocked h full
    rw [makeRoom_full_patterns full hv]
    exact (withoutPattern_length_lt (List.mem_of_find?_eq_some hv)).trans_le h.length
  · rw [makeRoom_room (by omega)]
    omega

/-! ### The requests keep the tables -/

theorem withPatterns_lawful {s : State} {l : List PatternEntry} (h : LawfulPatterns s.patterns → LawfulPatterns l) :
    TablesKept s (s.withPatterns l) :=
  withPatterns_tablesKept fun hs => (patternLaw_iff _).mpr (h ((patternLaw_iff s).mp hs))

theorem makeRoom_tablesKept (s : State) : TablesKept s (makeRoom s) := by
  unfold makeRoom evict
  split
  · split
    · exact tablesKept_refl s
    · exact (withPatterns_lawful fun h => h.sublist (withoutPattern_sublist _ _)).trans (offerNotice_tablesKept _ _ _)
  · exact tablesKept_refl s

/-- A lock that is granted is held already, or the count is below 10 (R42, R45). -/
theorem lockGranted_iff (st : Station) (asked held : Bool) (l : List PatternEntry) :
    lockGranted st asked held l = true ↔ asked = true ∧ (held = true ∨ lockedCount st l < 10) := by
  simp [lockGranted]

theorem insertPattern_tablesKept (st : Station) (c : Word16) (lock : Bool) (s : State) :
    TablesKept s (insertPattern st c lock s).state := by
  have roomy : TablesKept s (makeRoom s) := makeRoom_tablesKept s
  have joined : PatternLaw s → PatternLaw (insertPattern st c lock s).state := fun law => by
    have lawful := (patternLaw_iff _).mp (roomy.patterns law)
    have room := makeRoom_length ((patternLaw_iff s).mp law)
    refine (patternLaw_iff _).mpr (makeRecent_lawful lawful ?_ fun hl => ?_)
    · exact (withoutPattern_sublist _ _).length_le.trans_lt room
    · have count := ((lockGranted_iff _ _ _ _).mp hl).2.resolve_left (by simp)
      exact (lockedCount_sublist (withoutPattern_sublist _ _) st).trans_lt count
  exact { roomy with
    patterns := joined
    fire := fun h => (roomy.fire h).of_queues (roomy.fire h).names rfl (fun _ => .refl _) fun _ _ _ => rfl }

theorem refreshPattern_tablesKept {st : Station} {e : PatternEntry} {s : State} (he : e ∈ s.patterns)
    (hst : e.owner = st) (lock : Bool) : TablesKept s (refreshPattern st e lock s).state :=
  withPatterns_lawful fun h => makeRecent_lawful h ((withoutPattern_length_lt he).trans_le h.length) fun hl => by
    subst hst
    obtain ⟨-, held | count⟩ := (lockGranted_iff _ _ _ _).mp hl
    · exact (withoutPattern_lockedCount_lt he held).trans_le (h.locked _)
    · exact (lockedCount_sublist (withoutPattern_sublist _ _) _).trans_lt count

theorem handleRegisterPattern_tablesKept (q : Sender) (pl : List Byte) (s : State) :
    TablesKept s (handleRegisterPattern q pl s).state := by
  unfold handleRegisterPattern
  split
  · exact tablesKept_refl s
  · next st =>
    dsimp only
    split_ifs
    · exact tablesKept_refl s
    · split
      · exact insertPattern_tablesKept st _ _ s
      · next e he =>
        split
        · next ho => exact refreshPattern_tablesKept (patternOf_some he).1 ho _
        · exact tablesKept_refl s

theorem handleDropPattern_tablesKept (q : Sender) (pl : List Byte) (s : State) :
    TablesKept s (handleDropPattern q pl s).state := by
  unfold handleDropPattern
  split
  · exact tablesKept_refl s
  · dsimp only
    split_ifs
    · exact tablesKept_refl s
    · split
      · exact tablesKept_refl s
      · split
        · exact withPatterns_lawful fun h => h.sublist (withoutPattern_sublist _ _)
        · exact tablesKept_refl s

theorem handleClearPatterns_tablesKept (q : Sender) (pl : List Byte) (s : State) :
    TablesKept s (handleClearPatterns q pl s).state := by
  unfold handleClearPatterns
  split
  · exact tablesKept_refl s
  · exact withPatterns_lawful fun h => h.sublist List.filter_sublist

end Sys2Proof.Machine
end

section
/-! SUPPORT. Registrations: the entry that joins or is made recent, the lock it gets, and the eviction in a full table with the notice it offers (R41 to R46, R174). -/

namespace Sys2Proof.Machine

/-! ### The lock (R42, R45) -/

theorem lockStatus_lockGranted (st : Station) (asked held : Bool) (l : List PatternEntry) :
    lockStatus asked (lockGranted st asked held l)
      = if asked = false ∨ held = true ∨ lockedCount st l < 10 then .done else .lockLimit := by
  by_cases hc : lockedCount st l < 10 <;> cases asked <;> cases held <;> simp [lockStatus, lockGranted, hc]

/-- The third byte of a registration asks for the lock. -/
theorem yesAt_lock (hi lo lock : Byte) : yesAt [hi, lo, lock] 2 = (lock != 0) := by
  have zero : lock.toNat = 0 ↔ lock = 0 := by rw [← BitVec.toNat_inj]; rfl
  rw [Bool.eq_iff_iff, bne_iff_ne, ne_eq, ← zero]
  simp [yesAt, byteAt]

theorem asked_eq_false (lock : Byte) : (lock != 0) = false ↔ lock = 0 := by simp

/-! ### The eviction (R44, R46) -/

/-- An unlocked entry takes no lock with it, where no code stands twice. -/
theorem withoutPattern_unlocked_count {l : List PatternEntry} {v : PatternEntry} (codes : (l.map PatternEntry.code).Nodup)
    (hv : v ∈ l) (hu : v.locked = false) (st : Station) : lockedCount st (withoutPattern v.code l) = lockedCount st l := by
  have stays : ∀ e ∈ l, e.locked = true → e.code ≠ v.code := fun e he hl hc => by
    rw [List.inj_on_of_nodup_map codes he hv hc, hu] at hl
    cases hl
  unfold lockedCount withoutPattern
  rw [List.filter_filter]
  refine congrArg List.length (List.filter_congr fun e he => ?_)
  have := stays e he
  cases hl : e.locked <;> simp_all

/-- Room is made without a lock being given back. -/
theorem makeRoom_lockedCount {s : State} (law : LawfulPatterns s.patterns) (st : Station) :
    lockedCount st (makeRoom s).patterns = lockedCount st s.patterns := by
  by_cases full : 64 ≤ s.patterns.length
  · obtain ⟨v, hv⟩ := exists_unlocked law full
    rw [makeRoom_full_patterns full hv]
    exact withoutPattern_unlocked_count law.codes (List.mem_of_find?_eq_some hv)
      (by simpa using List.find?_some hv) st
  · rw [makeRoom_room (by omega)]

theorem patternOf_sublist {c : Word16} {l m : List PatternEntry} (h : patternOf c m = none) (hl : l.Sublist m) :
    patternOf c l = none :=
  List.find?_eq_none.mpr fun e he => List.find?_eq_none.mp h e (hl.subset he)

/-- A code that is not in the table joins behind the others. -/
theorem makeRecent_absent {c : Word16} {l : List PatternEntry} (h : patternOf c l = none) (st : Station) (b : Bool) :
    makeRecent ⟨c, st, b⟩ l = l ++ [⟨c, st, b⟩] := by rw [makeRecent, withoutPattern_absent h]

/-- What the offer of a notice moves. -/
theorem offerNotice_frame (st : Station) (n : Notice) (s : State) :
    SameExcept [.counters, .notices] s (offerNotice st n s) := by
  unfold offerNotice
  split_ifs
  · exact sameExcept_of_kept rfl (fun _ => rfl) (fun _ => rfl) (fun _ => rfl) (fun _ => rfl) (by simp) (fun _ => rfl)
      (fun _ => ⟨rfl, rfl, rfl⟩)
  · exact (sameExcept_raise _ s).mono (by simp)
  · exact sameExcept_refl _ s

/-- The offer of a notice counts no frame. -/
theorem offerNotice_counter (st : Station) (n : Notice) (p : Port) (s : State) :
    (offerNotice st n s).counter (.ofPort p .framesGood) = s.counter (.ofPort p .framesGood) := by
  unfold offerNotice
  split_ifs
  · rfl
  · rw [State.raisePort, raise_counter, if_neg (by simp)]
  · rfl

theorem makeRoom_frame (s : State) : SameExcept [.counters, .patterns, .notices] s (makeRoom s) := by
  unfold makeRoom evict
  split_ifs
  · split
    · exact sameExcept_refl _ s
    · exact ((sameExcept_withPatterns _ s).mono (by simp)).trans ((offerNotice_frame _ _ _).mono (by simp))
  · exact sameExcept_refl _ s

theorem makeRoom_links (s : State) : (makeRoom s).links = s.links := by
  unfold makeRoom evict
  split_ifs
  · split
    · rfl
    · exact (links_of_kept (offerNotice_kept _ _ _)).trans rfl
  · rfl

theorem makeRoom_counter (p : Port) (s : State) :
    (makeRoom s).counter (.ofPort p .framesGood) = s.counter (.ofPort p .framesGood) := by
  unfold makeRoom evict
  split_ifs
  · split
    · rfl
    · exact offerNotice_counter _ _ p _
  · rfl

/-! ### The requests -/

/-- REGISTER-PATTERN of a station, over the code and the lock its payload names. -/
theorem handleRegisterPattern_station (st : Station) (hi lo lock : Byte) (s : State) :
    handleRegisterPattern (.station st) [hi, lo, lock] s = if hi = 0 ∧ lo = 0 then patternReply st .argument s
      else match patternOf (hi ++ lo) s.patterns with
      | none => insertPattern st (hi ++ lo) (lock != 0) s
      | some e => if e.owner = st then refreshPattern st e (lock != 0) s else patternReply st .conflict s := by
  simp only [handleRegisterPattern, code_of_bytes, code_eq_zero, yesAt_lock] <;> rfl

/-- The entry that a registration of an absent code makes. -/
def registered (st : Station) (c : Word16) (lock : Byte) (l : List PatternEntry) : PatternEntry :=
  { code := c, owner := st, locked := lock != 0 && decide (lockedCount st l < 10) }

theorem insertPattern_eq {st : Station} {c : Word16} {s : State} (lock : Byte) (law : LawfulPatterns s.patterns)
    (h : patternOf c s.patterns = none) : insertPattern st c (lock != 0) s = patternReply st
      (if lock = 0 ∨ lockedCount st s.patterns < 10 then .done else .lockLimit)
      ((makeRoom s).withPatterns ((makeRoom s).patterns ++ [registered st c lock s.patterns])) := by
  have absent : patternOf c (makeRoom s).patterns = none := by
    by_cases full : 64 ≤ s.patterns.length
    · obtain ⟨v, hv⟩ := exists_unlocked law full
      rw [makeRoom_full_patterns full hv]
      exact patternOf_sublist h (withoutPattern_sublist _ _)
    · rwa [makeRoom_room (by omega)]
  have granted : lockGranted st (lock != 0) false (makeRoom s).patterns
      = (registered st c lock s.patterns).locked := by
    rw [lockGranted, makeRoom_lockedCount law st, Bool.false_or]
    rfl
  have answer := lockStatus_lockGranted st (lock != 0) false (makeRoom s).patterns
  simp only [makeRoom_lockedCount law st, asked_eq_false, Bool.false_eq_true, false_or] at answer
  rw [insertPattern, answer, granted, makeRecent_absent absent]
  rfl

theorem refreshPattern_eq (st : Station) (e : PatternEntry) (lock : Byte) (s : State) :
    refreshPattern st e (lock != 0) s = patternReply st
      (if lock = 0 ∨ e.locked = true ∨ lockedCount st s.patterns < 10 then .done else .lockLimit)
      (s.withPatterns ((s.patterns.filter fun x => x.code != e.code)
        ++ [{ e with locked := lock != 0 && (e.locked || decide (lockedCount st s.patterns < 10)) }])) := by
  simp only [refreshPattern, lockStatus_lockGranted, asked_eq_false]
  rfl

/-! ### The notice of an eviction (R46, R174) -/

@[simp] theorem hears_greeted (q : Sender) (s : State) (st : Station) : hears (greeted q s) st = hears s st := by
  by_cases h : Sender.station st = q
  · subst h
    simp only [hears, greeted_link]
    cases (s.link (.station st)).state <;> rfl
  · simp only [hears, greeted_link_ne q _ s h]

section
variable {q : Sender} {tag kind : Byte} {v : PatternEntry} {n : Notice} {s u : State} {l : List PatternEntry}
  {status : Status} {result : List Byte}
  (hn : u.notices = (offerNotice v.owner n ((greeted q s).withPatterns l)).notices)
include hn

theorem answered_notices (st : Station) : (queueReply q tag kind ⟨u, status, result⟩).noticeQueue st
    = if st = v.owner ∧ hears s v.owner = true ∧ (s.noticeQueue v.owner).places.length < 16 then
        { s.noticeQueue st with places := (s.noticeQueue st).places ++ [n] }
      else s.noticeQueue st := by
  have same : (queueReply q tag kind ⟨u, status, result⟩).noticeQueue st
      = (offerNotice v.owner n ((greeted q s).withPatterns l)).noticeQueue st := by
    simp only [State.noticeQueue, queueReply_notices, hn]
  have hearing : hears ((greeted q s).withPatterns l) v.owner = hears s v.owner := hears_greeted q s v.owner
  have queues : ∀ x, ((greeted q s).withPatterns l).noticeQueue x = s.noticeQueue x := greeted_noticeQueue q s
  rw [same, offerNotice_noticeQueue, hearing, queues, queues]

/-- Where the notice does not join, no notice does. -/
theorem offered_sameNotices (st : Station) (h : st ≠ v.owner ∨ hears s v.owner = false) :
    SameNotices s (settle (queueReply q tag kind ⟨u, status, result⟩)) st := by
  have same := settle_sameNotices st (queueReply q tag kind ⟨u, status, result⟩)
  have stays : ¬(st = v.owner ∧ hears s v.owner = true ∧ (s.noticeQueue v.owner).places.length < 16) := by
    rintro ⟨hs, hh, -⟩
    rcases h with h | h
    · exact h hs
    · rw [h] at hh; cases hh
  unfold SameNotices at same ⊢
  rwa [answered_notices hn, if_neg stays] at same

/-- Where the station hears and has a place, and its port is sending, the notice waits behind the others. -/
theorem offered_waits (hl : u.links = (greeted q s).links) (hh : hears s v.owner = true)
    (place : (s.noticeQueue v.owner).places.length < 16) (busy : (s.link (.station v.owner)).sending ≠ none) :
    let t := settle (queueReply q tag kind ⟨u, status, result⟩)
    (t.noticeQueue v.owner).dests = (s.noticeQueue v.owner).dests
      ∧ (t.noticeQueue v.owner).places = (s.noticeQueue v.owner).places ++ [n] := by
  have leaves := settle_leaves v.owner (queueReply q tag kind ⟨u, status, result⟩)
  have held : freeForNotice none (queueReply q tag kind ⟨u, status, result⟩) v.owner = false := by
    rw [freeForNotice_queueReply q tag kind _ s v.owner hl]
    simp [freeForNotice, busy]
  obtain ⟨-, waiting⟩ := leaves
  have stands := waiting (.inr held)
  rwa [answered_notices hn, if_pos ⟨rfl, hh, place⟩] at stands

end

/-! ### A registration of an absent code (R43 to R46) -/

section
variable {st : Station} {tag hi lo : Byte} {c : Word16} {s : State} {status : Status} {e : PatternEntry}

/-- The answer moves the table, the notices and the counters alone. -/
theorem inserted_settled : let g := greeted (.station st) s
    let t := settle (queueReply (.station st) tag Kind.registerPattern.code
      (patternReply st status ((makeRoom g).withPatterns ((makeRoom g).patterns ++ [e]))))
    TookCounting (.station st) [.patterns, .notices] s t ∧ t.patterns = (makeRoom g).patterns ++ [e]
      ∧ Replied s t (.station st) tag .registerPattern status (patternCounts st t) := by
  intro g t
  have moved : SameExcept (.counters :: [.patterns, .notices]) g
      ((makeRoom g).withPatterns ((makeRoom g).patterns ++ [e])) :=
    (makeRoom_frame g).trans ((sameExcept_withPatterns _ _).mono (by simp))
  obtain ⟨took, -, -, replied⟩ := counting_settled tag .registerPattern
    (a := patternReply st status ((makeRoom g).withPatterns ((makeRoom g).patterns ++ [e]))) moved
    (makeRoom_links g) (makeRoom_counter _ g)
  have patterns : t.patterns = (makeRoom g).patterns ++ [e] := settle_patterns _
  refine ⟨took, patterns, ?_⟩
  rw [patternCounts_congr st (s := (makeRoom g).withPatterns ((makeRoom g).patterns ++ [e])) patterns]
  exact replied

end

/-- The words of the obligation for a code that is absent from the table. -/
def AbsentRegistered (s t : State) (st : Station) (tag : Byte) (c : Word16) (lock : Byte) : Prop :=
  TookCounting (.station st) [.patterns, .notices] s t
    ∧ Replied s t (.station st) tag .registerPattern
        (if lock = 0 ∨ lockedCount st s.patterns < 10 then .done else .lockLimit) (patternCounts st t)
    ∧ (s.patterns.length < 64 → Took (.station st) [.patterns] s t
        ∧ t.patterns = s.patterns ++ [registered st c lock s.patterns])
    ∧ (∀ v, s.patterns.length = 64 → (s.patterns.find? fun e => !e.locked) = some v →
        t.patterns = (s.patterns.filter fun e => e.code != v.code) ++ [registered st c lock s.patterns]
        ∧ (∀ x : Station, x ≠ v.owner → SameNotices s t x)
        ∧ (if hears s v.owner = true then
            (s.noticeQueue v.owner).places.length < 16 →
              (s.link (.station v.owner)).sending ≠ none →
              (t.noticeQueue v.owner).dests = (s.noticeQueue v.owner).dests
                ∧ (t.noticeQueue v.owner).places = (s.noticeQueue v.owner).places
                  ++ [.evicted v.code
                        (patternCount v.owner (s.patterns.filter fun e => e.code != v.code))]
          else SameNotices s t v.owner))

theorem absentRegistered {st : Station} {c : Word16} {s : State} (tag lock : Byte) (law : LawfulPatterns s.patterns)
    (h : patternOf c s.patterns = none) :
    AbsentRegistered s (settle (queueReply (.station st) tag Kind.registerPattern.code
      (insertPattern st c (lock != 0) (greeted (.station st) s)))) st tag c lock := by
  rw [insertPattern_eq lock (by rwa [greeted_patterns]) (by rwa [greeted_patterns]), greeted_patterns]
  obtain ⟨took, patterns, replied⟩ := inserted_settled (st := st) (tag := tag) (s := s)
    (status := if lock = 0 ∨ lockedCount st s.patterns < 10 then .done else .lockLimit)
    (e := registered st c lock s.patterns)
  refine ⟨took, replied, fun room => ?_, fun v full hv => ?_⟩
  · have roomy : makeRoom (greeted (.station st) s) = greeted (.station st) s :=
      makeRoom_room (by rwa [greeted_patterns])
    rw [roomy, greeted_patterns]
    obtain ⟨took, patterns, -⟩ := table_settled st tag .registerPattern s
      (if lock = 0 ∨ lockedCount st s.patterns < 10 then .done else .lockLimit)
      (s.patterns ++ [registered st c lock s.patterns])
    exact ⟨took, patterns⟩
  · have evicted := makeRoom_full (s := greeted (.station st) s) (v := v) (by rw [greeted_patterns, full])
      (by rwa [greeted_patterns])
    have emptied := makeRoom_full_patterns (s := greeted (.station st) s) (v := v) (by rw [greeted_patterns, full])
      (by rwa [greeted_patterns])
    rw [greeted_patterns] at evicted emptied
    have notices : ((makeRoom (greeted (.station st) s)).withPatterns ((makeRoom (greeted (.station st) s)).patterns
        ++ [registered st c lock s.patterns])).notices = (offerNotice v.owner (.evicted v.code (patternCount v.owner
          (withoutPattern v.code s.patterns)))
            ((greeted (.station st) s).withPatterns (withoutPattern v.code s.patterns))).notices := by
      rw [← evicted]
      rfl
    refine ⟨patterns.trans (by rw [emptied]; rfl), fun x hx => offered_sameNotices notices x (.inl hx), ?_⟩
    by_cases hh : hears s v.owner = true
    · rw [if_pos hh]
      exact fun place busy => offered_waits notices (makeRoom_links _) hh place busy
    · rw [if_neg hh]
      exact offered_sameNotices notices v.owner (.inr (by simpa using hh))

/-- Settles O42: the table by the code that is asked for, and in a full one the notice of the entry that goes. -/
theorem patternRegistration : Obligations.PatternRegistration := by
  intro s tag hi lo lock
  refine ⟨fun st hs law => ?_, fun hs => site_notOwner hs tag (.inl rfl) rfl⟩
  have served := exec_served (k := .registerPattern) (tag := tag) hs.1
    (admissible_commissioned .registerPattern _ [hi, lo, lock] s hs rfl rfl) (by decide)
  have counts := counts_settled st tag .registerPattern s
  refine ⟨_, served, ?_⟩
  rw [handlerOf, handleRegisterPattern_station, greeted_patterns]
  by_cases h0 : hi = 0 ∧ lo = 0
  · simp only [if_pos h0]
    exact counts .argument
  simp only [if_neg h0]
  cases hp : patternOf (hi ++ lo) s.patterns with
  | none => exact absentRegistered tag lock ((patternLaw_iff s).mp law) hp
  | some e =>
    by_cases ho : e.owner = st
    · simp only [if_pos ho]
      rw [refreshPattern_eq, greeted_patterns]
      exact table_settled st tag .registerPattern s _ _
    · simp only [if_neg ho]
      exact counts .conflict

end Sys2Proof.Machine
end

section
/-! SUPPORT. Entries that are handed over, captures, and the belt's operations keep the tables: no queued entry is touched, but where the queues are emptied (R22, R30, R31, R34, R40, R61, R63, R136). -/

namespace Sys2Proof.Machine

/-! ### Entries handed over -/

/-- An entry that no fire queue names may be handed over with a new identity. -/
theorem TablesKept.handOver {s₀ s : State} (h : TablesKept s₀ s) {r : EntryRef} {f : Entry → Entry}
    (hf : ∀ e, (f e).tag = e.tag) (hr : FireSound s₀ → Unqueued r s) (c : GlobalCounter) :
    TablesKept s₀ (handOver r f c s) :=
  ((h.modEntry hf hr).trans (raise_tablesKept (.ofPart c) _)).decideRoute (fun h₀ => hr h₀) none

/-- A PENDING entry stands in no fire queue. -/
theorem FireSound.unqueued_pending {s : State} (h : FireSound s) {e : Entry} (he : e ∈ pendingEntries s) :
    Unqueued e.ref s := by
  obtain ⟨hm, hs⟩ := List.mem_filter.mp he
  exact h.unqueued_of_state (find_of_mem h.names hm) (by rw [eq_of_beq hs]; simp)

/-- Entries given up in turn keep the tables where no fire queue names one of them. -/
theorem forEach_giveUp_tablesKept {s : State} {l : List EntryRef} (hl : FireSound s → ∀ r ∈ l, Unqueued r s) :
    TablesKept s (forEach l giveUp s) :=
  forEach_invariant (TablesKept s) giveUp l
    (fun r hr _ hu => hu.handOver unnamed_tag (fun hs => hu.unqueued (hl hs r hr)) _) s (tablesKept_refl s)

theorem reportedTable_tablesKept (r : ItemReport) (s : State) :
    TablesKept s (s.withPatterns (reportedTable r s.patterns)) :=
  withPatterns_lawful fun h => by
    unfold reportedTable
    split
    · exact h
    · exact lookupTable_lawful _ h

theorem matchReport_tablesKept (r : ItemReport) (s : State) : TablesKept s (matchReport r s) := by
  unfold matchReport
  split
  · exact raise_tablesKept _ s
  · next e he =>
    have pending := List.mem_of_find?_eq_some he
    have given : TablesKept s (forEach (((pendingEntries s).takeWhile fun x => !hasSeq r.seq x).map Entry.ref) giveUp s) :=
      forEach_giveUp_tablesKept fun hs x hx => by
        obtain ⟨y, hy, rfl⟩ := List.mem_map.mp hx
        exact hs.unqueued_pending ((List.takeWhile_sublist _).subset hy)
    rw [takeReport_eq]
    exact (given.trans (reportedTable_tablesKept r _)).handOver (identified_tag _ _ r)
      (fun hs => given.unqueued (hs.unqueued_pending pending)) _

/-- An entry whose ID window has run out is PENDING, and handed over unnamed (R34). -/
theorem expired_tablesKept {s : State} {r : EntryRef} {e : Entry} (hf : s.find r = some e) (he : e.state = .pending) :
    TablesKept s (handOver r unknownIdentity .idExpired s) :=
  (tablesKept_refl s).handOver unnamed_tag (fun hs => hs.unqueued_of_state hf (by simp [he])) _

/-! ### Captures -/

theorem makePendingRoom_tablesKept (s : State) : TablesKept s (makePendingRoom s) := by
  by_cases h : (pendingEntries s).length < 8
  · rw [makePendingRoom_room h]
    exact tablesKept_refl s
  · obtain ⟨e, rest, he⟩ := exists_oldest h
    rw [makePendingRoom_full he h]
    exact (tablesKept_refl s).handOver unnamed_tag (fun hs => hs.unqueued_pending (he ▸ List.mem_cons_self)) _

theorem countCapture_tablesKept (s : State) : TablesKept s (countCapture s) := tablesKept_of_tables rfl

theorem setCapture_tablesKept (c : Capture) (s : State) : TablesKept s (setCapture c s) := tablesKept_of_tables rfl

/-- A capture that is made joins the map under a tag that is not live (R22, R23). -/
theorem commitCapture_tablesKept (r : Pos) (s : State) : TablesKept s (commitCapture r s) := by
  by_cases h : Refused s
  · rw [commitCapture_refused r h]
    exact ((countCapture_tablesKept s).trans (raise_tablesKept _ _)).trans (setCapture_tablesKept _ _)
  · rw [commitCapture_made r h]
    have roomy := (countCapture_tablesKept s).trans (makePendingRoom_tablesKept (countCapture s))
    have fresh : (makePendingRoom (countCapture s)).find (newEntry r (s.reader.tagCounter + 1)).ref = none := by
      rw [find_eq_none_iff, (makePendingRoom_keeps (countCapture s)).2, ← find_eq_none_iff]
      exact not_not.mp fun hn => h (.inr hn)
    exact (roomy.trans (joined_tablesKept fresh)).trans (setCapture_tablesKept _ _)

/-- The length of an entry is not what a fire queue reads. -/
theorem closeCapture_tablesKept (x : Tag) (made : Bool) (n : Nat) (c : Bool) (s : State) :
    TablesKept s (closeCapture x made n c s) := by
  unfold closeCapture
  split
  · refine modEntry_unread (closeLength_tag n c) fun e => ?_
    unfold closeLength
    split <;> rfl
  · exact tablesKept_refl s

theorem endCapture_tablesKept (r : Pos) (s : State) : TablesKept s (endCapture r s) := by
  unfold endCapture
  split
  · exact (closeCapture_tablesKept _ _ _ _ s).trans (setCapture_tablesKept _ _)
  all_goals exact tablesKept_refl s

theorem clampCapture_tablesKept (x : Tag) (made : Bool) (s : State) : TablesKept s (clampCapture x made s) :=
  (closeCapture_tablesKept x made _ _ s).trans (tablesKept_of_tables rfl)

theorem eyeBlocks_tablesKept (s : State) : TablesKept s (eyeBlocks s) := by
  unfold eyeBlocks
  split
  case h_1 | h_2 => exact setCapture_tablesKept _ s
  all_goals exact tablesKept_refl s

theorem eyeClears_tablesKept (s : State) : TablesKept s (eyeClears s) := by
  unfold eyeClears
  split
  · split
    · exact setCapture_tablesKept _ s
    · exact (commitCapture_tablesKept _ s).trans (endCapture_tablesKept _ _)
  · exact endCapture_tablesKept _ s
  · exact setCapture_tablesKept _ s
  · exact tablesKept_refl s

/-! ### Queues that are emptied -/

/-- Where every fire queue is emptied, the map may change in all but its names, and the records may lose what awaits. -/
theorem tablesKept_of_emptied {s t : State} (patterns : t.patterns = s.patterns) (links : t.links = s.links)
    (notices : t.notices = s.notices) (names : (t.map.map Entry.ref).Sublist (s.map.map Entry.ref))
    (gate : ∀ g, (t.gate g).queue = [] ∧ (t.gate g).service = (s.gate g).service)
    (dest : ∀ d, (t.dest d).awaiting.length ≤ (s.dest d).awaiting.length
      ∧ (t.dest d).holds.gateOut = (s.dest d).holds.gateOut) : TablesKept s t where
  patterns h := by unfold PatternLaw; rw [patterns]; exact h
  fire h := ⟨h.names.sublist names, fun g => by rw [(gate g).1]; simp⟩
  queue g := by rw [(gate g).1]; exact List.nil_sublist _
  awaiting d := (dest d).1
  replies q := by simp only [State.link, links, le_refl]
  places st h := by simpa only [State.noticeQueue, notices] using h
  gateOut := gateOutLaw_congr (fun d => (dest d).2) fun g => (gate g).2

theorem abortUnfired_tablesKept (s : State) : TablesKept s (abortUnfired s) := by
  unfold abortUnfired
  split
  · exact endToken_tablesKept _ s
  · exact tablesKept_refl s

/-- The entries become SUSPECT as the queues are emptied (R61, R136). -/
theorem suspected_tablesKept (s : State) : TablesKept s (emptyQueues (s.withMap (s.map.map suspectEntry))) :=
  tablesKept_of_emptied rfl rfl rfl
    (by
      have refs : (s.map.map suspectEntry).map Entry.ref = s.map.map Entry.ref := by
        rw [List.map_map]
        exact List.map_congr_left fun e _ => suspectEntry_ref e
      exact refs ▸ List.Sublist.refl _)
    (fun g => by rw [emptyQueues_gate]; exact ⟨rfl, rfl⟩) fun d => ⟨le_rfl, rfl⟩

theorem abandonCapture_tablesKept (s : State) : TablesKept s (abandonCapture s) := by
  rw [abandonCapture_eq]
  exact tablesKept_of_tables rfl

theorem lossOutside_tablesKept (s : State) : TablesKept s (lossOutside s) :=
  (((abortUnfired_tablesKept s).trans (suspected_tablesKept _)).trans (abandonCapture_tablesKept _)).trans
    (raise_tablesKept _ _)

/-! ### The belt -/

/-- The belt unit may change in all but P. -/
theorem modBelt_tablesKept {s : State} {f : Belt → Belt} (h : (f s.belt).p = s.belt.p) : TablesKept s (s.modBelt f) :=
  tablesKept_of_tables (by simp only [State.tables, State.modBelt, h])

theorem takeWindowEnd_tablesKept (s : State) : TablesKept s (takeWindowEnd s) := by
  have ended : TablesKept s (s.modBelt endWindow) := modBelt_tablesKept (by rw [endWindow_eq])
  unfold takeWindowEnd
  dsimp only
  split
  · next h =>
    rw [encoderLoss_running h.1]
    exact (ended.trans (modBelt_tablesKept (f := lossBelt) rfl)).trans (lossOutside_tablesKept _)
  · exact ended

theorem idleStop_tablesKept (s : State) : TablesKept s (idleStop s) := by
  unfold idleStop
  split
  · exact modBelt_tablesKept rfl
  · exact tablesKept_refl s

theorem enterRunning_tablesKept (s : State) : TablesKept s (enterRunning s) := tablesKept_of_tables rfl

theorem recordCause_tablesKept (add : Causes → Causes) (s : State) : TablesKept s (recordCause add s) := by
  unfold recordCause
  split
  case h_1 | h_2 | h_3 => exact tablesKept_of_tables rfl
  all_goals exact tablesKept_refl s

theorem removeTail_tablesKept (s : State) : TablesKept s (removeTail s) := by
  have lost : TablesKept s
      (s.modBelt fun b => { b with tailFull := false, causes := { b.causes with tailFull := false } }) :=
    modBelt_tablesKept rfl
  unfold removeTail
  dsimp only
  split
  · exact lost.trans (enterRunning_tablesKept _)
  · exact lost

/-- A SUSPECT entry stands in no fire queue, and may leave (R63). -/
theorem TablesKept.discardSuspect {s₀ s : State} (h : TablesKept s₀ s) {e : Entry}
    (hr : FireSound s₀ → Unqueued e.ref s) : TablesKept s₀ (discardSuspect e s) := by
  have dropped : TablesKept s₀ (s.dropEntry e.ref) := h.dropEntry hr
  unfold Machine.discardSuspect
  dsimp only
  split
  · exact (dropped.trans (unreserve_tablesKept _ _)).trans (raise_tablesKept _ _)
  all_goals exact dropped.trans (raise_tablesKept _ _)

theorem discardSuspects_tablesKept (s : State) : TablesKept s (discardSuspects s) :=
  forEach_invariant (TablesKept s) Machine.discardSuspect _
    (fun e he u hu => hu.discardSuspect fun hs => hu.unqueued (by
      obtain ⟨hm, hst⟩ := List.mem_filter.mp he
      exact hs.unqueued_of_state (find_of_mem hs.names hm) (by rw [eq_of_beq hst]; simp))) s (tablesKept_refl s)

theorem resumeHalted_tablesKept (s : State) : TablesKept s (resumeHalted s) := by
  have cleared : TablesKept s (clearCauses s) := tablesKept_of_tables rfl
  by_cases h : s.belt.causes.encoderLoss = true
  · rw [resumeHalted_loss h]
    exact (cleared.trans (discardSuspects_tablesKept _)).trans (enterRunning_tablesKept _)
  · rw [resumeHalted_noLoss h]
    exact cleared.trans (enterRunning_tablesKept _)

end Sys2Proof.Machine
end

section
/-! SUPPORT. What the owning blocks answer keeps the tables, request by request (R99 to R117, R130 to R133, R170, R171, R180 to R187). -/

namespace Sys2Proof.Machine

/-! ### Destinations -/

/-- A request on a destination number answers as its own rule does, or refuses (R99 check 1). -/
theorem withDest_tablesKept {pl : List Byte} {s : State} {f : DestId → Answer} (h : ∀ d, TablesKept s (f d).state) :
    TablesKept s (withDest pl s f).state := by
  unfold withDest
  split
  · exact tablesKept_refl s
  · exact h _

/-- A changed record answers as the tables stand, where its queue and GATE_OUT do. -/
theorem recordReply_tablesKept {d : DestId} {f : Dest → Dest} (st : Status) {s : State}
    (h : (f (s.dest d)).awaiting = (s.dest d).awaiting)
    (hg : (f (s.dest d)).holds.gateOut = (s.dest d).holds.gateOut) :
    TablesKept s (recordReply d st (changeDest d f s)).state := changeDest_tablesKept (by rw [h]) hg

theorem recordReply_refused_tablesKept (d : DestId) (st : Status) (s : State) :
    TablesKept s (recordReply d st s).state := tablesKept_refl s

theorem handleClaim_tablesKept (q : Sender) (pl : List Byte) (s : State) : TablesKept s (handleClaim q pl s).state :=
  withDest_tablesKept fun d => by
    dsimp only
    split_ifs
    case neg => exact recordReply_tablesKept .done rfl rfl
    all_goals exact recordReply_refused_tablesKept d _ s

theorem handleOpen_tablesKept (q : Sender) (pl : List Byte) (s : State) : TablesKept s (handleOpen q pl s).state :=
  withDest_tablesKept fun d => by
    split
    · exact recordReply_refused_tablesKept d _ s
    · split
      case h_1 | h_2 => exact recordReply_tablesKept .done rfl rfl
      all_goals exact recordReply_refused_tablesKept d _ s

theorem handleClose_tablesKept (q : Sender) (pl : List Byte) (s : State) : TablesKept s (handleClose q pl s).state :=
  withDest_tablesKept fun d => by
    split
    · exact recordReply_refused_tablesKept d _ s
    · split
      case h_1 => exact recordReply_tablesKept .done rfl rfl
      all_goals exact recordReply_refused_tablesKept d _ s

theorem handleSetSlots_tablesKept (q : Sender) (pl : List Byte) (s : State) :
    TablesKept s (handleSetSlots q pl s).state :=
  withDest_tablesKept fun d => by
    split
    · exact recordReply_refused_tablesKept d _ s
    · split
      case h_1 | h_2 | h_3 => exact recordReply_tablesKept .done rfl rfl
      all_goals exact recordReply_refused_tablesKept d _ s

theorem handleClearFull_tablesKept (q : Sender) (pl : List Byte) (s : State) :
    TablesKept s (handleClearFull q pl s).state :=
  withDest_tablesKept fun d => by
    split
    · exact recordReply_refused_tablesKept d _ s
    · split
      case h_1 => exact recordReply_refused_tablesKept d _ s
      all_goals exact recordReply_tablesKept .done rfl rfl

theorem handleRelease_tablesKept (q : Sender) (pl : List Byte) (s : State) :
    TablesKept s (handleRelease q pl s).state :=
  withDest_tablesKept fun d => by
    split
    · exact recordReply_refused_tablesKept d _ s
    · split
      case h_1 => split <;> [exact completeRelease_tablesKept d s; exact recordReply_refused_tablesKept d _ s]
      all_goals exact recordReply_refused_tablesKept d _ s

theorem beginRelease_tablesKept (d : DestId) (s : State) : TablesKept s (beginRelease d s) := by
  have moved : TablesKept s (cascade [d] (changeDest d (fun r => { r with state := .releasing }) s)) :=
    (changeDest_tablesKept le_rfl rfl).trans (cascade_tablesKept _ _)
  unfold beginRelease
  dsimp only
  split
  · exact moved.trans (completeRelease_tablesKept d _)
  · exact moved

theorem handleForceRelease_tablesKept (q : Sender) (pl : List Byte) (s : State) :
    TablesKept s (handleForceRelease q pl s).state :=
  withDest_tablesKept fun d => by
    split
    case h_1 | h_2 | h_3 => exact beginRelease_tablesKept d s
    all_goals exact recordReply_refused_tablesKept d _ s

/-! ### Links -/

theorem orphanAll_tablesKept (q : Sender) (s : State) : TablesKept s (orphanAll q s) :=
  forEach_tablesKept (fun _ _ => changeDest_tablesKept le_rfl rfl) _ s

theorem unorphanAll_tablesKept (q : Sender) (s : State) : TablesKept s (unorphanAll q s) :=
  forEach_tablesKept (fun _ _ => changeDest_tablesKept le_rfl rfl) _ s

theorem emptyNotices_tablesKept (q : Sender) (s : State) : TablesKept s (emptyNotices q s) := by
  cases q with
  | station st => exact modNotices_tablesKept (f := fun n => { n with dests := [], places := [] }) fun _ => Nat.zero_le _
  | site => exact tablesKept_refl s

theorem restartSequence_tablesKept (q : Sender) (s : State) : TablesKept s (restartSequence q s) := by
  cases q with
  | station st => exact modNotices_tablesKept (f := fun n => { n with seq := 0 }) id
  | site => exact tablesKept_refl s

theorem loseLink_tablesKept (l : LinkState) (q : Sender) (s : State) : TablesKept s (loseLink l q s) :=
  ((modLink_tablesKept le_rfl).trans (emptyNotices_tablesKept q _)).trans (orphanAll_tablesKept q _)

theorem enterActive_tablesKept (q : Sender) (s : State) : TablesKept s (enterActive q s) :=
  ((modLink_tablesKept le_rfl).trans (restartSequence_tablesKept q _)).trans (unorphanAll_tablesKept q _)

theorem takeHello_tablesKept (q : Sender) (s : State) : TablesKept s (takeHello q s) := by
  unfold takeHello
  split
  case h_1 | h_2 => exact modLink_tablesKept le_rfl
  case h_3 => split <;> [exact enterActive_tablesKept q s; exact modLink_tablesKept le_rfl]
  all_goals exact tablesKept_refl s

theorem takeGoodbye_tablesKept (q : Sender) (s : State) : TablesKept s (takeGoodbye q s) := by
  unfold takeGoodbye
  split
  case h_1 | h_2 => exact loseLink_tablesKept _ q s
  case h_3 | h_4 => exact modLink_tablesKept le_rfl
  case h_5 => exact tablesKept_refl s

theorem takeSilence_tablesKept (q : Sender) (s : State) : TablesKept s (takeSilence q s) := by
  unfold takeSilence
  split
  case h_1 | h_2 => exact modLink_tablesKept le_rfl
  all_goals exact tablesKept_refl s

/-! ### Routes and belt -/

theorem writeList_tablesKept (q : Sender) (t : Option RouteTarget) (m : List Byte) (s : State) :
    TablesKept s (writeList q t m s).state := by
  have stored : ∀ (t : RouteTarget) l, TablesKept s (storeList t l s) := fun t l => by
    cases t <;> exact tablesKept_of_tables rfl
  unfold writeList
  dsimp only
  split
  · exact tablesKept_refl s
  · split
    · exact tablesKept_refl s
    · split
      · exact tablesKept_refl s
      · split
        · exact tablesKept_refl s
        · exact stored _ _

theorem handleWriteRoute_tablesKept (q : Sender) (pl : List Byte) (s : State) :
    TablesKept s (handleWriteRoute q pl s).state := by
  cases q <;> exact writeList_tablesKept _ _ _ s

theorem handleStart_tablesKept (q : Sender) (pl : List Byte) (s : State) : TablesKept s (handleStart q pl s).state := by
  unfold handleStart
  split
  case h_1 | h_2 => split <;> [exact tablesKept_refl s; exact enterRunning_tablesKept s]
  all_goals exact tablesKept_refl s

theorem handleStop_tablesKept (q : Sender) (pl : List Byte) (s : State) : TablesKept s (handleStop q pl s).state := by
  unfold handleStop
  split
  case h_1 | h_2 => exact tablesKept_of_tables rfl
  all_goals exact tablesKept_refl s

theorem handleResume_tablesKept (q : Sender) (pl : List Byte) (s : State) :
    TablesKept s (handleResume q pl s).state := by
  unfold handleResume
  split
  case h_1 => split <;> [exact resumeHalted_tablesKept s; exact tablesKept_refl s]
  all_goals exact tablesKept_refl s

/-! ### The site's configuration -/

theorem storeSettings_tablesKept (t : Settings) (s : State) : TablesKept s (storeSettings t s) := by
  have stored : TablesKept s { s with settings := t } := tablesKept_of_tables rfl
  exact (stored.trans (idleStop_tablesKept _)).trans (gainRerouting_tablesKept (set := setBlocked) (fun _ => rfl) _ _ _)

theorem handleSetBelt_tablesKept (q : Sender) (pl : List Byte) (s : State) :
    TablesKept s (handleSetBelt q pl s).state := by
  unfold handleSetBelt
  dsimp only
  split
  · exact tablesKept_refl s
  · split
    · exact tablesKept_refl s
    · exact storeSettings_tablesKept _ s

/-- A gate record with the queue and the service state of the present one may take its place. -/
theorem storeGate_tablesKept {g : GateId} {h : Gate} {s : State} (hq : h.queue = (s.gate g).queue)
    (hs : h.service = (s.gate g).service) : TablesKept s (storeGate g h s) := by
  have stored : TablesKept s (s.modGate g fun _ => h) := modGate_tablesKept (hq ▸ .refl _) hs
  unfold storeGate
  dsimp only
  split
  · exact stored.trans (beginWatch_tablesKept g _)
  · exact stored

theorem handleSetGate_tablesKept (q : Sender) (pl : List Byte) (s : State) :
    TablesKept s (handleSetGate q pl s).state := by
  unfold handleSetGate
  split
  · exact tablesKept_refl s
  · unfold setGateOf
    dsimp only
    split_ifs
    case pos | pos => exact tablesKept_refl s
    all_goals
      split
      · exact tablesKept_refl s
      · exact storeGate_tablesKept rfl rfl

theorem setDestRecord_awaiting (pl : List Byte) (b : Bool) (r : Dest) :
    (setDestRecord pl b r).awaiting = r.awaiting ∧ (setDestRecord pl b r).holds.gateOut = r.holds.gateOut := by
  unfold setDestRecord rackAfter
  dsimp only
  split_ifs <;> exact ⟨rfl, rfl⟩

theorem storeDest_tablesKept (d : DestId) (pl : List Byte) (s : State) : TablesKept s (storeDest d pl s) := by
  obtain ⟨awaiting, gateOut⟩ := setDestRecord_awaiting pl (s.rackSensor d) (s.dest d)
  have stored : TablesKept s (changeDest d (setDestRecord pl (s.rackSensor d)) s) :=
    changeDest_tablesKept (by rw [awaiting]) gateOut
  unfold storeDest
  dsimp only
  split
  · exact stored.trans (applyRack_tablesKept d _ _)
  · exact stored

theorem handleSetDest_tablesKept (q : Sender) (pl : List Byte) (s : State) :
    TablesKept s (handleSetDest q pl s).state := by
  unfold handleSetDest
  split
  · exact tablesKept_refl s
  · split
    · exact tablesKept_refl s
    · exact storeDest_tablesKept _ pl s

theorem commissionBelt_tablesKept (s : State) : TablesKept s (commissionBelt s) := by
  have stopped : TablesKept s ((standStill .stopped s).modBelt fun b => { b with tailMs := 0 }) :=
    tablesKept_of_tables rfl
  unfold commissionBelt
  exact stopped.trans (forEach_tablesKept beginWatch_tablesKept allGates _)

theorem handleCommission_tablesKept (q : Sender) (pl : List Byte) (s : State) :
    TablesKept s (handleCommission q pl s).state := by
  unfold handleCommission
  split
  · exact tablesKept_refl s
  · split
    · exact tablesKept_refl s
    · dsimp only
      exact commissionBelt_tablesKept s

/-! ### RESTART -/

theorem settleRestarted_tablesKept (d : DestId) (s : State) : TablesKept s (settleRestarted d s) := by
  unfold settleRestarted
  split
  case h_1 => exact changeDest_tablesKept le_rfl rfl
  case h_2 => exact completeRelease_tablesKept d s
  all_goals exact tablesKept_refl s

/-- RESTART leaves the map and every queue of it empty (R138, R155). -/
theorem restartPart_tablesKept (s : State) : TablesKept s (restartPart s) := by
  have ended := endToken_tablesKept .aborted s
  have emptied : TablesKept (endToken .aborted s) (restartBlocks s) :=
    tablesKept_of_emptied rfl rfl rfl (List.nil_sublist _)
      (fun g => by
        have gate : (restartBlocks s).gate g = restartGate ((endToken .aborted s).gate g) :=
          mapTable_get restartGate (endToken .aborted s).gates g
        rw [gate]
        exact ⟨rfl, rfl⟩)
      fun d => by
        have dest : (restartBlocks s).dest d = restartDest ((endToken .aborted s).dest d) :=
          mapTable_get restartDest (endToken .aborted s).dests d
        rw [dest]
        exact ⟨Nat.zero_le _, rfl⟩
  rw [restartPart_eq]
  exact (ended.trans emptied).trans (forEach_tablesKept settleRestarted_tablesKept _ _)

/-! ### The site's requests on gates -/

theorem makeToken_tablesKept (g : GateId) (side : Side) {s : State} (h : s.find .token = none) :
    TablesKept s (makeToken g side s) := by
  have joined : TablesKept s (s.withMap (s.map ++ [tokenEntry s.belt.p (gateDest g side)])) := joined_tablesKept h
  exact joined.trans (tablesKept_of_tables rfl)

theorem handleTestFire_tablesKept (q : Sender) (pl : List Byte) (s : State) :
    TablesKept s (handleTestFire q pl s).state := by
  unfold handleTestFire
  split
  · split_ifs
    case neg hb =>
      rw [Bool.or_eq_true, not_or, Option.not_isSome_iff_eq_none] at hb
      exact makeToken_tablesKept _ _ hb.1
    all_goals exact tablesKept_refl s
  all_goals exact tablesKept_refl s

theorem handleTakeGateOut_tablesKept (q : Sender) (pl : List Byte) (s : State) :
    TablesKept s (handleTakeGateOut q pl s).state := by
  unfold handleTakeGateOut
  split
  · exact tablesKept_refl s
  · split_ifs
    case pos => exact tablesKept_refl s
    case pos => exact (recordFault_tablesKept _ _ _ s).trans (gateOut_tablesKept _ _)
    case neg => exact tablesKept_refl s

theorem handleReturnGate_tablesKept (q : Sender) (pl : List Byte) (s : State) :
    TablesKept s (handleReturnGate q pl s).state := by
  unfold handleReturnGate
  split
  · exact tablesKept_refl s
  · split_ifs
    case neg => exact gateBack_tablesKept _ s
    all_goals exact tablesKept_refl s

/-! ### Every block's answer -/

/-- Free values are drawn beside the tables. -/
theorem drew_tablesKept (s : State) (n : Nat) : TablesKept s (s.drew n) := tablesKept_of_tables rfl

/-- What the owning block of any kind answers keeps the tables. -/
theorem handlerOf_tablesKept (k : Kind) (q : Sender) (pl : List Byte) (s : State) :
    TablesKept s (handlerOf k q pl s).state := by
  cases k with
  | hello => exact takeHello_tablesKept q s
  | goodbye => exact takeGoodbye_tablesKept q s
  | claim => exact handleClaim_tablesKept q pl s
  | release => exact handleRelease_tablesKept q pl s
  | openDest => exact handleOpen_tablesKept q pl s
  | closeDest => exact handleClose_tablesKept q pl s
  | setSlots => exact handleSetSlots_tablesKept q pl s
  | clearFull => exact handleClearFull_tablesKept q pl s
  | queryDest => exact withDest_tablesKept fun _ => tablesKept_refl s
  | forceRelease => exact handleForceRelease_tablesKept q pl s
  | writeRoute => exact handleWriteRoute_tablesKept q pl s
  | readRoute =>
    show TablesKept s (handleReadRoute q pl s).state
    unfold handleReadRoute
    split <;> exact tablesKept_refl s
  | setList => exact writeList_tablesKept _ _ _ s
  | registerPattern => exact handleRegisterPattern_tablesKept q pl s
  | dropPattern => exact handleDropPattern_tablesKept q pl s
  | clearPatterns => exact handleClearPatterns_tablesKept q pl s
  | setBelt => exact handleSetBelt_tablesKept q pl s
  | setGate => exact handleSetGate_tablesKept q pl s
  | setDest => exact handleSetDest_tablesKept q pl s
  | commission => exact handleCommission_tablesKept q pl s
  | start => exact handleStart_tablesKept q pl s
  | stop => exact handleStop_tablesKept q pl s
  | resume => exact handleResume_tablesKept q pl s
  | restart =>
    show TablesKept s (handleRestart q pl s).state
    unfold handleRestart beltReply
    dsimp only
    exact restartPart_tablesKept s
  | testFire => exact handleTestFire_tablesKept q pl s
  | readTest =>
    show TablesKept s (if s.test.fireAt.isSome then s else s.drew 3)
    split <;> [exact tablesKept_refl s; exact drew_tablesKept s 3]
  | takeGateOut => exact handleTakeGateOut_tablesKept q pl s
  | returnGate => exact handleReturnGate_tablesKept q pl s
  | readFault =>
    show TablesKept s (handleReadFault q pl s).state
    unfold handleReadFault
    split
    · exact tablesKept_refl s
    · dsimp only
      split <;> [exact tablesKept_refl s; exact drew_tablesKept s 3]
  | readMap =>
    show TablesKept s (handleReadMap q pl s).state
    unfold handleReadMap
    split <;> [exact tablesKept_refl s; exact drew_tablesKept s _]
  | snapshot | snapshotClear | readConditions | setEnables => exact tablesKept_of_tables rfl
  | readSnapshot =>
    show TablesKept s (handleReadSnapshot q pl s).state
    unfold handleReadSnapshot
    split <;> exact tablesKept_refl s
  | itemReport => exact tablesKept_refl s

end Sys2Proof.Machine
end

section
/-! SUPPORT. What joins a queue keeps the laws: a reply, an awaiting-confirm record, and an entry that takes its place in a fire queue (R122, R123, R126, R139, R163). -/

namespace Sys2Proof.Machine

/-! ### The laws, over one change or several -/

/-- The laws of the tables hold after a change where they held before it. -/
structure LawsKept (s t : State) : Prop where
  patterns : PatternLaw s → PatternLaw t
  queues : QueueLaw s → QueueLaw t
  fire : FireSound s → FireSound t
  gateOut : GateOutLaw s → GateOutLaw t

theorem lawsKept_refl (s : State) : LawsKept s s := ⟨id, id, id, id⟩

theorem LawsKept.trans {s t u : State} (h : LawsKept s t) (k : LawsKept t u) : LawsKept s u :=
  ⟨k.patterns ∘ h.patterns, k.queues ∘ h.queues, k.fire ∘ h.fire, k.gateOut ∘ h.gateOut⟩

/-- Queues that lose members at most keep their bounds. -/
theorem QueuesKept.queueLaw {s t : State} (h : QueuesKept s t) (law : QueueLaw s) : QueueLaw t := by
  obtain ⟨awaiting, queue, replies, places⟩ := law
  exact ⟨fun d => (h.awaiting d).trans (awaiting d), fun g => (h.queue g).length_le.trans (queue g),
    fun q => (h.replies q).trans (replies q), fun st => h.places st (places st)⟩

theorem TablesKept.lawsKept {s t : State} (h : TablesKept s t) : LawsKept s t :=
  ⟨h.patterns, h.toQueuesKept.queueLaw, h.fire, h.gateOut⟩

/-! ### Replies (R163) -/

/-- A reply joins a queue that had a place for it. -/
theorem TablesKept.queueReply {s : State} {q : Sender} {a : Answer} (h : TablesKept s a.state) (tag kind : Byte)
    (room : (s.link q).replies.length < 8) : LawsKept s (queueReply q tag kind a) where
  patterns := h.patterns
  queues law := by
    obtain ⟨awaiting, queue, replies, places⟩ := h.toQueuesKept.queueLaw law
    refine ⟨awaiting, queue, fun x => ?_, places⟩
    have kept := h.replies q
    rw [Machine.queueReply, modLink_link]
    split
    · simp only [List.length_append, List.length_singleton]
      omega
    · exact replies x
  fire hs := (h.fire hs).of_queues (h.fire hs).names rfl (fun _ => .refl _) fun _ _ _ => rfl
  gateOut := h.gateOut

/-! ### Awaiting-confirm records (R139, R140) -/

/-- A record joins a queue that had a place for it. -/
theorem LawsKept.joinsAwaiting {s₀ s : State} (h : LawsKept s₀ s) {d : DestId}
    (room : QueueLaw s₀ → (s.dest d).awaiting.length < 4) (a : Awaiting) :
    LawsKept s₀ (s.modDest d fun r => { r with awaiting := r.awaiting ++ [a] }) where
  patterns := h.patterns
  queues law := by
    have place := room law
    obtain ⟨awaiting, queue, replies, places⟩ := h.queues law
    refine ⟨fun x => ?_, queue, replies, places⟩
    rw [modDest_dest]
    split
    · simp only [List.length_append, List.length_singleton]
      omega
    · exact awaiting x
  fire hs := (h.fire hs).of_queues (h.fire hs).names rfl (fun _ => .refl _) fun _ _ _ => rfl
  gateOut law := by
    refine gateOutLaw_congr (s := s) (fun x => ?_) (fun _ => rfl) (h.gateOut law)
    rw [modDest_dest]
    split
    · next e => rw [e]
    · rfl

/-- The forced miss makes the place for the record that would be the fifth (R140). -/
theorem joinAwaiting_lawsKept (d : DestId) (a : Awaiting) (s : State) : LawsKept s (joinAwaiting d a s) := by
  unfold joinAwaiting
  dsimp only
  split
  · next full =>
    have nonempty : (s.dest d).awaiting ≠ [] := fun h => by simp [h] at full
    exact (miss_tablesKept d 0 s).lawsKept.joinsAwaiting
      (fun ⟨awaiting, _⟩ => (miss_head_awaiting nonempty).trans_le (awaiting d)) a
  · next room => exact (lawsKept_refl s).joinsAwaiting (fun _ => Nat.lt_of_not_le room) a

/-! ### A fire queue that an entry joins (R122, R123) -/

/-- An element put behind those whose key does not exceed its own leaves a sorted list sorted. -/
theorem pairwise_insertIdx {α : Type} (key : α → Nat) (r : α) {l : List α} (h : l.Pairwise fun x y => key x ≤ key y) :
    (l.insertIdx (l.filter fun x => decide (key x ≤ key r)).length r).Pairwise fun x y => key x ≤ key y := by
  induction l with
  | nil => simp
  | cons x l ih =>
    obtain ⟨first, rest⟩ := List.pairwise_cons.mp h
    by_cases hx : key x ≤ key r
    · rw [List.filter_cons_of_pos (by simpa using hx), List.length_cons, List.insertIdx_succ_cons, List.pairwise_cons]
      refine ⟨fun y hy => ?_, ih rest⟩
      rcases List.eq_or_mem_of_mem_insertIdx hy with rfl | hy
      · exact hx
      · exact first y hy
    · have none : (x :: l).filter (fun y => decide (key y ≤ key r)) = [] := by
        refine List.filter_eq_nil_iff.mpr fun y hy => ?_
        rcases List.mem_cons.mp hy with rfl | hy
        · simpa using hx
        · have := first y hy
          simp only [decide_eq_true_eq]
          omega
      rw [none, List.length_nil, List.insertIdx_zero, List.pairwise_cons]
      refine ⟨fun y hy => ?_, h⟩
      rcases List.mem_cons.mp hy with rfl | hy
      · omega
      · have := first y hy
        omega

/-- An entry as it is armed (R121, R123). -/
def armedAs (f : Pos) (late : Bool) (e : Entry) : Entry := { e with state := .armed, fireAt := some f, late := late }

section
variable {s : State} {r : EntryRef} {e : Entry} {g : GateId} (f : Pos) (late : Bool)

/-- Only the queue of the gate moves. -/
theorem joinQueue_gate (r : EntryRef) (g x : GateId) (s : State) : (joinQueue r g f late s).gate x
    = if x = g then { s.gate g with queue := (s.gate g).queue.insertIdx (queuePlace s g f) r } else s.gate x := by
  have gate : (joinQueue r g f late s).gate x
      = (s.modGate g fun y => { y with queue := y.queue.insertIdx (queuePlace s g f) r }).gate x := by
    unfold joinQueue
    dsimp only
    split <;> rfl
  rw [gate, modGate_gate]

theorem joinQueue_queue (r : EntryRef) (g x : GateId) (s : State) : ((joinQueue r g f late s).gate x).queue
    = if x = g then (s.gate g).queue.insertIdx (queuePlace s g f) r else (s.gate x).queue := by
  rw [joinQueue_gate]
  split <;> rfl

theorem joinQueue_dests (r : EntryRef) (g : GateId) (s : State) : (joinQueue r g f late s).dests = s.dests := by
  unfold joinQueue
  dsimp only
  split <;> rfl

theorem joinQueue_notices (r : EntryRef) (g : GateId) (s : State) :
    (joinQueue r g f late s).notices = s.notices := by
  unfold joinQueue
  dsimp only
  split <;> rfl

theorem joinQueue_map (r : EntryRef) (g : GateId) (s : State) : (joinQueue r g f late s).map
    = updateEntry r (armedAs f late) s.map := by
  unfold joinQueue
  dsimp only
  split <;> rfl

theorem joinQueue_find_self (g : GateId) (h : s.find r = some e) : (joinQueue r g f late s).find r
    = some (armedAs f late e) := by
  rw [State.find, joinQueue_map]
  exact find_updateEntry_self h rfl

theorem joinQueue_find_ne {x : EntryRef} (g : GateId) (h : x ≠ r) : (joinQueue r g f late s).find x = s.find x := by
  rw [State.find, joinQueue_map]
  exact find_updateEntry_ne h fun e _ he => he

/-- The place an entry takes lies in its queue. -/
theorem queuePlace_le (g : GateId) (s : State) : queuePlace s g f ≤ (s.gate g).queue.length := List.length_filter_le _ _

theorem mem_joinQueue {x : EntryRef} (y : GateId) (s : State) : x ∈ ((joinQueue r g f late s).gate y).queue
    ↔ y = g ∧ x = r ∨ x ∈ (s.gate y).queue := by
  rw [joinQueue_queue]
  split
  · next h => rw [h, List.mem_insertIdx (queuePlace_le f g s)]; simp
  · next h => simp [h]

/-- An entry that is ROUTED to a gate, armed at the place its F gives it, leaves the queues by their law. -/
theorem joinQueue_fireSound (hs : FireSound s) (hf : s.find r = some e) (he : e.state = .routed)
    (hg : e.gate? = some g) : FireSound (joinQueue r g f late s) := by
  have fresh : Unqueued r s := hs.unqueued_of_state hf (by simp [he])
  have hp : (joinQueue r g f late s).belt.p = s.belt.p := by rw [belt_of_kept (joinQueue_kept r g f late s)]
  have stands : ∀ y, ∀ x ∈ (s.gate y).queue, (joinQueue r g f late s).find x = s.find x := fun y x hx =>
    joinQueue_find_ne f late g fun h => fresh y (h ▸ hx)
  have same : ∀ y, ∀ x ∈ (s.gate y).queue, fireAhead (joinQueue r g f late s) x = fireAhead s x := fun y x hx => by
    simp only [fireAhead, fireAtOf, stands y x hx, hp]
  have own : fireAhead (joinQueue r g f late s) r = ahead s.belt.p f := by
    simp only [fireAhead, fireAtOf, joinQueue_find_self f late g hf, Option.bind_some, armedAs, hp]
  refine ⟨?_, fun y => ⟨?_, fun x hx => ?_, ?_⟩⟩
  · rw [joinQueue_map, modEntry_names (f := armedAs f late) fun _ => rfl]
    exact hs.names
  · rw [joinQueue_queue]
    split
    · rw [(List.perm_insertIdx r _ (queuePlace_le f g s)).nodup_iff, List.nodup_cons]
      exact ⟨fresh g, (hs.fire g).1⟩
    · exact (hs.fire y).1
  · rcases (mem_joinQueue f late y s).mp hx with ⟨rfl, rfl⟩ | hx
    · exact ⟨_, joinQueue_find_self f late y hf, rfl, hg, rfl⟩
    · obtain ⟨z, hz, rest⟩ := (hs.fire y).2.1 x hx
      exact ⟨z, (stands y x hx).trans hz, rest⟩
  · have sorted : (s.gate y).queue.Pairwise fun a b =>
        fireAhead (joinQueue r g f late s) a ≤ fireAhead (joinQueue r g f late s) b :=
      (hs.fire y).2.2.imp_of_mem fun ha hb h => by rwa [same y _ ha, same y _ hb]
    rw [joinQueue_queue]
    split
    · next h =>
      subst h
      have place : queuePlace s y f = ((s.gate y).queue.filter fun x =>
          decide (fireAhead (joinQueue r y f late s) x ≤ fireAhead (joinQueue r y f late s) r)).length := by
        refine congrArg List.length (List.filter_congr fun x hx => ?_)
        obtain ⟨z, hz, -, -, hfire⟩ := (hs.fire y).2.1 x hx
        obtain ⟨at', hat⟩ := Option.isSome_iff_exists.mp hfire
        rw [own, same y x hx]
        simp only [firesBefore, fireAhead, fireAtOf, hz, Option.bind_some, hat]
      rw [place]
      exact pairwise_insertIdx _ r sorted
    · exact sorted

/-- The entry takes the last of four places at most (R123). -/
theorem joinQueue_lawsKept (hf : s.find r = some e) (he : e.state = .routed) (hg : e.gate? = some g)
    (room : (s.gate g).queue.length < 4) : LawsKept s (joinQueue r g f late s) := by
  have kept := joinQueue_kept r g f late s
  have dest : ∀ d, (joinQueue r g f late s).dest d = s.dest d := fun d => by simp only [State.dest, joinQueue_dests]
  refine ⟨fun h => ?_, fun law => ?_, fun h => joinQueue_fireSound f late h hf he hg, ?_⟩
  · unfold PatternLaw
    rw [patterns_of_kept kept]
    exact h
  · obtain ⟨awaiting, queue, replies, places⟩ := law
    refine ⟨fun d => by rw [dest]; exact awaiting d, fun x => ?_, fun q => ?_, fun st => ?_⟩
    · rw [joinQueue_queue]
      split
      · rw [List.length_insertIdx, if_pos (queuePlace_le f g s)]
        omega
      · exact queue x
    · simpa only [State.link, links_of_kept kept] using replies q
    · simpa only [State.noticeQueue, joinQueue_notices] using places st
  · refine gateOutLaw_congr (fun d => by rw [dest]) fun x => ?_
    rw [joinQueue_gate]
    split
    · next h => rw [h]
    · rfl

end

theorem armingDue_some {s : State} {e : Entry} {d : DestId} {n : Nat} (h : armingDue s e = some (d, n)) :
    e.state = .routed ∧ e.gate? = some (destGate d) := by
  unfold armingDue at h
  split at h
  · next x m hd _ =>
    split at h
    · next hr =>
      cases h
      exact ⟨hr.1, by rw [Entry.gate?, hd]⟩
    · cases h
  all_goals cases h

/-- A due entry takes its place in the queue, or is refused and takes none (R123). -/
theorem armEntry_lawsKept {r : EntryRef} {e : Entry} {d : DestId} {n : Nat} {s : State} (hf : s.find r = some e)
    (hd : armingDue s e = some (d, n)) : LawsKept s (armEntry r e d n s) := by
  obtain ⟨routed, gate⟩ := armingDue_some hd
  unfold armEntry
  dsimp only
  split
  · exact (refuseArming_tablesKept r d s).lawsKept
  · next accepted =>
    refine joinQueue_lawsKept _ _ hf routed gate ?_
    simp only [armingRefused, Bool.or_eq_true, not_or, decide_eq_true_eq, Nat.not_le] at accepted
    exact accepted.1.1

/-! ### The head of a fire queue that fires (R125, R126) -/

theorem headDue_some {s : State} {g : GateId} {e : Entry} {d : DestId} {f : Pos} (h : headDue s g = some (e, d, f)) :
    ∃ rest, (s.gate g).queue = e.ref :: rest ∧ s.find e.ref = some e := by
  unfold headDue at h
  split at h
  · cases h
  · next x hx =>
    obtain ⟨r, hr, hf⟩ := Option.bind_eq_some_iff.mp hx
    obtain ⟨rest, hq⟩ := List.head?_eq_some_iff.mp hr
    split at h
    · split at h
      · cases h
        exact ⟨rest, by rw [hq, find_ref hf], by rw [find_ref hf, hf]⟩
      · cases h
    all_goals cases h

theorem firedGate_queue (side : Side) (f : Pos) (x : Gate) :
    (firedGate side f x).queue = x.queue.tail ∧ (firedGate side f x).service = x.service := by
  cases side <;> exact ⟨rfl, rfl⟩

theorem countFire_tablesKept (g : GateId) (late : Bool) (s : State) : TablesKept s (countFire g late s) := by
  unfold countFire
  dsimp only
  split
  · exact (raise_tablesKept _ s).trans (raise_tablesKept _ _)
  · exact raise_tablesKept _ s

theorem countFire_gate (g x : GateId) (late : Bool) (s : State) : (countFire g late s).gate x = s.gate x := by
  unfold countFire
  dsimp only
  split <;> rfl

/-- The fired head has left the queue, which names no entry twice, and stands in no other. -/
theorem fired_unqueued {s : State} {g : GateId} {e : Entry} {rest : List EntryRef} (side : Side) (f : Pos)
    (hs : FireSound s) (hq : (s.gate g).queue = e.ref :: rest) (hf : s.find e.ref = some e) :
    Unqueued e.ref (countFire g e.late (s.modGate g (firedGate side f))) := fun x hx => by
  have head : e.ref ∈ (s.gate g).queue := hq ▸ List.mem_cons_self
  rw [countFire_gate, modGate_gate] at hx
  split at hx
  · rw [(firedGate_queue side f _).1, hq, List.tail_cons] at hx
    have nodup := (hs.fire g).1
    rw [hq, List.nodup_cons] at nodup
    exact nodup.1 hx
  · next hg => exact hg (Option.some.inj ((hs.gate_of_queued hf hx).symm.trans (hs.gate_of_queued hf head)))

theorem fire_lawsKept {s : State} {g : GateId} {e : Entry} {d : DestId} {f : Pos} (h : headDue s g = some (e, d, f)) :
    LawsKept s (fire g e d f s) := by
  obtain ⟨rest, hq, hf⟩ := headDue_some h
  obtain ⟨queue, service⟩ := firedGate_queue (destSide d) f (s.gate g)
  have fired : TablesKept s (countFire g e.late (s.modGate g (firedGate (destSide d) f))) :=
    (modGate_tablesKept (queue ▸ List.tail_sublist _) service).trans (countFire_tablesKept g _ _)
  unfold fire
  dsimp only
  split
  · exact (fired.trans (startCheck_tablesKept g _ true _)).lawsKept
  · next t ht =>
    have named : e.ref = .tag t := by rw [Entry.ref, ht]
    have dropped : TablesKept s ((countFire g e.late (s.modGate g (firedGate (destSide d) f))).dropEntry (.tag t)) :=
      fired.dropEntry fun hs => named ▸ fired_unqueued (destSide d) f hs hq hf
    exact (dropped.lawsKept.trans (joinAwaiting_lawsKept d _ _)).trans (startCheck_tablesKept g _ false _).lawsKept

end Sys2Proof.Machine
end

section
/-! SUPPORT. Frames, events, the end of an event and a millisecond keep the laws of the tables (R158 to R165, R178; log 42). -/

namespace Sys2Proof.Machine

/-! ### Frames -/

theorem badOnPort_tablesKept (p : Port) (s : State) : TablesKept s (badOnPort p s) := by
  have counted : TablesKept s (s.raisePort p .framesBad) := raise_tablesKept _ s
  unfold badOnPort
  dsimp only
  split
  · exact counted
  · exact counted.trans (modLink_tablesKept (by split <;> exact le_rfl))

theorem goodOnPort_tablesKept (q : Sender) (s : State) : TablesKept s (goodOnPort q s) :=
  ((raise_tablesKept _ s).trans (modLink_tablesKept le_rfl)).trans (syncConditions_tablesKept _)

theorem serveKind_tablesKept (k : Kind) (q : Sender) (pl : List Byte) (s : State) :
    TablesKept s (serveKind k (handlerOf k) q pl s).state :=
  serveKind_keeps (TablesKept s) k (handlerOf k) (fun q pl u hu => hu.trans (handlerOf_tablesKept k q pl u)) q pl s
    (tablesKept_refl s)

/-- A frame is dropped where 8 replies wait, and otherwise its reply finds a place (R163). -/
theorem takeOnPort_lawsKept (q : Sender) (tag kind : Byte) {serve : State → Answer}
    (h : ∀ s, TablesKept s (serve s).state) (s : State) : LawsKept s (takeOnPort q tag kind serve s) := by
  unfold takeOnPort
  split
  · exact (badOnPort_tablesKept _ s).lawsKept
  · next room => exact ((goodOnPort_tablesKept q s).trans (h _)).queueReply tag kind (Nat.lt_of_not_le room)

theorem takeRequest_lawsKept (k : Kind) (p : Port) (tag : Byte) (pl : List Byte) (s : State) :
    LawsKept s (takeRequest k (handlerOf k) p tag pl s) := by
  cases p with
  | identifier => exact (badOnPort_tablesKept .identifier s).lawsKept
  | sender q => exact takeOnPort_lawsKept q tag _ (serveKind_tablesKept k q pl) s

theorem takeUnknown_lawsKept (p : Port) (kind tag : Byte) (s : State) : LawsKept s (takeUnknown p kind tag s) := by
  cases p with
  | identifier => exact (badOnPort_tablesKept .identifier s).lawsKept
  | sender q => exact takeOnPort_lawsKept q tag kind (fun u => tablesKept_refl u) s

theorem takeItemReport_lawsKept (p : Port) (tag : Byte) (pl : List Byte) (s : State) :
    LawsKept s (takeItemReport p tag pl s) := by
  cases p with
  | sender q => exact takeUnknown_lawsKept (.sender q) _ tag s
  | identifier =>
    have heard : TablesKept s (hearIdentifier (s.raisePort .identifier .framesGood)) := tablesKept_of_tables rfl
    unfold takeItemReport
    dsimp only
    split
    · exact (heard.trans (matchReport_tablesKept _ _)).lawsKept
    · exact (badOnPort_tablesKept _ s).lawsKept

theorem settleIdle_tablesKept (s : State) : TablesKept s (settleIdle s) := by
  unfold settleIdle
  split
  · exact modBelt_tablesKept rfl
  · exact tablesKept_refl s

/-- Whatever a line delivers keeps the laws. -/
theorem lawsKept_lineInvariant (s : State) : LineInvariant (LawsKept s) where
  receiver p f u h := h.trans (tablesKept_of_tables (s := u) (t := u.modReceiver p f) rfl).lawsKept
  bad p u h := h.trans (badOnPort_tablesKept p u).lawsKept
  request k p tag pl u h := h.trans (takeRequest_lawsKept k p tag pl u)
  unknown p kind tag u h := h.trans (takeUnknown_lawsKept p kind tag u)
  report p tag pl u h := h.trans (takeItemReport_lawsKept p tag pl u)
  idle u h := h.trans (settleIdle_tablesKept u).lawsKept

/-! ### The end of an event (R164) -/

theorem takeNotice_tablesKept (st : Station) (s : State) : TablesKept s (takeNotice st s) := by
  unfold takeNotice
  split
  · dsimp only
    split
    · exact (modLink_tablesKept le_rfl).trans (modNotices_tablesKept id)
    · next n rest _ hp =>
      refine (modLink_tablesKept le_rfl).trans (modNotices_tablesKept fun h => ?_)
      rw [modLink_noticeQueue, hp, List.length_cons] at h
      exact Nat.le_of_succ_le h
    · exact tablesKept_refl s
  · exact tablesKept_refl s

theorem fillTransmitter_tablesKept (q : Sender) (s : State) : TablesKept s (fillTransmitter q s) := by
  unfold fillTransmitter
  split
  · exact tablesKept_refl s
  · split
    · next r rest hr => exact modLink_tablesKept (by rw [hr]; exact Nat.le_succ _)
    · split
      · exact takeNotice_tablesKept _ s
      · exact tablesKept_refl s

theorem settle_tablesKept (s : State) : TablesKept s (settle s) :=
  ((syncConditions_tablesKept s).trans (settleIdle_tablesKept _)).trans
    (forEach_tablesKept fillTransmitter_tablesKept allSenders _)

/-! ### Events -/

/-- Wherever a command's meaning answers a next state, the laws are kept there. -/
def KeepsLaws (r : State → Result) : Prop := ∀ s t, r s = .next t → LawsKept s t

theorem keepsLaws_of_keeps {r : State → Result} (h : ∀ s, Keeps (LawsKept s) r) : KeepsLaws r := fun s t e =>
  h s s t (lawsKept_refl s) e

theorem event_keepsLaws {f : State → State} (hf : ∀ s, LawsKept s (f s)) : KeepsLaws (event f) :=
  keepsLaws_of_keeps fun _ => event_keeps (fun u h => h.trans (settle_tablesKept u).lawsKept) fun u h => h.trans (hf u)

/-- An event whose change keeps the tables. -/
theorem event_keepsTables {f : State → State} (hf : ∀ s, TablesKept s (f s)) : KeepsLaws (event f) :=
  event_keepsLaws fun s => (hf s).lawsKept

/-- A change of an input whose act keeps the tables; the level is no part of them. -/
theorem inputEvent_keepsTables {pin : State → State} {act : State → State → State} (hp : ∀ s, (pin s).tables = s.tables)
    (ha : ∀ s₀ s, TablesKept s (act s₀ s)) : KeepsLaws fun s => inputEvent pin (act s) s :=
  keepsLaws_of_keeps fun _ => inputEvent_keeps (fun u h => h.trans (settle_tablesKept u).lawsKept)
    (fun u h => h.trans (tablesKept_of_tables (hp u)).lawsKept) fun s₀ u h => h.trans (ha s₀ u).lawsKept

/-- An event that happens under a condition. -/
theorem ite_tablesKept {c : Prop} [Decidable c] {s t : State} (h : c → TablesKept s t) :
    TablesKept s (if c then t else s) := by
  split
  · next hc => exact h hc
  · exact tablesKept_refl s

/-! ### Reset and its release (R178) -/

/-- Both resets leave empty tables. -/
theorem resetPart_lawsKept (s : State) : LawsKept s (resetPart s) where
  patterns _ := by simp [PatternLaw, resetPart, State.reset, lockedCount]
  queues _ := by
    refine ⟨fun d => ?_, fun g => ?_, fun q => ?_, fun st => ?_⟩
    · rw [resetPart_dest]; simp
    · rw [resetPart_gate]; simp
    · rw [resetPart_link]; simp
    · rw [resetPart_noticeQueue]; simp
  fire _ := ⟨by simp [resetPart, State.reset], fun g => by rw [resetPart_gate]; simp⟩
  gateOut _ d := by rw [resetPart_dest, resetPart_gate]; simp

/-- Records that keep what awaits at them and their GATE_OUT may be changed one after another. -/
theorem eachDest_tablesKept {f : DestId → Dest → Dest} (awaiting : ∀ d r, (f d r).awaiting = r.awaiting)
    (gateOut : ∀ d r, (f d r).holds.gateOut = r.holds.gateOut) (l : List DestId) (s : State) :
    TablesKept s (eachDest l f s) :=
  forEach_tablesKept (f := fun d x => x.modDest d (f d))
    (fun d u => modDest_tablesKept (by rw [awaiting d (u.dest d)]) (gateOut d _)) l s

theorem startEyes_tablesKept (s : State) : TablesKept s (startEyes s) := by
  rw [startEyes_eq]
  refine eachDest_tablesKept ?_ ?_ allDests s <;> exact fun _ _ => rfl

theorem releasePart_tablesKept (s : State) : TablesKept s (releasePart s) := by
  have begun : TablesKept s { s with inReset := false } := tablesKept_of_tables rfl
  have read : ∀ (u : State) (f : ReadPoint → ReadPoint), TablesKept u (u.modReader f) := fun _ _ =>
    tablesKept_of_tables rfl
  exact (begun.trans (startEyes_tablesKept _)).trans (read _ _)

theorem execResetRelease_keepsLaws : KeepsLaws execResetRelease := fun s t e => by
  unfold execResetRelease at e
  cases e
  split
  · exact ((releasePart_tablesKept s).trans (settle_tablesKept _)).lawsKept
  · exact lawsKept_refl s

/-! ### A millisecond -/

/-- A millisecond moves timers alone. -/
theorem tick_tablesKept (s : State) : TablesKept s (tick s) := by
  cases hr : s.inReset with
  | true =>
    rw [tick, if_pos hr]
    exact tablesKept_refl s
  | false =>
    have gate : ∀ g, ((tick s).gate g).queue = (s.gate g).queue := fun g => by rw [tick_gate hr]; rfl
    have p : (tick s).belt.p = s.belt.p := by rw [tick_belt hr]; rfl
    have map : (tick s).map = s.map := by rw [tick_frame hr]
    exact {
      patterns := fun h => by
        have patterns : (tick s).patterns = s.patterns := by rw [tick_frame hr]
        unfold PatternLaw
        rw [patterns]
        exact h
      fire := fun h => h.of_queues (by rw [map]; exact h.names) p (fun g => by rw [gate]) fun g r _ => by
        simp only [State.find, map]
      queue := fun g => by rw [gate]
      awaiting := fun d => by rw [tick_dest hr]; simp [tickDest]
      replies := fun q => by rw [tick_link hr]; exact le_rfl
      places := fun st h => by
        have notices : (tick s).notices = s.notices := by rw [tick_frame hr]
        simpa only [State.noticeQueue, notices] using h
      gateOut := gateOutLaw_congr (fun d => by rw [tick_dest hr]; rfl) fun g => by rw [tick_gate hr]; rfl }

end Sys2Proof.Machine
end

section
/-! SUPPORT. Every command but the encoder pulse keeps the laws of the tables as they stand; a pulse moves P alone, and keeps the fire order where no F is left half the circle behind (R1, R2, R122). -/

namespace Sys2Proof.Machine

/-! ### The commands -/

/-- An edge of an input acts on the tables as its block does, and a level that is there already does nothing. -/
theorem inputEdge_keepsTables {pin act : State → State} {there : State → Prop} [DecidablePred there]
    (hp : ∀ s, (pin s).tables = s.tables) (ha : ∀ s, TablesKept s (act s)) :
    KeepsLaws fun s => inputEvent pin (if there s then id else act) s :=
  inputEvent_keepsTables hp fun s₀ s => by
    by_cases h : there s₀
    · rw [if_pos h]
      exact tablesKept_refl s
    · rw [if_neg h]
      exact ha s

theorem execInfeedEyeChange_keepsLaws (b : Bool) : KeepsLaws (execInfeedEyeChange b) :=
  inputEdge_keepsTables (fun _ => rfl) fun _ => modBelt_tablesKept rfl

theorem execTailFullInputChange_keepsLaws (b : Bool) : KeepsLaws (execTailFullInputChange b) :=
  inputEdge_keepsTables (fun _ => rfl) fun _ => modBelt_tablesKept rfl

theorem execStopChainOpen_keepsLaws : KeepsLaws execStopChainOpen :=
  inputEdge_keepsTables (fun _ => rfl) (recordCause_tablesKept _)

theorem execTailFullAsserted_keepsLaws : KeepsLaws execTailFullAsserted :=
  event_keepsTables fun _ => ite_tablesKept fun _ => (modBelt_tablesKept rfl).trans (recordCause_tablesKept _ _)

theorem execReadEyeBlock_keepsLaws : KeepsLaws execReadEyeBlock :=
  inputEdge_keepsTables (fun _ => rfl) eyeBlocks_tablesKept

theorem execReadEyeClear_keepsLaws : KeepsLaws execReadEyeClear :=
  inputEvent_keepsTables (fun _ => rfl) fun s₀ s => by
    split
    · exact eyeClears_tablesKept s
    · exact tablesKept_refl s

theorem execCaptureCommit_keepsLaws : KeepsLaws execCaptureCommit :=
  event_keepsTables fun s => by
    split
    · exact commitCapture_tablesKept _ s
    · exact tablesKept_refl s

theorem execLengthClamp_keepsLaws : KeepsLaws execLengthClamp :=
  event_keepsTables fun s => by
    split
    · exact clampCapture_tablesKept _ _ s
    · exact tablesKept_refl s

theorem execItemReport_keepsLaws (p : Port) (tag : Byte) (pl : List Byte) : KeepsLaws (execItemReport p tag pl) :=
  event_keepsLaws fun s => (lawsKept_lineInvariant s).report p tag pl _
    ((lawsKept_lineInvariant s).hunt p (lawsKept_refl s))

theorem execIdWindowExpiry_keepsLaws (x : Tag) : KeepsLaws (execIdWindowExpiry x) :=
  event_keepsTables fun s => by
    split
    · exact tablesKept_refl s
    · next e he => exact ite_tablesKept fun due => expired_tablesKept he due.1

theorem execArming_keepsLaws (r : EntryRef) : KeepsLaws (execArming r) :=
  event_keepsLaws fun s => by
    split
    · exact lawsKept_refl s
    · next e he =>
      split
      · exact lawsKept_refl s
      · next d n hd => exact armEntry_lawsKept he hd

theorem execFireTarget_keepsLaws (g : GateId) : KeepsLaws (execFireTarget g) :=
  event_keepsLaws fun s => by
    split
    · exact lawsKept_refl s
    · next e d f h =>
      split
      · exact fire_lawsKept h
      · exact (missedFire_tablesKept g _ d s).lawsKept

/-- An entry that arrives at the tail is TO_TAIL, and stands in no fire queue (R60). -/
theorem execTailArrival_keepsLaws (x : Tag) : KeepsLaws (execTailArrival x) :=
  event_keepsTables fun s => by
    split
    · exact tablesKept_refl s
    · next e he =>
      refine ite_tablesKept fun due => ?_
      have dropped : TablesKept s (s.dropEntry (.tag x)) :=
        (tablesKept_refl s).dropEntry fun hs => hs.unqueued_of_state he (by simp [due.1])
      exact dropped.trans (raise_tablesKept _ _)

theorem execGateDriveOff_keepsLaws (g : GateId) : KeepsLaws (execGateDriveOff g) :=
  event_keepsTables fun _ => ite_tablesKept fun _ => modGate_tablesKept (.refl _) rfl

theorem execGateCycleEnd_keepsLaws (g : GateId) : KeepsLaws (execGateCycleEnd g) :=
  event_keepsTables fun _ => ite_tablesKept fun _ =>
    (modGate_tablesKept (f := endCycle) (.refl _) rfl).trans (beginWatch_tablesKept g _)

theorem execExtendedSwitchChange_keepsLaws (g : GateId) (side : Side) (b : Bool) :
    KeepsLaws (execExtendedSwitchChange g side b) :=
  inputEvent_keepsTables (fun _ => rfl) fun s₀ s => by
    split
    · exact tablesKept_refl s
    · split
      · exact switchGoesExtended_tablesKept g side s
      · exact tablesKept_refl s

theorem execActuatorCheckDeadline_keepsLaws (g : GateId) : KeepsLaws (execActuatorCheckDeadline g) :=
  event_keepsTables fun s => by
    split
    · exact checkFails_tablesKept g _ s
    · exact tablesKept_refl s

theorem execConfirmEyeChange_keepsLaws (d : DestId) (b : Bool) : KeepsLaws (execConfirmEyeChange d b) :=
  inputEdge_keepsTables (fun _ => rfl) fun _ => modDest_tablesKept le_rfl rfl

theorem execConfirmEyeSighting_keepsLaws (d : DestId) : KeepsLaws (execConfirmEyeSighting d) :=
  event_keepsTables fun _ => ite_tablesKept fun _ =>
    (modDest_tablesKept (f := fun r => { r with eye := .seen }) le_rfl rfl).trans (sighting_tablesKept d _)

theorem execConfirmEyeClearSettled_keepsLaws (d : DestId) : KeepsLaws (execConfirmEyeClearSettled d) :=
  event_keepsTables fun _ => ite_tablesKept fun _ => modDest_tablesKept le_rfl rfl

theorem execConfirmWindowExpiry_keepsLaws (d : DestId) (x : Tag) : KeepsLaws (execConfirmWindowExpiry d x) :=
  event_keepsTables fun s => by
    split
    · exact miss_tablesKept d _ s
    · exact tablesKept_refl s

theorem execChuteBlock_keepsLaws (d : DestId) : KeepsLaws (execChuteBlock d) :=
  event_keepsTables fun _ => ite_tablesKept fun _ => gainRerouting_tablesKept (set := setBlocked) (fun _ => rfl) _ _ _

theorem execChuteBlockClear_keepsLaws (d : DestId) : KeepsLaws (execChuteBlockClear d) :=
  event_keepsTables fun _ => ite_tablesKept fun _ => changeDest_tablesKept le_rfl rfl

theorem execRackSensorChange_keepsLaws (d : DestId) (b : Bool) : KeepsLaws (execRackSensorChange d b) :=
  inputEdge_keepsTables (fun _ => rfl) fun s => by
    have edge : (rackEdge b (s.dest d)).awaiting = (s.dest d).awaiting
        ∧ (rackEdge b (s.dest d)).holds = (s.dest d).holds := by
      unfold rackEdge
      split <;> exact ⟨rfl, rfl⟩
    obtain ⟨awaiting, holds⟩ := edge
    exact modDest_tablesKept (by rw [awaiting]) (by rw [holds])

theorem execDestStateRefresh_keepsLaws : KeepsLaws execDestStateRefresh :=
  event_keepsTables fun s => ite_tablesKept fun _ => by
    have restarted : TablesKept s { s with refreshMs := 0 } := tablesKept_of_tables rfl
    exact restarted.trans (forEach_tablesKept offerDest_tablesKept allDests _)

theorem execFrameSent_keepsLaws (q : Sender) : KeepsLaws (execFrameSent q) :=
  event_keepsTables fun _ => modLink_tablesKept le_rfl

theorem frameEvent_keepsLaws (k : Kind) (p : Port) (tag : Byte) (pl : List Byte) :
    KeepsLaws (frameEvent k (handlerOf k) p tag pl) :=
  event_keepsLaws fun s => (lawsKept_lineInvariant s).request k p tag pl _
    ((lawsKept_lineInvariant s).hunt p (lawsKept_refl s))

theorem execUnknownKind_keepsLaws (p : Port) (kind tag : Byte) (pl : List Byte) :
    KeepsLaws (execUnknownKind p kind tag pl) :=
  event_keepsLaws fun s => (lawsKept_lineInvariant s).goodFrame p kind tag pl
    ((lawsKept_lineInvariant s).hunt p (lawsKept_refl s))

theorem execBadFrame_keepsLaws (p : Port) (l : List LineItem) : KeepsLaws (execBadFrame p l) :=
  event_keepsLaws fun s => (lawsKept_lineInvariant s).line p l s (lawsKept_refl s)

theorem execFrameGapTimeout_keepsLaws (p : Port) : KeepsLaws (execFrameGapTimeout p) :=
  event_keepsLaws fun s => by
    split
    · exact (lawsKept_lineInvariant s).ended p (lawsKept_refl s)
    · exact lawsKept_refl s

/-- Every command but the encoder pulse keeps the laws. -/
theorem exec_keepsLaws {c : Instr} (hc : c ≠ .encoderPulse) : KeepsLaws (exec c) := by
  cases c with
  | powerOnReset | resetPin => exact fun s t e => by cases e; exact resetPart_lawsKept s
  | resetRelease => exact execResetRelease_keepsLaws
  | encoderPulse => exact absurd rfl hc
  | speedWindowEnd => exact event_keepsTables fun s => ite_tablesKept fun _ => takeWindowEnd_tablesKept s
  | runGuardElapsed => exact event_keepsTables fun _ => ite_tablesKept fun _ => modBelt_tablesKept rfl
  | idleExpiry => exact event_keepsTables idleStop_tablesKept
  | infeedEyeChange b => exact execInfeedEyeChange_keepsLaws b
  | infeedWake => exact event_keepsTables fun s => ite_tablesKept fun _ => enterRunning_tablesKept s
  | stopChainOpen => exact execStopChainOpen_keepsLaws
  | stopChainClose => exact inputEvent_keepsTables (act := fun _ => id) (fun _ => rfl) fun _ s => tablesKept_refl s
  | tailFullInputChange b => exact execTailFullInputChange_keepsLaws b
  | tailFullAsserted => exact execTailFullAsserted_keepsLaws
  | tailFullCleared => exact event_keepsTables fun s => ite_tablesKept fun _ => removeTail_tablesKept s
  | readEyeBlock => exact execReadEyeBlock_keepsLaws
  | readEyeClear => exact execReadEyeClear_keepsLaws
  | captureCommit => exact execCaptureCommit_keepsLaws
  | lengthClamp => exact execLengthClamp_keepsLaws
  | clearWaitEnd => exact event_keepsTables fun _ => ite_tablesKept fun _ => tablesKept_of_tables rfl
  | itemReport p tag pl => exact execItemReport_keepsLaws p tag pl
  | idWindowExpiry x => exact execIdWindowExpiry_keepsLaws x
  | identifierSilent => exact event_keepsTables fun _ => ite_tablesKept fun _ => tablesKept_of_tables rfl
  | arming r => exact execArming_keepsLaws r
  | fireTarget g => exact execFireTarget_keepsLaws g
  | tailArrival x => exact execTailArrival_keepsLaws x
  | gateDriveOff g => exact execGateDriveOff_keepsLaws g
  | gateCycleEnd g => exact execGateCycleEnd_keepsLaws g
  | extendedSwitchChange g side b => exact execExtendedSwitchChange_keepsLaws g side b
  | actuatorCheckDeadline g => exact execActuatorCheckDeadline_keepsLaws g
  | confirmEyeChange d b => exact execConfirmEyeChange_keepsLaws d b
  | confirmEyeSighting d => exact execConfirmEyeSighting_keepsLaws d
  | confirmEyeClearSettled d => exact execConfirmEyeClearSettled_keepsLaws d
  | confirmWindowExpiry d x => exact execConfirmWindowExpiry_keepsLaws d x
  | chuteBlock d => exact execChuteBlock_keepsLaws d
  | chuteBlockClear d => exact execChuteBlockClear_keepsLaws d
  | rackSensorChange d b => exact execRackSensorChange_keepsLaws d b
  | rackSensorSettled d => exact event_keepsTables fun s => applyRack_tablesKept d _ s
  | badFrame p l => exact execBadFrame_keepsLaws p l
  | frameGapTimeout p => exact execFrameGapTimeout_keepsLaws p
  | unknownKind p kind tag pl => exact execUnknownKind_keepsLaws p kind tag pl
  | frameSent q => exact execFrameSent_keepsLaws q
  | linkSilence1000 q => exact event_keepsTables fun s => ite_tablesKept fun _ => takeSilence_tablesKept q s
  | linkLapse q => exact event_keepsTables fun s => ite_tablesKept fun _ => loseLink_tablesKept _ q s
  | destStateRefresh => exact execDestStateRefresh_keepsLaws
  | hello p tag pl | goodbye p tag pl | claim p tag pl | release p tag pl | openDest p tag pl | closeDest p tag pl
  | setSlots p tag pl | clearFull p tag pl | queryDest p tag pl | forceRelease p tag pl | writeRoute p tag pl
  | readRoute p tag pl | setList p tag pl | registerPattern p tag pl | dropPattern p tag pl
  | clearPatterns p tag pl | setBelt p tag pl | setGate p tag pl | setDest p tag pl | commission p tag pl
  | start p tag pl | stop p tag pl | resume p tag pl | restart p tag pl | testFire p tag pl | readTest p tag pl
  | takeGateOut p tag pl | returnGate p tag pl | readFault p tag pl | readMap p tag pl | snapshot p tag pl
  | snapshotClear p tag pl | readSnapshot p tag pl | readConditions p tag pl | setEnables p tag pl =>
    exact frameEvent_keepsLaws _ p tag pl

/-! ### The encoder pulse (R1, R2) -/

/-- A pulse brings P one count nearer to every position that does not lie half the circle behind it. -/
theorem ahead_succ {p x : Pos} (h : (p - x).toNat ≠ 8388607) : ahead (p + 1) x = ahead p x - 1 := by
  have hp := p.isLt
  have hx := x.isLt
  have one : (1 : Pos).toNat = 1 := rfl
  simp only [ahead, reached, BitVec.toNat_sub, BitVec.toNat_add, one, decide_eq_true_eq] at h ⊢
  split_ifs <;> omega

/-- A pulse moves P by one count at most, and the tables not at all. -/
theorem takePulse_tables (s : State) : (takePulse s).tables = { s.tables with p := (takePulse s).belt.p }
    ∧ ((takePulse s).belt.p = s.belt.p ∨ (takePulse s).belt.p = s.belt.p + 1) := by
  unfold takePulse countPulse
  split
  · split <;> exact ⟨rfl, .inr rfl⟩
  · exact ⟨rfl, .inl rfl⟩

end Sys2Proof.Machine
end

section
/-! SUPPORT. The laws across one step: a pulse in fire order, the conditions at the end of every event, and the step itself (R1, R122, R191, R192). -/

namespace Sys2Proof.Machine

/-! ### The encoder pulse over the tables -/

/-- The laws of the tables after a step. A pulse keeps the fire order where no F has been left half the circle behind P (log 4). -/
structure StepKeepsLaws (s t : State) : Prop where
  patterns : PatternLaw s → PatternLaw t
  queues : QueueLaw s → QueueLaw t
  fire : FireSound s → FiresInTime s → FireSound t
  gateOut : GateOutLaw s → GateOutLaw t

theorem LawsKept.step {s t : State} (h : LawsKept s t) : StepKeepsLaws s t :=
  ⟨h.patterns, h.queues, fun hs _ => h.fire hs, h.gateOut⟩

theorem StepKeepsLaws.trans {s t u : State} (h : StepKeepsLaws s t) (k : LawsKept t u) : StepKeepsLaws s u :=
  ⟨k.patterns ∘ h.patterns, k.queues ∘ h.queues, fun hs ht => k.fire (h.fire hs ht), k.gateOut ∘ h.gateOut⟩

/-- Tables that stand while P moves on by one count, or not at all. -/
theorem stepKeepsLaws_of_pos {s u : State} (h : u.tables = { s.tables with p := u.belt.p })
    (hp : u.belt.p = s.belt.p ∨ u.belt.p = s.belt.p + 1) : StepKeepsLaws s u := by
  simp only [State.tables, Tables.mk.injEq, true_and] at h
  obtain ⟨patterns, map, dests, gates, links, notices⟩ := h
  have dest : ∀ d, u.dest d = s.dest d := fun d => by simp only [State.dest, dests]
  have gate : ∀ g, u.gate g = s.gate g := fun g => by simp only [State.gate, gates]
  have find : ∀ r, u.find r = s.find r := fun r => by simp only [State.find, map]
  refine ⟨fun law => ?_, fun ⟨awaiting, queue, replies, places⟩ => ⟨fun d => ?_, fun g => ?_, fun q => ?_, fun st => ?_⟩,
    fun sound inTime => ⟨by rw [map]; exact sound.names, fun g => ?_⟩, ?_⟩
  · unfold PatternLaw
    rw [patterns]
    exact law
  · rw [dest]; exact awaiting d
  · rw [gate]; exact queue g
  · simpa only [State.link, links] using replies q
  · simpa only [State.noticeQueue, notices] using places st
  · obtain ⟨nodup, armed, order⟩ := sound.fire g
    rw [gate]
    refine ⟨nodup, fun r hr => by rw [find]; exact armed r hr, ?_⟩
    have nearer : ∃ k, ∀ r ∈ (s.gate g).queue, fireAhead u r = fireAhead s r - k := by
      rcases hp with same | moved
      · exact ⟨0, fun r _ => by simp only [fireAhead, fireAtOf, find, same, Nat.sub_zero]⟩
      · refine ⟨1, fun r hr => ?_⟩
        have timely := inTime g r hr
        have same : fireAtOf u r = fireAtOf s r := by simp only [fireAtOf, find]
        cases hx : fireAtOf s r with
        | none => simp only [fireAhead, same, hx]
        | some x => simp only [fireAhead, same, hx, moved, ahead_succ (timely x hx)]
    obtain ⟨k, hk⟩ := nearer
    refine order.imp_of_mem fun hx hy hle => ?_
    rw [hk _ hx, hk _ hy]
    exact Nat.sub_le_sub_right hle k
  · exact gateOutLaw_congr (fun d => by rw [dest]) fun g => by rw [gate]

theorem execEncoderPulse_stepKeepsLaws {s t : State} (e : exec .encoderPulse s = .next t) : StepKeepsLaws s t :=
  event_post (StepKeepsLaws s) takePulse s t e (fun _ => (lawsKept_refl s).step) fun _ => by
    obtain ⟨tables, pos⟩ := takePulse_tables s
    exact (stepKeepsLaws_of_pos tables pos).trans (settle_tablesKept _).lawsKept

theorem exec_stepKeepsLaws {c : Instr} {s t : State} (e : exec c s = .next t) : StepKeepsLaws s t := by
  by_cases hc : c = .encoderPulse
  · subst hc
    exact execEncoderPulse_stepKeepsLaws e
  · exact (exec_keepsLaws hc s t e).step

/-! ### The conditions (R191, R192) -/

/-- What the thirteen levels are read from. -/
theorem condLevels_congr {s t : State} (causes : t.belt.causes = s.belt.causes) (state : t.belt.state = s.belt.state)
    (tail : t.belt.tailFull = s.belt.tailFull) (speed : t.belt.overspeed = s.belt.overspeed)
    (map : t.map.length = s.map.length) (silent : t.matcher.silent = s.matcher.silent)
    (eye : t.reader.eyeBlocked = s.reader.eyeBlocked) (gate : ∀ g, (t.gate g).service = (s.gate g).service)
    (dest : ∀ d, (t.dest d).holds = (s.dest d).holds) (link : ∀ q, (t.link q).state = (s.link q).state)
    (live : t.bank.live = s.bank.live) : condLevels t = condLevels s := by
  simp only [condLevels, levelHalted, levelMapNearFull, levelGateFault, levelDestBlocked, levelDestSilent,
    levelLinkLapsed, levelCounterSaturated, causes, state, tail, speed, map, silent, eye, gate, dest, link, live]

/-- As an event ends, the bank has followed the conditions, and what comes behind moves none of them. -/
theorem settle_conditionLaw (s : State) : ConditionLaw (settle s) := by
  refine ⟨?_, ?_⟩
  · rw [settle_levels]
    exact (condLevels_congr (settle_causes s) (settle_state s) (settle_tailFull s) (settle_overspeed s)
      (by rw [settle_map]) (by rw [settle_matcher]) (by rw [settle_reader]) (fun g => by rw [settle_gate])
      (fun d => by rw [settle_dest]) (fun q => settle_link_state q s) (settle_live s)).symm
  · rw [settle_bank]
    rfl

theorem event_conditionLaw (f : State → State) : Keeps ConditionLaw (event f) := fun s t h e =>
  event_post ConditionLaw f s t e (fun _ => h) fun _ => settle_conditionLaw _

/-- No level reads an input. -/
theorem inputEvent_conditionLaw {pin : State → State} (act : State → State → State)
    (hp : ∀ s, pin s = { s with pins := (pin s).pins }) : Keeps ConditionLaw fun s => inputEvent pin (act s) s := by
  intro s t h e
  change inputEvent pin (act s) s = .next t at e
  cases hr : s.inReset with
  | true =>
    simp only [inputEvent, hr, if_true] at e
    cases e
    rw [hp]
    exact h
  | false =>
    rw [inputEvent_next pin _ s hr] at e
    cases e
    exact settle_conditionLaw _

theorem resetPart_conditionLaw (s : State) : ConditionLaw (resetPart s) := by
  have levels : condLevels (resetPart s) = condLevels State.reset :=
    condLevels_congr rfl rfl rfl rfl rfl rfl rfl (fun _ => rfl) (fun _ => rfl) (fun _ => rfl) rfl
  obtain ⟨bits, attn⟩ := reset_conditionLaw
  exact ⟨bits.trans levels.symm, attn⟩

theorem execResetRelease_conditionLaw : Keeps ConditionLaw execResetRelease := fun s t h e => by
  unfold execResetRelease at e
  cases e
  split
  · exact settle_conditionLaw _
  · exact h

/-- Every command ends with the conditions followed, or leaves them as they are. -/
theorem exec_conditionLaw (c : Instr) : Keeps ConditionLaw (exec c) := by
  cases c with
  | powerOnReset | resetPin => exact fun s t _ e => by cases e; exact resetPart_conditionLaw s
  | resetRelease => exact execResetRelease_conditionLaw
  | infeedEyeChange | stopChainOpen | stopChainClose | tailFullInputChange | readEyeBlock | readEyeClear
  | extendedSwitchChange | confirmEyeChange | rackSensorChange => exact inputEvent_conditionLaw _ fun _ => rfl
  | _ => exact event_conditionLaw _

/-- A millisecond moves no level (log 1). -/
theorem tick_conditionLaw {s : State} (h : ConditionLaw s) : ConditionLaw (tick s) := by
  cases hr : s.inReset with
  | true =>
    rw [tick, if_pos hr]
    exact h
  | false =>
    have bank : (tick s).bank = s.bank := by rw [tick_frame hr]
    have belt := tick_belt hr
    have levels : condLevels (tick s) = condLevels s :=
      condLevels_congr (by rw [belt]; rfl) (by rw [belt]; rfl) (by rw [belt]; rfl) (by rw [belt]; rfl)
        (by rw [tick_frame hr]) (by rw [tick_matcher hr, tickMatcher_eq]) (by rw [tick_frame hr])
        (fun g => by rw [tick_gate hr]; rfl) (fun d => by rw [tick_dest hr]; rfl)
        (fun q => by rw [tick_link hr]; rfl) (by rw [bank])
    obtain ⟨bits, attn⟩ := h
    exact ⟨by rw [bank, levels]; exact bits, by rw [bank]; exact attn⟩

theorem step_conditionLaw : Keeps ConditionLaw step :=
  step_keeps exec_conditionLaw (fun _ => tick_conditionLaw) fun _ _ _ h => h

/-! ### The step -/

/-- A step is a command on a state with the same tables, or a millisecond. -/
theorem step_cases {s t : State} (e : step s = .next t) :
    (∃ (c : Instr) (l : List Instr) (n : Nat), exec c { s with pending := l, orders := n } = .next t) ∨ t = tick s := by
  unfold step at e
  split at e
  · next c rest _ => exact .inl ⟨c, rest, s.orders, e⟩
  · unfold idleStep at e
    split at e
    · next c _ => exact .inl ⟨c, s.pending, s.orders + 1, e⟩
    · cases e
      exact .inr rfl

theorem step_stepKeepsLaws {s t : State} (e : step s = .next t) : StepKeepsLaws s t := by
  rcases step_cases e with ⟨c, l, n, he⟩ | rfl
  · obtain ⟨patterns, queues, fire, gateOut⟩ := exec_stepKeepsLaws he
    exact ⟨patterns, queues, fun hs ht => fire ⟨hs.names, hs.fire⟩ ht, gateOut⟩
  · exact (tick_tablesKept s).lawsKept.step

/-- Settles O59: each block's answer, each event of the part's own and each millisecond keeps the tables, and every event ends with the conditions followed. -/
theorem stepsKeepTableLaws : Obligations.StepsKeepTableLaws := fun s t e => by
  obtain ⟨patterns, queues, fire, gateOut⟩ := step_stepKeepsLaws e
  exact ⟨patterns, queues, fun h => step_conditionLaw s t h e,
    fun map law inTime => (fire ⟨map.2, law⟩ inTime).fire, gateOut⟩

end Sys2Proof.Machine
end

section
/-! SUPPORT. The map, the reservations and the owners as one invariant, destination by destination, that also holds between the steps of an event: while the route unit has an entry in hand, while an item is between the map and the awaiting-confirm queue, and while a forced release is moving entries off (R51, R79, R88, R105, R106). -/

namespace Sys2Proof.Machine

/-! ### One destination's account (R79, R88, R105, R106) -/

/-- The entry holds a reservation of d. -/
def Entry.holdsPlace (d : DestId) (e : Entry) : Bool := decide (e.dest = some (.gateDest d)) && !e.isTest

theorem boundFor_eq (s : State) (d : DestId) : boundFor s d = s.map.filter (Entry.holdsPlace d) := rfl

theorem holdsPlace_iff {d : DestId} {e : Entry} :
    e.holdsPlace d = true ↔ e.dest = some (.gateDest d) ∧ e.isTest = false := by
  simp [Entry.holdsPlace]

theorem holdsPlace_of_none {e : Entry} (h : e.dest = none) (d : DestId) : e.holdsPlace d = false := by
  simp [Entry.holdsPlace, h]

theorem holdsPlace_of_tail {e : Entry} (h : e.dest = some .tail) (d : DestId) : e.holdsPlace d = false := by
  simp [Entry.holdsPlace, h]

theorem mem_boundFor {s : State} {d : DestId} {e : Entry} :
    e ∈ boundFor s d ↔ e ∈ s.map ∧ e.dest = some (.gateDest d) ∧ e.isTest = false := by
  rw [boundFor_eq, List.mem_filter, holdsPlace_iff]

/-- What the laws ask of a record, by the entries that hold a place there. `extra` places belong to items that the event has in hand; a record that is `leaving` has begun a release whose entries are still being moved off. -/
structure Dest.Account (extra : Nat) (leaving : Prop) (bound : List Entry) (r : Dest) : Prop where
  reserved : r.reserved = bound.length + r.awaiting.length + extra
  releasing : r.state = .releasing → leaving ∨ (bound = [] ∧ extra = 0)
  owner : r.owner = none ↔ r.state = .unclaimed
  unclaimed : r.state = .unclaimed → r.free = 0 ∧ r.reserved = 0
  delivery : ∀ e ∈ bound, mayReceive r.owner e

/-- What an account reads of a record. -/
def Dest.accountView (r : Dest) : Nat × Nat × DestState × Option Sender × Nat :=
  (r.reserved, r.awaiting.length, r.state, r.owner, r.free)

namespace Dest.Account
variable {extra : Nat} {leaving : Prop} {bound : List Entry} {r : Dest}

theorem congr (h : r.Account extra leaving bound) {t : Dest} (e : t.accountView = r.accountView) :
    t.Account extra leaving bound := by
  simp only [accountView, Prod.mk.injEq] at e
  obtain ⟨reserved, awaiting, state, owner, free⟩ := e
  exact ⟨by rw [reserved, awaiting, h.reserved], fun k => h.releasing (state ▸ k), by rw [owner, state]; exact h.owner,
    fun k => by rw [free, reserved]; exact h.unclaimed (state ▸ k), fun e he => by rw [owner]; exact h.delivery e he⟩

/-- The entries that hold a place change, and with them what the event has in hand. -/
theorem rebound (h : r.Account extra leaving bound) {extra' : Nat} {bound' : List Entry}
    (places : bound'.length + extra' = bound.length + extra) (delivery : ∀ e ∈ bound', mayReceive r.owner e) :
    r.Account extra' leaving bound' where
  reserved := by rw [h.reserved]; omega
  releasing k := (h.releasing k).imp id fun ⟨hb, he⟩ => by
    rw [hb, he] at places
    exact ⟨List.length_eq_zero_iff.mp (by simpa using (Nat.add_eq_zero_iff.mp places).1), by simp at places; omega⟩
  owner := h.owner
  unclaimed := h.unclaimed
  delivery := delivery

/-- An OPEN record takes one more reservation for a place the event has in hand (R79). -/
theorem taken (h : r.Account extra leaving bound) (hs : r.state = .opened) :
    ({ r with reserved := r.reserved + 1 } : Dest).Account (extra + 1) leaving bound where
  reserved := by have := h.reserved; dsimp only; omega
  releasing k := by rw [hs] at k; cases k
  owner := h.owner
  unclaimed k := by rw [hs] at k; cases k
  delivery := h.delivery

/-- A reservation that is given back takes a place the event has in hand (R79, R102). -/
theorem freed (h : r.Account (extra + 1) leaving bound) : (Machine.freed 1 r).Account extra leaving bound := by
  have unclaimed : (Machine.freed 1 r).state = .unclaimed ↔ r.state = .unclaimed := by
    unfold Machine.freed; dsimp only; split
    · next k => simp [k.2.1]
    · rfl
  refine ⟨?_, fun k => ?_, h.owner.trans unclaimed.symm, fun k => ?_, h.delivery⟩
  · have := h.reserved
    simp only [Machine.freed]; omega
  · have released : r.state = .releasing := by
      unfold Machine.freed at k; dsimp only at k
      split at k
      · cases k
      · exact k
    exact (h.releasing released).imp id fun ⟨_, he⟩ => absurd he (Nat.succ_ne_zero _)
  · obtain ⟨hf, hr⟩ := h.unclaimed (unclaimed.mp k)
    exact ⟨hf, by simp [Machine.freed, hr]⟩

/-- The oldest or any other record leaves the awaiting-confirm queue with its reservation. -/
theorem resolved (h : r.Account extra leaving bound) {t : Dest} (awaiting : t.awaiting.length + 1 = r.awaiting.length)
    (reserved : t.reserved = r.reserved) (state : t.state = r.state) (owner : t.owner = r.owner) :
    (Machine.freed 1 t).Account extra leaving bound := by
  have taken : r.state ≠ .unclaimed := fun k => by
    have := h.reserved
    rw [(h.unclaimed k).2] at this
    omega
  have held : t.reserved = bound.length + t.awaiting.length + (extra + 1) := by rw [reserved, h.reserved]; omega
  have stays : (Machine.freed 1 t).state ≠ .unclaimed := by
    unfold Machine.freed; dsimp only; split
    · simp
    · rwa [state]
  refine ⟨by simp only [Machine.freed]; omega, fun k => h.releasing ?_, ?_, fun k => absurd k stays, ?_⟩
  · unfold Machine.freed at k; dsimp only at k
    split at k
    · cases k
    · rwa [state] at k
  · exact iff_of_false (by simpa only [Machine.freed, owner, h.owner] using taken) stays
  · simpa only [Machine.freed, owner] using h.delivery

/-- No reservation is left, so no entry holds a place, no record waits and the event has none in hand. -/
theorem empty_of_reserved (h : r.Account extra leaving bound) (h0 : r.reserved = 0) :
    bound = [] ∧ r.awaiting = [] ∧ extra = 0 := by
  have := h.reserved
  rw [h0] at this
  exact ⟨List.length_eq_zero_iff.mp (by omega), List.length_eq_zero_iff.mp (by omega), by omega⟩

/-- A release completes where no reservation is left (R105, R106). -/
theorem released (h : r.Account extra leaving bound) (h0 : r.reserved = 0) (asserted : Bool) :
    (releasedRecord asserted r).Account extra leaving bound := by
  obtain ⟨hb, ha, he⟩ := h.empty_of_reserved h0
  subst hb he
  exact ⟨by simp [releasedRecord, h0, ha], fun k => (nomatch k), by simp [releasedRecord], fun _ => ⟨rfl, h0⟩, by simp⟩

/-- A RELEASING record whose queue is empty has no reservation left. -/
theorem reserved_of_releasing (h : r.Account extra leaving bound) (hs : r.state = .releasing) (hl : ¬leaving)
    (ha : r.awaiting = []) : r.reserved = 0 := by
  obtain ⟨hb, he⟩ := (h.releasing hs).resolve_left hl
  rw [h.reserved, hb, ha, he]; rfl

/-- An owned record may take any state in which it stays owned, with any F_d. -/
theorem owned (h : r.Account extra leaving bound) {t : Dest} (claimed : r.state ≠ .unclaimed)
    (reserved : t.reserved = r.reserved) (awaiting : t.awaiting = r.awaiting) (owner : t.owner = r.owner)
    (state : t.state ≠ .unclaimed) (releasing : t.state = .releasing → r.state = .releasing) :
    t.Account extra leaving bound where
  reserved := by rw [reserved, awaiting, h.reserved]
  releasing k := h.releasing (releasing k)
  owner := by rw [owner]; exact iff_of_false (fun k => claimed (h.owner.mp k)) state
  unclaimed k := absurd k state
  delivery := by rw [owner]; exact h.delivery

end Dest.Account

/-! ### The invariant -/

/-- What an event has not finished: the places it holds for items in hand, the destinations a forced release is moving entries off, and the entry that the route unit is deciding. -/
structure Midway where
  extra : DestId → Nat := fun _ => 0
  leaving : DestId → Prop := fun _ => False
  hand : Option EntryRef := none

/-- One more place in hand, at d. -/
def Midway.plus (x : Midway) (d : DestId) : Midway := { x with extra := fun z => x.extra z + if z = d then 1 else 0 }

/-- The route unit has taken an entry in hand. -/
def Midway.holding (x : Midway) (r : EntryRef) : Midway := { x with hand := some r }

/-- The laws of the map, the reservations and the owners, in the middle of an event. -/
structure RouteSound (x : Midway) (s : State) : Prop where
  room : s.map.length ≤ 64
  names : (s.map.map Entry.ref).Nodup
  shape : ∀ e ∈ s.map, x.hand ≠ some e.ref → e.shaped
  account : ∀ d, (s.dest d).Account (x.extra d) (x.leaving d) (boundFor s d)

/-- Between events nothing is unfinished. -/
theorem routeLaw_iff (s : State) : RouteLaw s ↔ RouteSound {} s := by
  constructor
  · rintro ⟨⟨room, names⟩, shape, reservation, releasing, owner, delivery⟩
    exact ⟨room, names, fun e he _ => shape e he, fun d => ⟨reservation d, fun k => .inr ⟨releasing d k, rfl⟩,
      (owner d).1, (owner d).2, delivery d⟩⟩
  · intro h
    exact ⟨⟨h.room, h.names⟩, fun e he => h.shape e he (by simp), fun d => (h.account d).reserved,
      fun d k => (((h.account d).releasing k).resolve_left id).1, fun d => ⟨(h.account d).owner, (h.account d).unclaimed⟩,
      fun d => (h.account d).delivery⟩

namespace RouteSound
variable {x y : Midway} {s t : State}

/-- A change of the records alone. -/
theorem accounts (h : RouteSound x s) (map : t.map = s.map) (hand : y.hand = x.hand)
    (account : ∀ d, (s.dest d).Account (x.extra d) (x.leaving d) (boundFor s d) →
      (t.dest d).Account (y.extra d) (y.leaving d) (boundFor s d)) : RouteSound y t where
  room := by rw [map]; exact h.room
  names := by rw [map]; exact h.names
  shape := by rw [map, hand]; exact h.shape
  account d := by
    have bound : boundFor t d = boundFor s d := by simp only [boundFor, map]
    rw [bound]; exact account d (h.account d)

/-- A change of neither the map nor what an account reads. -/
theorem congr (h : RouteSound x s) (map : t.map = s.map)
    (dests : ∀ d, (t.dest d).accountView = (s.dest d).accountView) : RouteSound x t :=
  h.accounts map rfl fun d a => a.congr (dests d)

/-- A change of neither the map nor the records. -/
theorem elsewhere (h : RouteSound x s) (map : t.map = s.map) (dests : t.dests = s.dests) : RouteSound x t :=
  h.congr map fun d => by simp only [State.dest, dests]

/-- One record changes. -/
theorem modDest (h : RouteSound x s) {d : DestId} {f : Dest → Dest}
    (hf : ∀ {bound}, (s.dest d).Account (x.extra d) (x.leaving d) bound →
      (f (s.dest d)).Account (x.extra d) (x.leaving d) bound) : RouteSound x (s.modDest d f) :=
  h.accounts rfl rfl fun z a => by
    rw [modDest_dest]; split
    · next e => subst e; exact hf a
    · exact a

theorem changeDest (h : RouteSound x s) {d : DestId} {f : Dest → Dest}
    (hf : ∀ {bound}, (s.dest d).Account (x.extra d) (x.leaving d) bound →
      (f (s.dest d)).Account (x.extra d) (x.leaving d) bound) : RouteSound x (changeDest d f s) :=
  (h.modDest hf).congr (map_of_untold (changeDest_untold d f s)) fun z => by
    simp only [State.dest, changeDest_dests]

/-- A record that shows the same to its account may change in the rest. -/
theorem changeDest_unread (h : RouteSound x s) (d : DestId) {f : Dest → Dest}
    (hf : ∀ r, (f r).accountView = r.accountView) : RouteSound x (Machine.changeDest d f s) :=
  h.changeDest fun a => a.congr (hf _)

theorem modDest_unread (h : RouteSound x s) (d : DestId) {f : Dest → Dest}
    (hf : ∀ r, (f r).accountView = r.accountView) : RouteSound x (s.modDest d f) :=
  h.modDest fun a => a.congr (hf _)

/-- A reservation is given back for a place the event has in hand (R79). -/
theorem unreserve {d : DestId} (h : RouteSound (x.plus d) s) : RouteSound x (unreserve d s) :=
  h.accounts (map_of_untold (unreserve_untold d s)) rfl fun z a => by
    simp only [Midway.plus] at a
    rw [unreserve_dest]
    split
    · next e => subst e; rw [if_pos rfl] at a; exact a.freed
    · next e => rwa [if_neg e] at a

/-- A record leaves the awaiting-confirm queue with its reservation (R142, R144). -/
theorem resolve (h : RouteSound x s) {d : DestId} {f : Dest → Dest}
    (awaiting : (f (s.dest d)).awaiting.length + 1 = (s.dest d).awaiting.length)
    (rest : (f (s.dest d)).reserved = (s.dest d).reserved ∧ (f (s.dest d)).state = (s.dest d).state
      ∧ (f (s.dest d)).owner = (s.dest d).owner)
    (map : t.map = s.map) (dests : t.dests = (s.modDest d f).dests) : RouteSound x (Machine.unreserve d t) :=
  h.accounts ((map_of_untold (unreserve_untold d t)).trans map) rfl fun z a => by
    have hd : ∀ z, t.dest z = (s.modDest d f).dest z := fun z => by simp only [State.dest, dests]
    obtain ⟨reserved, state, owner⟩ := rest
    rw [unreserve_dest, hd, hd, modDest_dest_self]
    split
    · next e => subst e; exact a.resolved awaiting reserved state owner
    · next e => rw [modDest_dest_ne _ _ _ _ e]; exact a

/-- A release completes where no reservation is left (R105, R106). -/
theorem completeRelease (h : RouteSound x s) {d : DestId} (h0 : (s.dest d).reserved = 0) :
    RouteSound x (completeRelease d s) :=
  h.accounts (map_of_untold (completeRelease_untold d s)) rfl fun z a => by
    rw [completeRelease_dest]; split
    · next e => subst e; exact a.released h0 _
    · exact a

end RouteSound

/-! ### One entry of the map's list changes, leaves or joins -/

theorem filter_updateEntry_length (p : Entry → Bool) {r : EntryRef} {f : Entry → Entry} {l : List Entry} {e : Entry}
    (h : (l.find? fun z => z.ref == r) = some e) :
    ((updateEntry r f l).filter p).length + (p e).toNat = (l.filter p).length + (p (f e)).toNat := by
  induction l with
  | nil => cases h
  | cons z l ih =>
    by_cases hz : z.ref = r
    · obtain rfl : z = e := by simpa [hz] using h
      cases hp : p z <;> cases hq : p (f z) <;> simp [updateEntry, hz, hp, hq]
    · simp only [List.find?_cons, beq_eq_false_iff_ne.mpr hz] at h
      have := ih h
      cases hp : p z <;> simp only [updateEntry, if_neg hz, List.filter_cons, hp, if_true, if_false, Bool.false_eq_true,
        List.length_cons] <;> omega

/-- With names distinct, an entry of the changed list is the changed one, or another as it was. -/
theorem mem_updateEntry {r : EntryRef} {f : Entry → Entry} {l : List Entry} {e z : Entry}
    (names : (l.map Entry.ref).Nodup) (h : (l.find? fun z => z.ref == r) = some e) (hz : z ∈ updateEntry r f l) :
    z = f e ∨ (z ∈ l ∧ z.ref ≠ r) := by
  rw [updateEntry_eq_map f names] at hz
  obtain ⟨w, hw, rfl⟩ := List.mem_map.mp hz
  split
  · next hr =>
    have he : e.ref = r := by simpa using List.find?_some h
    rw [List.inj_on_of_nodup_map names hw (List.mem_of_find?_eq_some h) (hr.trans he.symm)]
    exact .inl rfl
  · next hr => exact .inr ⟨hw, hr⟩

theorem filter_eraseEntry_length (p : Entry → Bool) {r : EntryRef} {l : List Entry} {e : Entry}
    (h : (l.find? fun z => z.ref == r) = some e) :
    ((eraseEntry r l).filter p).length + (p e).toNat = (l.filter p).length := by
  induction l with
  | nil => cases h
  | cons z l ih =>
    by_cases hz : z.ref = r
    · obtain rfl : z = e := by simpa [hz] using h
      cases hp : p z <;> simp [eraseEntry, hz, hp]
    · simp only [List.find?_cons, beq_eq_false_iff_ne.mpr hz] at h
      have := ih h
      cases hp : p z <;> simp only [eraseEntry, if_neg hz, List.filter_cons, hp, if_true, if_false, Bool.false_eq_true,
        List.length_cons] <;> omega

namespace RouteSound
variable {x y : Midway} {s : State} {r : EntryRef} {e : Entry}

/-- The entry of a name changes in its place: the places that it takes and leaves are those that the event has in hand. -/
theorem modEntry (h : RouteSound x s) {f : Entry → Entry} (hf : s.find r = some e) (tag : (f e).tag = e.tag)
    (hand : ∀ n, n ≠ r → (y.hand = some n ↔ x.hand = some n)) (shape : y.hand ≠ some r → (f e).shaped)
    (extra : ∀ d, y.extra d + ((f e).holdsPlace d).toNat = x.extra d + (e.holdsPlace d).toNat)
    (leaving : y.leaving = x.leaving)
    (delivery : ∀ d, (f e).holdsPlace d = true → mayReceive (s.dest d).owner (f e)) :
    RouteSound y (s.modEntry r f) := by
  have ref : (f e).ref = e.ref := by simp only [Entry.ref, tag]
  have named : ∀ z ∈ s.map, z.ref = r → (f z).ref = r := fun z hz hr => by
    rw [List.inj_on_of_nodup_map h.names hz (List.mem_of_find?_eq_some hf) (hr.trans (find_ref hf).symm), ref, find_ref hf]
  refine ⟨?_, ?_, fun z hz hh => ?_, fun d => ?_⟩
  · rw [modEntry_eq, withMap_map, updateEntry_length]; exact h.room
  · rw [modEntry_eq, withMap_map, refs_updateEntry named]; exact h.names
  · rcases mem_updateEntry h.names hf hz with rfl | ⟨hm, hr⟩
    · exact shape (by rwa [ref, find_ref hf] at hh)
    · exact h.shape z hm fun k => hh ((hand _ hr).mpr k)
  · have places := filter_updateEntry_length (Entry.holdsPlace d) (f := f) hf
    have ex := extra d
    rw [leaving]
    refine (h.account d).rebound ?_ fun z hz => ?_
    · rw [boundFor_eq, boundFor_eq, modEntry_eq, withMap_map]; omega
    · obtain ⟨hm, hp⟩ := List.mem_filter.mp hz
      rcases mem_updateEntry h.names hf hm with rfl | ⟨hm, -⟩
      · exact delivery d hp
      · exact (h.account d).delivery z (List.mem_filter.mpr ⟨hm, hp⟩)

/-- An entry changes in what neither its place nor its shape reads. -/
theorem modEntry_unread (h : RouteSound x s) {f : Entry → Entry} (tag : ∀ e, (f e).tag = e.tag)
    (dest : ∀ e, (f e).dest = e.dest) (owner : ∀ e, (f e).owner = e.owner) (state : ∀ e, (f e).state = e.state)
    (fire : ∀ e, (f e).fireAt = e.fireAt) : RouteSound x (s.modEntry r f) := by
  cases hf : s.find r with
  | none =>
    have same : ∀ l : List Entry, r ∉ l.map Entry.ref → updateEntry r f l = l := fun l => by
      induction l with
      | nil => exact fun _ => rfl
      | cons z l ih =>
        intro hl
        simp only [List.map_cons, List.mem_cons, not_or] at hl
        rw [updateEntry, if_neg (Ne.symm hl.1), ih hl.2]
    exact h.elsewhere (same _ (find_eq_none_iff.mp hf)) rfl
  | some e =>
    have place : ∀ d, (f e).holdsPlace d = e.holdsPlace d := fun d => by
      simp only [Entry.holdsPlace, Entry.isTest, dest, tag]
    refine h.modEntry hf (tag e) (fun _ _ => Iff.rfl) (fun hh => ?_) (fun d => by rw [place]) rfl fun d hp => ?_
    · have shaped := h.shape e (List.mem_of_find?_eq_some hf) (by rwa [find_ref hf])
      unfold Entry.shaped at shaped ⊢
      rwa [state, dest, fire, tag]
    · have received := (h.account d).delivery e
        (List.mem_filter.mpr ⟨List.mem_of_find?_eq_some hf, by rwa [place] at hp⟩)
      unfold mayReceive at received ⊢
      rwa [owner]

/-- An entry leaves the map, and the event has its place in hand. -/
theorem dropEntry (h : RouteSound x s) (hf : s.find r = some e)
    (extra : ∀ d, y.extra d = x.extra d + (e.holdsPlace d).toNat) (leaving : y.leaving = x.leaving)
    (hand : y.hand = x.hand) : RouteSound y (s.dropEntry r) := by
  have sub := eraseEntry_sublist r s.map
  refine ⟨sub.length_le.trans h.room, h.names.sublist (sub.map _), fun z hz hh => h.shape z (sub.subset hz) (hand ▸ hh),
    fun d => ?_⟩
  have places := filter_eraseEntry_length (Entry.holdsPlace d) hf
  have ex := extra d
  rw [leaving]
  refine (h.account d).rebound ?_ fun z hz => (h.account d).delivery z ((sub.filter _).subset hz)
  rw [boundFor_eq, boundFor_eq, dropEntry_eq, withMap_map]; omega

/-- An entry that is not in the map joins it unbound. -/
theorem join (h : RouteSound x s) {n : Entry} (fresh : s.find n.ref = none) (room : s.map.length < 64)
    (shape : n.shaped) (unbound : ∀ d, n.holdsPlace d = false) : RouteSound x (s.withMap (s.map ++ [n])) := by
  refine ⟨by rw [withMap_map, List.length_append, List.length_singleton]; omega, ?_, fun z hz hh => ?_, fun d => ?_⟩
  · rw [withMap_map, List.map_append, List.nodup_append]
    refine ⟨h.names, by simp, fun a ha b hb e => ?_⟩
    rw [List.map_singleton, List.mem_singleton] at hb
    exact find_eq_none_iff.mp fresh (hb ▸ e ▸ ha)
  · rcases List.mem_append.mp hz with hz | hz
    · exact h.shape z hz hh
    · rw [List.mem_singleton] at hz; exact hz ▸ shape
  · have bound : boundFor (s.withMap (s.map ++ [n])) d = boundFor s d := by
      simp [boundFor_eq, unbound d]
    rw [bound]; exact h.account d

end RouteSound

end Sys2Proof.Machine
end

section
/-! SUPPORT. The shared operations keep the invariant of the map, the reservations and the owners: decisions, reroutes, holds, the token's end, the chutes and the gates (R58, R62, R87, R91, R92, R107, R135, R139 to R147). -/

namespace Sys2Proof.Machine

theorem isTest_iff_token (e : Entry) : e.isTest = true ↔ e.ref = .token := by
  cases h : e.tag <;> simp [Entry.isTest, Entry.ref, h]

theorem isTest_of_tag {e : Entry} {x : Tag} (h : e.ref = .tag x) : e.isTest = false := by
  cases ht : e.isTest with
  | false => rfl
  | true => rw [(isTest_iff_token e).mp ht] at h; cases h

theorem tag_of_item {e : Entry} (h : e.isTest = false) : e.tag ≠ none := fun k => by
  simp [Entry.isTest, k] at h

/-- The owner of an eligible destination may receive the entry (R84, R88), which is OPEN. -/
theorem receives_of_eligible {s : State} {e : Entry} {d : DestId} (h : eligible s e d = true) :
    (s.dest d).state = .opened ∧ mayReceive (s.dest d).owner e := by
  simp only [eligible, Bool.and_eq_true, beq_iff_eq] at h
  obtain ⟨⟨⟨⟨⟨⟨⟨⟨-, -⟩, state⟩, -⟩, -⟩, owner⟩, -⟩, -⟩, -⟩ := h
  refine ⟨state, ?_⟩
  unfold ownerOk at owner
  unfold mayReceive
  split at owner <;> simp_all

theorem decidedAccounts_winner {s : State} {e : Entry} {o : Option DestId} {w : DestId} (h : search s e o = some w) :
    decidedAccounts s e o = (s.modDest w fun a => { a with reserved := a.reserved + 1 }).raiseDest w .assigned := by
  simp only [decidedAccounts, h]

theorem decidedAccounts_tail {s : State} {e : Entry} {o : Option DestId} (h : search s e o = none) :
    decidedAccounts s e o = s := by
  simp only [decidedAccounts, h]

theorem decidedEntry_winner {s : State} {e : Entry} {o : Option DestId} {w : DestId} (h : search s e o = some w) :
    decidedEntry s e o = { e with dest := some (.gateDest w), state := .routed } := by
  simp only [decidedEntry, h]

theorem decidedEntry_tail {s : State} {e : Entry} {o : Option DestId} (h : search s e o = none) :
    decidedEntry s e o = { e with dest := some .tail, state := .toTail } := by
  simp only [decidedEntry, h]

/-- The entry that the route unit has in hand holds no place and no F, and is no token. -/
structure Entry.Loose (e : Entry) : Prop where
  dest : e.dest = none
  fireAt : e.fireAt = none
  item : e.isTest = false

/-- A PENDING entry holds no place and no F, and is no token (R54). -/
theorem Entry.shaped.loose {e : Entry} (h : e.shaped) (hs : e.state = .pending) : e.Loose := by
  obtain ⟨dest, fire, token⟩ := h
  rw [hs] at dest fire token
  refine ⟨dest, by simpa using fire, ?_⟩
  cases ht : e.tag with
  | none => simpa using token ht
  | some x => simp [Entry.isTest, ht]

/-- A decided entry is ROUTED to a gate or TO_TAIL, with no F. -/
theorem Entry.Loose.decided_shaped {e : Entry} (h : e.Loose) (s : State) (o : Option DestId) :
    (decidedEntry s e o).shaped := by
  have tag := tag_of_item h.item
  have fireAt := h.fireAt
  cases hs : search s e o with
  | none => rw [decidedEntry_tail hs]; exact ⟨rfl, by simp [fireAt], fun k => absurd k tag⟩
  | some w => rw [decidedEntry_winner hs]; exact ⟨⟨w, rfl⟩, by simp [fireAt], fun k => absurd k tag⟩

namespace RouteSound
variable {x y : Midway} {s : State} {r : EntryRef} {e : Entry}

/-! ### Decisions (R84, R87) -/

theorem hold (h : RouteSound x s) (r : EntryRef) (hx : x.hand = none) : RouteSound (x.holding r) s :=
  ⟨h.room, h.names, fun z hz _ => h.shape z hz (by simp [hx]), h.account⟩

/-- A decision ends with the entry in a shape of its own, with a reservation where it has a destination (R79, R87). -/
theorem decideRoute (h : RouteSound (x.holding r) s) (hx : x.hand = none) (hf : s.find r = some e) (he : e.Loose)
    (o : Option DestId) : RouteSound x (decideRoute r o s) := by
  have hand : ∀ n, n ≠ r → (x.hand = some n ↔ (x.holding r).hand = some n) := fun n hn => by
    simp [hx, Midway.holding, Ne.symm hn]
  rw [decideRoute_eq o hf]
  cases hs : search s e o with
  | none =>
    rw [decidedAccounts_tail hs]
    refine h.modEntry hf (decidedEntry_tag s e o) hand (fun _ => he.decided_shaped s o) (fun d => ?_) rfl fun d hd => ?_
    · rw [decidedEntry_tail hs, holdsPlace_of_tail rfl, holdsPlace_of_none he.dest]; rfl
    · rw [decidedEntry_tail hs, holdsPlace_of_tail rfl] at hd; cases hd
  | some w =>
    obtain ⟨state, receives⟩ := receives_of_eligible (search_eligible hs).2
    have taken : RouteSound ((x.holding r).plus w) (s.modDest w fun a => { a with reserved := a.reserved + 1 }) :=
      h.accounts rfl rfl fun d a => by
        rw [modDest_dest]
        simp only [Midway.plus]
        split
        · next k => subst k; exact a.taken state
        · exact a
    have counted : RouteSound ((x.holding r).plus w) (decidedAccounts s e o) := by
      rw [decidedAccounts_winner hs]; exact taken.elsewhere rfl rfl
    have found : (decidedAccounts s e o).find r = some e := by rw [decidedAccounts_winner hs]; exact hf
    have map : (decidedAccounts s e o).map = s.map := by rw [decidedAccounts_winner hs]; rfl
    have owner : ((decidedAccounts s e o).dest w).owner = (s.dest w).owner := by
      rw [decidedAccounts_winner hs, raiseDest_eq, raise_dest, modDest_dest_self]
    have place : ∀ d, (decidedEntry s e o).holdsPlace d = decide (d = w) := fun d => by
      have item : (decidedEntry s e o).isTest = false := by
        simpa only [Entry.isTest, decidedEntry_tag] using he.item
      rw [Entry.holdsPlace, item, decidedEntry_winner hs]
      simp [eq_comm]
    rw [← map]
    refine counted.modEntry found (decidedEntry_tag s e o) hand (fun _ => he.decided_shaped s o) (fun d => ?_) rfl
      fun d hd => ?_
    · rw [place, holdsPlace_of_none he.dest]
      by_cases k : d = w <;> simp [k, Midway.plus, Midway.holding]
    · rw [place, decide_eq_true_iff] at hd
      subst hd
      rw [owner, decidedEntry_winner hs]
      exact receives

/-- An unbound entry takes a new identity and is decided at once (R22, R30, R31, R34). -/
theorem handOver (h : RouteSound x s) (hx : x.hand = none) (hf : s.find r = some e) (hs : e.state = .pending)
    {f : Entry → Entry} (tag : ∀ e, (f e).tag = e.tag) (dest : ∀ e, (f e).dest = e.dest)
    (fire : ∀ e, (f e).fireAt = e.fireAt) (c : GlobalCounter) : RouteSound x (handOver r f c s) := by
  have loose : e.Loose := (h.shape e (List.mem_of_find?_eq_some hf) (by simp [hx])).loose hs
  have named : (f e).Loose :=
    ⟨(dest e).trans loose.dest, (fire e).trans loose.fireAt, by simpa only [Entry.isTest, tag] using loose.item⟩
  have taken : RouteSound (x.holding r) (s.modEntry r f) := by
    refine (h.hold r hx).modEntry hf (tag e) (fun _ _ => Iff.rfl) (fun k => absurd rfl k) (fun d => ?_) rfl
      fun d hd => ?_
    · rw [holdsPlace_of_none named.dest, holdsPlace_of_none loose.dest]
    · rw [holdsPlace_of_none named.dest] at hd; cases hd
  exact RouteSound.decideRoute (s := (s.modEntry r f).raisePart c) (taken.elsewhere rfl rfl) hx (handed_find c tag hf)
    named none

/-! ### Reroutes (R58, R62, R91) -/

/-- An entry that holds a place at d lets go of it: the event has the place in hand. -/
theorem letGo (h : RouteSound x s) (hf : s.find r = some e) {d : DestId} (hd : e.dest = some (.gateDest d))
    (item : e.isTest = false) {f : Entry → Entry} (tag : (f e).tag = e.tag) (dest : ∀ d, (f e).holdsPlace d = false)
    (shape : x.hand ≠ some r → (f e).shaped) : RouteSound (x.plus d) (s.modEntry r f) := by
  refine h.modEntry hf tag (fun _ _ => Iff.rfl) shape (fun z => ?_) rfl fun z hz => ?_
  · rw [dest]
    by_cases k : z = d
    · simp [Midway.plus, Entry.holdsPlace, hd, item, k]
    · simp [Midway.plus, Entry.holdsPlace, hd, k, Ne.symm k]
  · rw [dest] at hz; cases hz

/-- A withdrawn entry holds its place still, with no F (R58). -/
theorem withdraw (h : RouteSound x s) (hx : x.hand = none) (hf : s.find r = some e) (d : DestId) :
    RouteSound (x.holding r) (withdraw r d s) := by
  have left : RouteSound (x.holding r) (leaveQueue (destGate d) r s) := (h.hold r hx).elsewhere rfl rfl
  refine left.modEntry (f := fun e => { e with fireAt := none, late := false, state := .routed }) hf rfl
    (fun _ _ => Iff.rfl) (fun k => absurd rfl k) (fun z => rfl) rfl fun z hz => ?_
  exact (h.account z).delivery e (List.mem_filter.mpr ⟨List.mem_of_find?_eq_some hf, hz⟩)

end RouteSound

/-! ### The entry under a reroute (R58, R91) -/

/-- A rerouted entry before it is decided again: withdrawn, with no destination, and with one more attempt. -/
def Entry.rerouted (e : Entry) : Entry :=
  { e with fireAt := none, late := false, state := .routed, dest := none, attempts := min (e.attempts + 1) 7 }

/-- The state in which a rerouted entry is decided again. -/
def offered (d : DestId) (r : EntryRef) (s : State) : State := countReroute r (giveBack r d (withdraw r d s))

theorem unreserve_map (d : DestId) (s : State) : (unreserve d s).map = s.map := map_of_untold (unreserve_untold d s)

theorem offered_map (d : DestId) (r : EntryRef) (s : State) :
    (offered d r s).map = updateEntry r Entry.rerouted s.map := by
  have withdrawn : (withdraw r d s).map
      = updateEntry r (fun e => { e with fireAt := none, late := false, state := .routed }) s.map := rfl
  have back : (giveBack r d (withdraw r d s)).map = updateEntry r (fun e => { e with dest := none }) (withdraw r d s).map :=
    unreserve_map d _
  have counted : (offered d r s).map
      = updateEntry r (fun e => { e with attempts := min (e.attempts + 1) 7 }) (giveBack r d (withdraw r d s)).map := rfl
  rw [counted, back, withdrawn, updateEntry_updateEntry, updateEntry_updateEntry]
  · rfl
  · exact fun _ => rfl
  · exact fun _ => rfl

theorem offered_find {d : DestId} {r : EntryRef} {s : State} {e : Entry} (hf : s.find r = some e) :
    (offered d r s).find r = some e.rerouted := by
  rw [State.find, offered_map]
  exact find_updateEntry_self hf rfl

theorem Entry.rerouted_loose {e : Entry} (h : e.isTest = false) : e.rerouted.Loose := ⟨rfl, rfl, h⟩

/-- What a reroute does, by the entry it names (R58, R62, R65, R91). -/
theorem reroute_cases (d : DestId) (r : EntryRef) (s : State) :
    (∃ e, s.find r = some e ∧ e.dest = some (.gateDest d) ∧ e.isTest = false ∧ (e.state = .routed ∨ e.state = .armed)
        ∧ reroute d r s = decideRoute r (some d) (offered d r s))
      ∨ (∃ e, s.find r = some e ∧ e.dest = some (.gateDest d) ∧ e.isTest = false ∧ e.state = .suspect
        ∧ reroute d r s = unreserve d (s.modEntry r fun x => { x with dest := some .tail }))
      ∨ ((∀ e, s.find r = some e → ¬(e.dest = some (.gateDest d) ∧ e.isTest = false ∧ e.state ≠ .pending ∧ e.state ≠ .toTail))
        ∧ reroute d r s = s) := by
  unfold reroute
  split
  · next h => exact .inr (.inr ⟨by simp [h], rfl⟩)
  · next e h =>
    split
    · next hd =>
      split
      case h_1 hs => exact .inl ⟨e, h, hd.1, hd.2, .inl hs, rfl⟩
      case h_2 hs => exact .inl ⟨e, h, hd.1, hd.2, .inr hs, rfl⟩
      case h_3 hs => exact .inr (.inl ⟨e, h, hd.1, hd.2, hs, rfl⟩)
      case h_4 hs => exact .inr (.inr ⟨by simp [h, hs], rfl⟩)
      case h_5 hs => exact .inr (.inr ⟨by simp [h, hs], rfl⟩)
    · next hd => exact .inr (.inr ⟨fun z hz k => by rw [h] at hz; cases hz; exact hd ⟨k.1, k.2.1⟩, rfl⟩)

namespace RouteSound
variable {x y : Midway} {s : State} {r : EntryRef} {e : Entry}

theorem reroute (h : RouteSound x s) (hx : x.hand = none) (d : DestId) (r : EntryRef) :
    RouteSound x (reroute d r s) := by
  obtain ⟨e, hf, hd, item, -, hr⟩ | ⟨e, hf, hd, item, hs, hr⟩ | ⟨-, hr⟩ := reroute_cases d r s
  · rw [hr]
    have found : (Machine.withdraw r d s).find r = some { e with fireAt := none, late := false, state := .routed } :=
      find_updateEntry_self hf rfl
    have back : RouteSound (x.holding r) (giveBack r d (Machine.withdraw r d s)) :=
      ((h.withdraw hx hf d).letGo found hd item (f := fun e => { e with dest := none }) rfl (holdsPlace_of_none rfl)
        fun k => absurd rfl k).unreserve
    have counted : RouteSound (x.holding r) (offered d r s) :=
      (back.modEntry_unread (f := fun e => { e with attempts := min (e.attempts + 1) 7 }) (fun _ => rfl) (fun _ => rfl)
        (fun _ => rfl) (fun _ => rfl) fun _ => rfl).elsewhere rfl rfl
    exact counted.decideRoute hx (offered_find hf) (Entry.rerouted_loose item) (some d)
  · rw [hr]
    have shaped := h.shape e (List.mem_of_find?_eq_some hf) (by simp [hx])
    refine (h.letGo hf hd item (f := fun e => { e with dest := some .tail }) rfl (holdsPlace_of_tail rfl)
      fun _ => ?_).unreserve
    obtain ⟨-, fire, token⟩ := shaped
    exact ⟨by simp [hs], fire, token⟩
  · rw [hr]; exact h

theorem forEach {α : Type} (h : RouteSound x s) {f : α → State → State} {l : List α}
    (hf : ∀ a ∈ l, ∀ u, RouteSound x u → RouteSound x (f a u)) : RouteSound x (forEach l f s) :=
  forEach_invariant (RouteSound x) f l hf s h

theorem cascade (h : RouteSound x s) (hx : x.hand = none) (ds : List DestId) : RouteSound x (cascade ds s) :=
  h.forEach fun a _ _ hu => hu.reroute hx a.1 a.2

/-! ### Holds (R107) -/

theorem gainHold (h : RouteSound x s) (set : Holds → Holds) (d : DestId) : RouteSound x (gainHold set d s) :=
  h.changeDest_unread d fun _ => rfl

theorem syncConditions (h : RouteSound x s) : RouteSound x (syncConditions s) :=
  h.elsewhere (by simp [Machine.syncConditions]) (by simp [Machine.syncConditions])

theorem gainRerouting (h : RouteSound x s) (hx : x.hand = none) (c : Holds → Bool) (set : Holds → Holds)
    (ds : List DestId) : RouteSound x (gainRerouting c set ds s) :=
  (h.forEach fun d _ _ hu => hu.gainHold set d).syncConditions.cascade hx _

/-! ### The token (R67, R135) -/

/-- The token holds no place, and may leave the map (R64, R67). -/
theorem endToken (h : RouteSound x s) (t : TestResult) : RouteSound x (endToken t s) := by
  have sub := eraseEntry_sublist .token s.map
  have map := endToken_map t s
  have dests : (Machine.endToken t s).dests = s.dests := by rw [endToken_eq]
  refine ⟨by rw [map]; exact sub.length_le.trans h.room, by rw [map]; exact h.names.sublist (sub.map _),
    fun z hz hh => h.shape z (sub.subset (map ▸ hz)) hh, fun d => ?_⟩
  have items : ∀ l : List Entry, l.filter (Entry.holdsPlace d)
      = (l.filter fun e => !e.isTest).filter fun e => decide (e.dest = some (.gateDest d)) := fun l => by
    rw [List.filter_filter]; rfl
  have bound : boundFor (Machine.endToken t s) d = boundFor s d := by
    rw [boundFor_eq, boundFor_eq, map, items, items s.map, eraseEntry_token_items]
  rw [bound, State.dest, dests]
  exact h.account d

/-! ### Chutes (R139 to R147) -/

theorem offerNotice (h : RouteSound x s) (st : Station) (n : Notice) : RouteSound x (offerNotice st n s) := by
  unfold Machine.offerNotice
  split
  · split <;> exact h.elsewhere rfl rfl
  · exact h

theorem offerArrival (h : RouteSound x s) (d : DestId) (a : Awaiting) (c : Bool) :
    RouteSound x (offerArrival d a c s) := by
  unfold Machine.offerArrival
  split
  · exact h.offerNotice _ _
  all_goals exact h

theorem settleEmptied (h : RouteSound x s) (hl : ∀ d, ¬x.leaving d) (d : DestId) :
    RouteSound x (settleEmptied d s) := by
  unfold Machine.settleEmptied
  split
  · next k => exact h.completeRelease ((h.account d).reserved_of_releasing k.2 (hl d) k.1)
  · exact h

theorem countMiss (h : RouteSound x s) (hx : x.hand = none) (d : DestId) : RouteSound x (countMiss d s) := by
  have counted : RouteSound x (s.modDest d fun r => { r with misses := missCount r.misses }) :=
    h.modDest_unread d fun _ => rfl
  unfold Machine.countMiss
  dsimp only
  split
  · exact counted.gainRerouting hx _ _ _
  · exact counted

theorem miss (h : RouteSound x s) (hx : x.hand = none) (hl : ∀ d, ¬x.leaving d) (d : DestId) (place : Nat) :
    RouteSound x (miss d place s) := by
  unfold Machine.miss
  split
  · exact h
  · next a ha =>
    obtain ⟨hlt, -⟩ := List.getElem?_eq_some_iff.mp ha
    have resolved : RouteSound x (Machine.unreserve d (s.modDest d fun r => { r with awaiting := r.awaiting.eraseIdx place })) :=
      h.resolve (f := fun r => { r with awaiting := r.awaiting.eraseIdx place })
        (by simp only [List.length_eraseIdx, hlt, if_true]; omega) ⟨rfl, rfl, rfl⟩ rfl rfl
    have counted : RouteSound x ((Machine.unreserve d (s.modDest d fun r =>
        { r with awaiting := r.awaiting.eraseIdx place })).raiseDest d .misses) := resolved.elsewhere rfl rfl
    exact ((counted.countMiss hx d).offerArrival d a false).settleEmptied hl d

theorem sighting (h : RouteSound x s) (hl : ∀ d, ¬x.leaving d) (d : DestId) : RouteSound x (sighting d s) := by
  unfold Machine.sighting
  split
  · exact h.elsewhere rfl rfl
  · next a rest ha =>
    have resolved : RouteSound x (Machine.unreserve d (Machine.changeDest d confirmedRecord s)) :=
      h.resolve (f := confirmedRecord) (by simp [confirmedRecord, ha]) ⟨rfl, rfl, rfl⟩
        (map_of_untold (changeDest_untold d _ s)) (changeDest_dests d _ s)
    have counted : RouteSound x ((Machine.unreserve d (Machine.changeDest d confirmedRecord s)).raiseDest d .arrived) :=
      resolved.elsewhere rfl rfl
    exact (counted.offerArrival d a true).settleEmptied hl d

/-- A place that the event has in hand passes to the awaiting-confirm queue. -/
theorem queueUp {d : DestId} (h : RouteSound (x.plus d) s) (hl : ∀ d, ¬x.leaving d) (a : Awaiting) :
    RouteSound x (s.modDest d fun r => { r with awaiting := r.awaiting ++ [a] }) :=
  h.accounts rfl rfl fun z b => by
    simp only [Midway.plus] at b
    rw [modDest_dest]
    split
    · next k =>
      subst k
      rw [if_pos rfl] at b
      have reserved := b.reserved
      exact ⟨by simp only [List.length_append, List.length_singleton]; omega,
        fun k => absurd (((b.releasing k).resolve_left (hl z)).2) (Nat.succ_ne_zero _), b.owner, b.unclaimed, b.delivery⟩
    · next k => rwa [if_neg k] at b

/-- A fired item's place passes from the event to the awaiting-confirm queue (R59, R139). -/
theorem joinAwaiting {d : DestId} (h : RouteSound (x.plus d) s) (hx : x.hand = none) (hl : ∀ d, ¬x.leaving d)
    (a : Awaiting) : RouteSound x (joinAwaiting d a s) := by
  have missed : RouteSound (x.plus d) (if 4 ≤ (s.dest d).awaiting.length then Machine.miss d 0 s else s) := by
    split
    · exact h.miss hx hl d 0
    · exact h
  exact missed.queueUp hl a

/-! ### Gates (R129 to R132, R150, R151) -/

theorem modGate (h : RouteSound x s) (g : GateId) (f : Gate → Gate) : RouteSound x (s.modGate g f) :=
  h.elsewhere rfl rfl

theorem raise (h : RouteSound x s) (c : Counter) : RouteSound x (s.raise c) := h.elsewhere rfl rfl

theorem recordFault (h : RouteSound x s) (g : GateId) (c : FaultCause) (o : Option Side) :
    RouteSound x (recordFault g c o s) := h.modGate g _

theorem gateOut (h : RouteSound x s) (hx : x.hand = none) (g : GateId) : RouteSound x (gateOut g s) := by
  have moved := (h.modGate g fun z => { z with service := .outOfService }).gainRerouting hx Holds.gateOut setGateOut
    [gateDest g .left, gateDest g .right]
  unfold Machine.gateOut
  dsimp only
  split
  · exact (moved.endToken _).modGate g _
  · exact moved.modGate g _

theorem handFault (h : RouteSound x s) (hx : x.hand = none) (g : GateId) : RouteSound x (handFault g s) := by
  unfold Machine.handFault
  split
  · exact h.gateOut hx g
  · exact h

theorem uncommanded (h : RouteSound x s) (hx : x.hand = none) (g : GateId) (side : Side) :
    RouteSound x (uncommanded g side s) := (h.recordFault g _ _).handFault hx g

theorem beginWatch (h : RouteSound x s) (hx : x.hand = none) (g : GateId) : RouteSound x (beginWatch g s) := by
  unfold Machine.beginWatch
  split
  · split
    case h_1 => exact h
    case h_4 => exact RouteSound.uncommanded (s := s.drew 1) (h.elsewhere rfl rfl) hx g _
    all_goals exact h.uncommanded hx g _
  · exact h

theorem startCheck (h : RouteSound x s) (g : GateId) (side : Side) (b : Bool) :
    RouteSound x (startCheck g side b s) := by
  unfold Machine.startCheck
  split
  · split <;> [exact h.endToken _; exact h]
  · exact h.modGate g _

theorem checkSeen (h : RouteSound x s) (hx : x.hand = none) (g : GateId) (side : Side) :
    RouteSound x (checkSeen g side s) := by
  have seen := h.modGate g fun z => { z with checks := z.checks.filter fun c => c.side != side }
  unfold Machine.checkSeen
  dsimp only
  split
  · exact (seen.endToken _).beginWatch hx g
  · exact seen.beginWatch hx g

theorem switchGoesExtended (h : RouteSound x s) (hx : x.hand = none) (g : GateId) (side : Side) :
    RouteSound x (switchGoesExtended g side s) := by
  have stray : RouteSound x (strayExtension g side s) := by
    unfold strayExtension
    split
    · split <;> [exact h.uncommanded hx g side; exact h]
    · split <;> [exact h.uncommanded hx g side; exact h]
  unfold Machine.switchGoesExtended
  split
  · exact stray
  · exact h.checkSeen hx g side

theorem checkFails (h : RouteSound x s) (hx : x.hand = none) (g : GateId) (c : ActuatorCheck) :
    RouteSound x (checkFails g c s) := by
  have recorded := (h.modGate g fun z => { z with checks := z.checks.erase c }).recordFault g .actuatorNoExtend
    (some c.side)
  unfold Machine.checkFails
  dsimp only
  split
  · exact (recorded.endToken _).handFault hx g
  · exact recorded.handFault hx g

/-! ### Arming and firing (R121 to R127) -/

theorem refuseArming (h : RouteSound x s) (hx : x.hand = none) (r : EntryRef) (d : DestId) :
    RouteSound x (refuseArming r d s) := by
  unfold Machine.refuseArming
  dsimp only
  split
  · exact (h.raise _).endToken _
  · exact (h.raise _).reroute hx d r

theorem missedFire (h : RouteSound x s) (hx : x.hand = none) (g : GateId) (r : EntryRef) (d : DestId) :
    RouteSound x (missedFire g r d s) := by
  have missed : RouteSound x ((s.modGate g fun z => { z with queue := z.queue.tail }).raiseGate g .missedFires) :=
    (h.modGate g _).raise _
  unfold Machine.missedFire
  dsimp only
  split
  · exact missed.endToken _
  · exact missed.reroute hx d r

/-- A ROUTED entry that takes its place in a fire queue is ARMED with its F (R123). -/
theorem joinQueue (h : RouteSound x s) (hf : s.find r = some e) (hx : x.hand = none) (hs : e.state = .routed)
    (g : GateId) (f : Pos) (late : Bool) : RouteSound x (joinQueue r g f late s) := by
  have armed : RouteSound x (s.modEntry r fun e => { e with state := .armed, fireAt := some f, late := late }) := by
    refine h.modEntry hf rfl (fun _ _ => Iff.rfl) (fun hh => ?_) (fun z => rfl) rfl fun z hz => ?_
    · obtain ⟨dest, -, -⟩ := h.shape e (List.mem_of_find?_eq_some hf) (by simp [hx])
      rw [hs] at dest
      exact ⟨dest, by simp, fun _ => .inr rfl⟩
    · exact (h.account z).delivery e (List.mem_filter.mpr ⟨List.mem_of_find?_eq_some hf, hz⟩)
  unfold Machine.joinQueue
  dsimp only
  split
  · exact armed.elsewhere rfl rfl
  · exact armed.elsewhere rfl rfl

/-- A fired item leaves the map for the awaiting-confirm queue with its reservation; a fired token stays (R59, R66, R126). -/
theorem fire (h : RouteSound x s) (hx : x.hand = none) (hl : ∀ d, ¬x.leaving d) (g : GateId) {d : DestId}
    (hf : s.find e.ref = some e) (hd : e.dest = some (.gateDest d)) (f : Pos) : RouteSound x (fire g e d f s) := by
  have counted : RouteSound x (countFire g e.late (s.modGate g (firedGate (destSide d) f))) := by
    unfold countFire
    dsimp only
    split
    · exact ((h.modGate g _).raise _).raise _
    · exact (h.modGate g _).raise _
  have found : (countFire g e.late (s.modGate g (firedGate (destSide d) f))).find e.ref = some e := by
    unfold countFire; dsimp only; split <;> exact hf
  unfold Machine.fire
  dsimp only
  split
  · exact counted.startCheck g _ true
  · next t ht =>
    have ref : e.ref = .tag t := by simp [Entry.ref, ht]
    rw [ref] at found
    have dropped : RouteSound (x.plus d) ((countFire g e.late (s.modGate g (firedGate (destSide d) f))).dropEntry (.tag t)) := by
      refine counted.dropEntry found (fun z => ?_) rfl rfl
      by_cases k : z = d
      · simp [Midway.plus, Entry.holdsPlace, hd, isTest_of_tag ref, k]
      · simp [Midway.plus, Entry.holdsPlace, hd, k, Ne.symm k]
    exact (dropped.joinAwaiting hx hl _).startCheck g _ false

end RouteSound

end Sys2Proof.Machine
end

section
/-! SUPPORT. One reroute, and a cascade: where each entry goes, and that a destination that is no longer open keeps none (R58, R62, R91, R92, R106, R107). -/

namespace Sys2Proof.Machine

/-! ### Entries taken one after another -/

/-- Entries with distinct names, each changed under its own name alone: what the step makes of one entry stands when the last has been taken. -/
theorem forEach_entries {I : State → Prop} {R : Entry → Option Entry → Prop} {f : Entry → State → State}
    (l : List Entry) : ∀ s, (l.map Entry.ref).Nodup → (∀ e ∈ l, s.find e.ref = some e) → I s →
      (∀ e ∈ l, ∀ u, I u → u.find e.ref = some e →
        I (f e u) ∧ SameOtherEntries u (f e u) e.ref ∧ R e ((f e u).find e.ref)) →
      I (forEach l f s) ∧ (∀ r, r ∉ l.map Entry.ref → (forEach l f s).find r = s.find r)
        ∧ ∀ e ∈ l, R e ((forEach l f s).find e.ref) := by
  induction l with
  | nil => exact fun s _ _ hi _ => ⟨hi, fun _ _ => rfl, fun _ he => absurd he List.not_mem_nil⟩
  | cons e l ih =>
    intro s names found hi step
    obtain ⟨fresh, names⟩ := List.nodup_cons.mp names
    obtain ⟨hi', others, hr⟩ := step e List.mem_cons_self s hi (found e List.mem_cons_self)
    have apart : ∀ z ∈ l, z.ref ≠ e.ref := fun z hz h => fresh (h ▸ List.mem_map_of_mem hz)
    obtain ⟨last, rest, each⟩ := ih (f e s) names
      (fun z hz => (others _ (apart z hz)).trans (found z (List.mem_cons_of_mem _ hz))) hi'
      fun z hz => step z (List.mem_cons_of_mem _ hz)
    refine ⟨last, fun r hr => ?_, fun z hz => ?_⟩
    · simp only [List.map_cons, List.mem_cons, not_or] at hr
      exact (rest r hr.2).trans (others r hr.1)
    · rcases List.mem_cons.mp hz with rfl | hz
      · exact (rest _ fresh).symm ▸ hr
      · exact each z hz

/-! ### Where one reroute takes an entry -/

/-- A state in which an entry bound for a gate stands (R54). -/
def Entry.underway (e : Entry) : Prop := e.state = .routed ∨ e.state = .armed ∨ e.state = .suspect

theorem Entry.shaped.underway {e : Entry} {d : DestId} (h : e.shaped) (hd : e.dest = some (.gateDest d)) :
    e.underway := by
  obtain ⟨dest, -, -⟩ := h
  unfold Entry.underway
  cases hs : e.state <;> simp_all

/-- The entry as a reroute away from d leaves it (R58, R62, R91). -/
def movedEntry (d : DestId) (r : EntryRef) (s : State) (e : Entry) : Entry :=
  if e.state = .suspect then { e with dest := some .tail } else decidedEntry (offered d r s) e.rerouted (some d)

section
variable {d : DestId} {r : EntryRef} {s : State} {e : Entry}

theorem movedEntry_tag (d : DestId) (r : EntryRef) (s : State) (e : Entry) : (movedEntry d r s e).tag = e.tag := by
  unfold movedEntry
  split
  · rfl
  · exact decidedEntry_tag _ _ _

theorem movedEntry_ref (d : DestId) (r : EntryRef) (s : State) (e : Entry) : (movedEntry d r s e).ref = e.ref := by
  simp only [Entry.ref, movedEntry_tag]

/-- A reroute changes its entry in its place. -/
theorem reroute_map (hf : s.find r = some e) (hd : e.dest = some (.gateDest d)) (item : e.isTest = false)
    (hs : e.underway) : (reroute d r s).map = updateEntry r (fun _ => movedEntry d r s e) s.map := by
  rcases reroute_cases d r s with ⟨z, hz, -, -, state, hr⟩ | ⟨z, hz, -, -, state, hr⟩ | ⟨not, -⟩
  · rw [hf] at hz; cases hz
    have moved : movedEntry d r s e = decidedEntry (offered d r s) e.rerouted (some d) :=
      if_neg (by rcases state with h | h <;> simp [h])
    rw [hr, decideRoute_eq (some d) (offered_find hf), withMap_map, offered_map, moved]
    exact updateEntry_updateEntry r (f := Entry.rerouted) (fun _ => rfl) _ _
  · rw [hf] at hz; cases hz
    have moved : movedEntry d r s e = { e with dest := some .tail } := if_pos state
    rw [hr, unreserve_map, moved]
    exact updateEntry_congr hf rfl
  · refine absurd ⟨hd, item, ?_, ?_⟩ (not e hf) <;> rcases hs with h | h | h <;> simp [h]

theorem reroute_find (hf : s.find r = some e) (hd : e.dest = some (.gateDest d)) (item : e.isTest = false)
    (hs : e.underway) : (reroute d r s).find r = some (movedEntry d r s e) := by
  rw [State.find, reroute_map hf hd item hs]
  exact find_updateEntry_self hf (movedEntry_tag d r s e)

theorem reroute_others (hf : s.find r = some e) (hd : e.dest = some (.gateDest d)) (item : e.isTest = false)
    (hs : e.underway) : SameOtherEntries s (reroute d r s) r := fun x hx => by
  rw [State.find, reroute_map hf hd item hs]
  exact find_updateEntry_ne hx fun _ _ _ => (movedEntry_ref d r s e).trans (find_ref hf)

theorem reroute_refs (hf : s.find r = some e) (hd : e.dest = some (.gateDest d)) (item : e.isTest = false)
    (hs : e.underway) : (reroute d r s).map.map Entry.ref = s.map.map Entry.ref := by
  rw [reroute_map hf hd item hs]
  exact refs_updateEntry fun _ _ _ => (movedEntry_ref d r s e).trans (find_ref hf)

end

/-- The search away from d never gives d. -/
theorem decidedEntry_away (s : State) (e : Entry) (d : DestId) :
    (decidedEntry s e (some d)).dest ≠ some (.gateDest d) := by
  cases hs : search s e (some d) with
  | none => simp [decidedEntry_tail hs]
  | some w =>
    rw [decidedEntry_winner hs]
    intro h
    obtain rfl : w = d := by simpa using h
    exact (search_eligible hs).1 rfl

/-- The reroute leaves the entry's destination behind. -/
theorem movedEntry_away (d : DestId) (r : EntryRef) (s : State) (e : Entry) :
    (movedEntry d r s e).dest ≠ some (.gateDest d) := by
  unfold movedEntry
  split
  · simp
  · exact decidedEntry_away _ _ _

/-- A destination takes no more entries: it is not OPEN, or carries a hold. -/
def Dest.shut (r : Dest) : Prop := r.state = .opened → r.holds ≠ {}

theorem Holds.Within.eq_empty {a : Holds} (h : a.Within {}) : a = {} :=
  h.antisymm ⟨nofun, nofun, nofun, nofun, nofun⟩

/-- Where events only go forward, a destination that is OPEN without a hold was so before. -/
theorem Dest.Advances.open_before {a b : Dest} (h : a.Advances b) (state : b.state = .opened) (holds : b.holds = {}) :
    a.state = .opened ∧ a.holds = {} := by
  refine ⟨?_, Holds.Within.eq_empty (holds ▸ h.holds)⟩
  rcases h.state with e | ⟨-, e⟩
  · rw [← e, state]
  · rw [state] at e; cases e

theorem told_offered {s₀ s : State} (h : Told s₀ s) (d : DestId) (r : EntryRef) : Told s₀ (offered d r s) :=
  ((h.withdraw r d).giveBack r d).countReroute r

theorem Told.dest_advances {s u : State} (h : Told s u) (d : DestId) : (s.dest d).Advances (u.dest d) := by
  obtain ⟨order, h⟩ := h
  exact h.advances d

/-- A rerouted entry is where the statements say, by the records as they stood before. -/
theorem movedEntry_movedTo {s₀ s : State} (h : Told s₀ s) (d : DestId) (r : EntryRef) (e : Entry) :
    MovedTo s₀ e (movedEntry d r s e) := by
  unfold MovedTo movedEntry
  by_cases hs : e.state = .suspect
  · rw [if_pos hs, if_pos hs]
  · rw [if_neg hs, if_neg hs]
    cases hw : search (offered d r s) e.rerouted (some d) with
    | none => rw [decidedEntry_tail hw]; exact ⟨rfl, rfl⟩
    | some w =>
      have ok := (search_eligible hw).2
      have advances := (told_offered h d r).dest_advances w
      rw [decidedEntry_winner hw]
      exact ⟨rfl, rfl, advances.open_before (receives_of_eligible ok).1 (eligible_holds ok)⟩

/-- No entry is moved to a destination that was shut. -/
theorem MovedTo.not_shut {s : State} {e e' : Entry} (h : MovedTo s e e') {d : DestId} (hd : (s.dest d).shut) :
    e'.dest ≠ some (.gateDest d) := by
  intro k
  unfold MovedTo at h
  split at h
  · rw [h] at k; simp at k
  · obtain ⟨-, h⟩ := h
    rw [k] at h
    exact hd h.2.1 h.2.2

theorem MovedTo.of_advances {s₀ s : State} (h : ∀ d, (s₀.dest d).Advances (s.dest d)) {e e' : Entry}
    (k : MovedTo s e e') : MovedTo s₀ e e' := by
  unfold MovedTo at k ⊢
  split
  · next hs => rwa [if_pos hs] at k
  · next hs =>
    rw [if_neg hs] at k
    obtain ⟨entry, place⟩ := k
    refine ⟨entry, ?_⟩
    split at place
    · next w _ => exact ⟨place.1, (h w).open_before place.2.1 place.2.2⟩
    · exact place
    · exact place.elim

/-! ### A cascade (R92) -/

/-- One entry's turn in a cascade. -/
def cascadeStep (ds : List DestId) (e : Entry) (s : State) : State :=
  match concerned ds e with
  | some d => reroute d e.ref s
  | none => s

/-- A cascade is the map's entries, each in its turn. -/
theorem cascade_eq (ds : List DestId) (s : State) : cascade ds s = forEach s.map (cascadeStep ds) s := by
  have turns : ∀ (l : List Entry) (u : State),
      forEach (l.filterMap fun e => (concerned ds e).map fun d => (d, e.ref)) (fun x acc => reroute x.1 x.2 acc) u
        = forEach l (cascadeStep ds) u := by
    intro l
    induction l with
    | nil => exact fun _ => rfl
    | cons e l ih =>
      intro u
      cases h : concerned ds e with
      | none =>
        have step : cascadeStep ds e u = u := by simp only [cascadeStep, h]
        rw [List.filterMap_cons_none (by simp [h]), ih, forEach, forEach, List.foldl_cons, step]
      | some d =>
        have step : cascadeStep ds e u = reroute d e.ref u := by simp only [cascadeStep, h]
        rw [List.filterMap_cons_some (b := (d, e.ref)) (by simp [h]), forEach, List.foldl_cons]
        refine (ih _).trans ?_
        rw [forEach, forEach, List.foldl_cons, step]
  exact turns s.map s

theorem concerned_some {ds : List DestId} {e : Entry} {d : DestId} :
    concerned ds e = some d ↔ e.dest = some (.gateDest d) ∧ d ∈ ds ∧ e.isTest = false := by
  unfold concerned
  split
  · next x hx =>
    rw [hx]
    split
    · next h =>
      simp only [List.contains_iff_mem] at h
      simp only [Option.some.injEq, Target.gateDest.injEq]
      exact ⟨fun k => ⟨k, k ▸ h⟩, fun k => k.1⟩
    · next h =>
      simp only [List.contains_iff_mem, not_and] at h
      simp only [Option.some.injEq, Target.gateDest.injEq, reduceCtorEq, false_iff, not_and]
      rintro rfl hm
      exact h hm
  · next h => simp [h]
  · next h => simp [h]

theorem concerned_iff {ds : List DestId} {e : Entry} (item : e.isTest = false) :
    (∃ d ∈ ds, e.dest = some (.gateDest d)) ↔ ∃ d, concerned ds e = some d := by
  simp only [concerned_some, item, and_true]
  exact ⟨fun ⟨d, hm, hd⟩ => ⟨d, hd, hm⟩, fun ⟨d, hd, hm⟩ => ⟨d, hm, hd⟩⟩

/-- A cascade off destinations that are shut leaves none of the entries there, and every entry where the statements say (R62, R65, R91, R92). -/
theorem cascade_movedOff {s : State} {ds : List DestId} (names : (s.map.map Entry.ref).Nodup)
    (shape : ∀ e ∈ s.map, e.shaped) (shut : ∀ d ∈ ds, (s.dest d).shut) : MovedOff ds s (cascade ds s) := by
  have all := forEach_entries (I := fun u => Told s u ∧ u.map.map Entry.ref = s.map.map Entry.ref)
    (R := fun e o => ∃ e', o = some e' ∧ if (concerned ds e).isSome then MovedTo s e e' else e' = e)
    (f := cascadeStep ds) s.map s names (fun e he => find_of_mem names he) ⟨told_refl s, rfl⟩
    fun e he u ⟨told, refs⟩ hf => by
      cases h : concerned ds e with
      | none =>
        have step : cascadeStep ds e u = u := by simp only [cascadeStep, h]
        rw [step]
        exact ⟨⟨told, refs⟩, fun _ _ => rfl, e, hf, by simp⟩
      | some d =>
        obtain ⟨hd, -, item⟩ := concerned_some.mp h
        have underway := (shape e he).underway hd
        have step : cascadeStep ds e u = reroute d e.ref u := by simp only [cascadeStep, h]
        rw [step]
        exact ⟨⟨told.reroute d _, (reroute_refs hf hd item underway).trans refs⟩, reroute_others hf hd item underway,
          _, reroute_find hf hd item underway, by simpa using movedEntry_movedTo told d e.ref e⟩
  rw [← cascade_eq] at all
  obtain ⟨⟨-, refs⟩, -, each⟩ := all
  refine ⟨fun d hd => ?_, fun e he item => ?_⟩
  · refine List.eq_nil_iff_forall_not_mem.mpr fun e' he' => ?_
    obtain ⟨hm, bound, item⟩ := mem_boundFor.mp he'
    obtain ⟨e, he, href⟩ := List.mem_map.mp (refs ▸ List.mem_map_of_mem hm : e'.ref ∈ s.map.map Entry.ref)
    obtain ⟨z, hz, hr⟩ := each e he
    obtain rfl : z = e' := by
      rw [href, find_of_mem (refs ▸ names) hm] at hz
      exact (Option.some.inj hz).symm
    split at hr
    · exact hr.not_shut (shut d hd) bound
    · next h =>
      subst hr
      exact h (by rw [concerned_some.mpr ⟨bound, hd, item⟩]; rfl)
  · obtain ⟨e', hf, hr⟩ := each e he
    refine ⟨e', hf, ?_⟩
    by_cases h : ∃ d ∈ ds, e.dest = some (.gateDest d)
    · rw [if_pos (Option.isSome_iff_exists.mpr ((concerned_iff item).mp h))] at hr
      rwa [if_pos h]
    · rw [if_neg fun k => h ((concerned_iff item).mpr (Option.isSome_iff_exists.mp k))] at hr
      rwa [if_neg h]

/-- The names stand, as many as there were. -/
theorem cascade_refs (ds : List DestId) (s : State) : (cascade ds s).map.map Entry.ref = s.map.map Entry.ref := by
  have view := cascade_tokenView ds s
  simp only [tokenView, Prod.mk.injEq] at view
  exact view.2.2.2

end Sys2Proof.Machine
end

section
/-! SUPPORT. What the blocks do with entries outside the route unit keeps the invariant: captures, reports, the encoder loss, RESUME, RESTART and the token (R22 to R25, R28, R30, R34, R60, R61, R63, R64, R70, R155). -/

namespace Sys2Proof.Machine

namespace RouteSound
variable {s : State} {r : EntryRef} {e : Entry}

/-! ### Entries handed over (R22, R30, R34) -/

theorem found_pending (h : RouteSound {} s) (he : e ∈ pendingEntries s) :
    s.find e.ref = some e ∧ e.state = .pending := by
  obtain ⟨hm, hs⟩ := List.mem_filter.mp he
  exact ⟨find_of_mem h.names hm, by simpa using hs⟩

theorem unnamed (h : RouteSound {} s) (hf : s.find r = some e) (hs : e.state = .pending) (c : GlobalCounter) :
    RouteSound {} (Machine.handOver r Entry.unnamed c s) :=
  h.handOver rfl hf hs unnamed_tag (fun _ => rfl) (fun _ => rfl) c

theorem takeReport (h : RouteSound {} s) (hf : s.find r = some e) (hs : e.state = .pending) (i : ItemReport) :
    RouteSound {} (takeReport r i s) := by
  rw [takeReport_eq]
  exact RouteSound.handOver (s := s.withPatterns (reportedTable i s.patterns)) (h.elsewhere rfl rfl) rfl hf hs
    (identified_tag _ _ i) (fun _ => rfl) (fun _ => rfl) _

/-- The older PENDING entries are given up, and then the report is taken, by entries that stand as they were (R30). -/
theorem matchReport (h : RouteSound {} s) (i : ItemReport) : RouteSound {} (matchReport i s) := by
  unfold Machine.matchReport
  split
  · exact h.elsewhere rfl rfl
  · next e he =>
    obtain ⟨-, older, rest, pending, before⟩ := List.find?_eq_some_iff_append.mp he
    have taken : (pendingEntries s).takeWhile (fun x => !hasSeq i.seq x) = older := by
      rw [pending, List.takeWhile_append_of_pos before]
      simp [List.find?_some he]
    have law : MapLaw s := ⟨h.room, h.names⟩
    have nodup := pending_refs_nodup law
    rw [pending, List.map_append, List.nodup_append] at nodup
    obtain ⟨-, found, fresh⟩ := givenUp_older law pending
    have inTurn := forEach_entries (I := RouteSound {}) (R := fun _ _ => True) (f := fun e => giveUp e.ref) older s
      nodup.1 (fun z hz => (h.found_pending (pending ▸ List.mem_append_left _ hz)).1) h fun z hz u hu hf =>
        ⟨hu.unnamed hf (h.found_pending (pending ▸ List.mem_append_left _ hz)).2 _,
          handOver_others _ unnamed_tag hf, trivial⟩
    obtain ⟨given, others, -⟩ := inTurn
    have turns : Machine.forEach (older.map Entry.ref) giveUp s = Machine.forEach older (fun e => giveUp e.ref) s :=
      List.foldl_map
    dsimp only
    rw [taken, turns]
    exact given.takeReport ((others _ fresh).trans found) (h.found_pending (List.mem_of_find?_eq_some he)).2 i

/-! ### Captures (R21 to R25) -/

theorem makePendingRoom (h : RouteSound {} s) : RouteSound {} (makePendingRoom s) := by
  by_cases room : (pendingEntries s).length < 8
  · rwa [makePendingRoom_room room]
  · obtain ⟨e, rest, he⟩ := exists_oldest room
    rw [makePendingRoom_full he room]
    obtain ⟨found, pending⟩ := h.found_pending (he ▸ List.mem_cons_self)
    exact h.unnamed found pending _

theorem commitCapture (h : RouteSound {} s) (p : Pos) : RouteSound {} (commitCapture p s) := by
  have counted : RouteSound {} (countCapture s) := h.elsewhere rfl rfl
  by_cases refused : Refused s
  · rw [commitCapture_refused p refused]
    exact counted.elsewhere rfl rfl
  · obtain ⟨room, fresh⟩ := not_or.mp refused
    have refs := (makePendingRoom_keeps (countCapture s)).2
    have length := congrArg List.length refs
    simp only [List.length_map, countCapture_map] at length
    rw [commitCapture_made p refused]
    refine RouteSound.elsewhere (s := (Machine.makePendingRoom (countCapture s)).withMap _)
      (counted.makePendingRoom.join (n := newEntry p (s.reader.tagCounter + 1)) ?_ (by omega) ⟨rfl, by simp [newEntry],
        fun k => by simp [newEntry] at k⟩ (holdsPlace_of_none rfl)) rfl rfl
    rw [find_eq_none_iff, refs, ← find_eq_none_iff]
    exact not_not.mp fresh

theorem closeCapture (h : RouteSound {} s) (x : Tag) (made : Bool) (n : Nat) (c : Bool) :
    RouteSound {} (closeCapture x made n c s) := by
  have unread : ∀ e, (closeLength n c e).dest = e.dest ∧ (closeLength n c e).owner = e.owner
      ∧ (closeLength n c e).state = e.state ∧ (closeLength n c e).fireAt = e.fireAt := fun e => by
    unfold closeLength
    split <;> exact ⟨rfl, rfl, rfl, rfl⟩
  unfold Machine.closeCapture
  split
  · exact h.modEntry_unread (closeLength_tag n c) (fun e => (unread e).1) (fun e => (unread e).2.1)
      (fun e => (unread e).2.2.1) fun e => (unread e).2.2.2
  · exact h

theorem setCapture (h : RouteSound {} s) (c : Capture) : RouteSound {} (setCapture c s) := h.elsewhere rfl rfl

theorem endCapture (h : RouteSound {} s) (p : Pos) : RouteSound {} (endCapture p s) := by
  unfold Machine.endCapture
  split
  · exact (h.closeCapture _ _ _ _).setCapture _
  all_goals exact h

theorem eyeBlocks (h : RouteSound {} s) : RouteSound {} (eyeBlocks s) := by
  unfold Machine.eyeBlocks
  split
  case h_1 | h_2 => exact h.setCapture _
  all_goals exact h

theorem eyeClears (h : RouteSound {} s) : RouteSound {} (eyeClears s) := by
  unfold Machine.eyeClears
  split
  · split
    · exact h.setCapture _
    · exact (h.commitCapture _).endCapture _
  · exact h.endCapture _
  · exact h.setCapture _
  · exact h

/-! ### Encoder loss and RESUME (R14, R61, R63) -/

/-- The mark changes neither the place of an entry nor who may receive it. -/
theorem holdsPlace_suspectEntry (d : DestId) (e : Entry) : (suspectEntry e).holdsPlace d = e.holdsPlace d := by
  have dest : (suspectEntry e).dest = e.dest := by unfold suspectEntry; split <;> rfl
  simp only [Entry.holdsPlace, dest, suspectEntry_isTest]

theorem suspectEntry_shaped {e : Entry} (h : e.shaped) : (suspectEntry e).shaped := by
  unfold suspectEntry
  split
  · exact h
  · next item => exact ⟨trivial, by simp, fun k => absurd k (tag_of_item (e := e) (by simpa using item))⟩

theorem suspected (h : RouteSound {} s) : RouteSound {} (s.withMap (s.map.map suspectEntry)) := by
  have refs : (s.map.map suspectEntry).map Entry.ref = s.map.map Entry.ref := by
    rw [List.map_map]
    exact List.map_congr_left fun e _ => suspectEntry_ref e
  have bound : ∀ d, boundFor (s.withMap (s.map.map suspectEntry)) d = (boundFor s d).map suspectEntry := fun d => by
    rw [boundFor_eq, boundFor_eq, withMap_map, List.filter_map]
    exact congrArg (List.map suspectEntry) (List.filter_congr fun e _ => holdsPlace_suspectEntry d e)
  refine ⟨by rw [withMap_map, List.length_map]; exact h.room, by rw [withMap_map, refs]; exact h.names,
    fun z hz _ => ?_, fun d => ?_⟩
  · obtain ⟨e, he, rfl⟩ := List.mem_map.mp hz
    exact suspectEntry_shaped (h.shape e he (by simp))
  · rw [bound]
    refine (h.account d).rebound (by rw [List.length_map]) fun z hz => ?_
    obtain ⟨e, he, rfl⟩ := List.mem_map.mp hz
    have owner : (suspectEntry e).owner = e.owner := by unfold suspectEntry; split <;> rfl
    have received := (h.account d).delivery e he
    unfold mayReceive at received ⊢
    rwa [owner]

theorem lossOutside (h : RouteSound {} s) : RouteSound {} (lossOutside s) := by
  have aborted : RouteSound {} (abortUnfired s) := by
    unfold abortUnfired
    split
    · exact h.endToken _
    · exact h
  refine aborted.suspected.elsewhere (lossOutside_map s) ?_
  rw [Machine.lossOutside, abandonCapture_eq]
  rfl

theorem takeWindowEnd (h : RouteSound {} s) : RouteSound {} (takeWindowEnd s) := by
  have ended : RouteSound {} (s.modBelt endWindow) := h.elsewhere rfl rfl
  unfold Machine.takeWindowEnd
  dsimp only
  split
  · next k =>
    rw [encoderLoss_running k.1]
    exact RouteSound.lossOutside (ended.elsewhere rfl rfl)
  · exact ended

/-- A discarded entry leaves with its reservation (R63). -/
theorem discardSuspect (h : RouteSound {} s) (hf : s.find e.ref = some e) (item : e.isTest = false) :
    RouteSound {} (discardSuspect e s) := by
  rw [discardSuspect_eq]
  refine RouteSound.raise ?_ _
  unfold releaseBound
  split
  · next d hd =>
    refine RouteSound.unreserve (h.dropEntry hf (fun z => ?_) rfl rfl)
    by_cases k : z = d
    · simp [Midway.plus, Entry.holdsPlace, hd, item, k]
    · simp [Midway.plus, Entry.holdsPlace, hd, k, Ne.symm k]
  · next hd => exact h.dropEntry hf (fun d => by simp [holdsPlace_of_tail hd]) rfl rfl
  · next hd => exact h.dropEntry hf (fun d => by simp [holdsPlace_of_none hd]) rfl rfl

theorem discardSuspects (h : RouteSound {} s) : RouteSound {} (discardSuspects s) := by
  have item : ∀ e ∈ s.map.filter (fun e => e.state == .suspect), s.find e.ref = some e ∧ e.isTest = false := fun e he => by
    obtain ⟨hm, hs⟩ := List.mem_filter.mp he
    refine ⟨find_of_mem h.names hm, ?_⟩
    obtain ⟨-, -, token⟩ := h.shape e hm (by simp)
    cases ht : e.tag with
    | none => rw [eq_of_beq hs] at token; simp [ht] at token
    | some x => simp [Entry.isTest, ht]
  exact (forEach_entries (I := RouteSound {}) (R := fun _ _ => True) _ s (h.names.sublist (List.filter_sublist.map _))
    (fun e he => (item e he).1) h fun e he u hu hf => ⟨hu.discardSuspect hf (item e he).2, fun x hx => by
      rw [State.find, discardSuspect_map]
      exact eraseEntry_find_ne hx _, trivial⟩).1

theorem resumeHalted (h : RouteSound {} s) : RouteSound {} (resumeHalted s) := by
  have cleared : RouteSound {} (clearCauses s) := h.elsewhere rfl rfl
  by_cases loss : s.belt.causes.encoderLoss = true
  · rw [resumeHalted_loss loss]
    exact cleared.discardSuspects.elsewhere rfl rfl
  · rw [resumeHalted_noLoss loss]
    exact cleared.elsewhere rfl rfl

/-! ### RESTART, the tail and the token (R60, R64, R70, R95, R117, R155) -/

theorem restartPart (h : RouteSound {} s) : RouteSound {} (restartPart s) := by
  have map := restartPart_map s
  refine ⟨by simp [map], by simp [map], by simp [map], fun d => ?_⟩
  have bound : boundFor (Machine.restartPart s) d = [] := by rw [boundFor_eq, map]; rfl
  obtain ⟨-, -, owner, unclaimed, -⟩ := h.account d
  rw [bound, restartPart_dest]
  cases hs : (s.dest d).state <;>
    simp only [hs, reduceCtorEq, iff_true, iff_false, forall_const] at owner unclaimed <;>
    constructor <;> simp [restartedDest, restartDest, releasedRecord, hs, owner, unclaimed]

theorem tailArrival (h : RouteSound {} s) (hf : s.find r = some e) (hs : e.state = .toTail) :
    RouteSound {} (s.dropEntry r) := by
  obtain ⟨dest, -, -⟩ := h.shape e (List.mem_of_find?_eq_some hf) (by simp)
  rw [hs] at dest
  exact h.dropEntry hf (fun d => by simp [holdsPlace_of_tail dest]) rfl rfl

theorem makeToken (h : RouteSound {} s) (g : GateId) (side : Side) (fresh : s.find .token = none)
    (room : s.map.length < 64) : RouteSound {} (makeToken g side s) :=
  RouteSound.elsewhere (s := s.withMap (s.map ++ [tokenEntry s.belt.p (gateDest g side)]))
    (h.join fresh room ⟨⟨_, rfl⟩, by simp [tokenEntry], fun _ => .inl rfl⟩ fun d => by
      simp [Entry.holdsPlace, tokenEntry, Entry.isTest]) rfl rfl

end RouteSound
end Sys2Proof.Machine
end

section
/-! SUPPORT. What the owning blocks answer keeps the invariant, request by request (R41 to R48, R99 to R119, R130 to R133, R166 to R171, R180 to R187). -/

namespace Sys2Proof.Machine

/-! ### One record under a request (R100 to R106, R112) -/

namespace Dest.Account
variable {leaving : Prop} {bound : List Entry} {r : Dest}

/-- An UNCLAIMED destination has no place taken, so it may be claimed (R100). -/
theorem claimed (h : r.Account 0 leaving bound) (hs : r.state = .unclaimed) (q : Sender) :
    (Machine.claimed q r).Account 0 leaving bound := by
  obtain ⟨-, reserved⟩ := h.unclaimed hs
  obtain ⟨hb, ha, -⟩ := h.empty_of_reserved reserved
  subst hb
  exact ⟨by simp [Machine.claimed, reserved, ha], by simp [Machine.claimed], by simp [Machine.claimed],
    by simp [Machine.claimed], by simp⟩

/-- Entry to ACTIVE closes an owned destination, and leaves the others in their state (R112). -/
theorem unorphaned (h : r.Account 0 leaving bound) : (Machine.unorphaned r).Account 0 leaving bound := by
  cases hs : r.state with
  | unclaimed | releasing => exact h.congr (by simp [Dest.accountView, Machine.unorphaned, hs])
  | closed | opened | draining =>
    exact h.owned (by simp [hs]) rfl rfl rfl (by simp [Machine.unorphaned, hs]) (by simp [Machine.unorphaned, hs])

/-- The entries of a claimed destination begin to be moved off it (R106). -/
theorem leave (h : r.Account 0 False bound) (hs : r.state ≠ .unclaimed) :
    ({ r with state := .releasing } : Dest).Account 0 True bound where
  reserved := h.reserved
  releasing _ := .inl trivial
  owner := iff_of_false (fun k => hs (h.owner.mp k)) (by simp)
  unclaimed := nofun
  delivery := h.delivery

end Dest.Account

theorem setDestRecord_accountView (pl : List Byte) (b : Bool) (r : Dest) :
    (setDestRecord pl b r).accountView = r.accountView := by
  unfold setDestRecord rackAfter
  dsimp only
  split_ifs <;> rfl

namespace RouteSound
variable {s : State}

/-! ### Destinations -/

theorem withDest (h : RouteSound {} s) {pl : List Byte} {f : DestId → Answer} (hf : ∀ d, RouteSound {} (f d).state) :
    RouteSound {} (withDest pl s f).state := by
  unfold Machine.withDest
  split
  · exact h
  · exact hf _

/-- An owned destination changes in its state, F_d or holds, and stays owned. -/
theorem changeOwned (h : RouteSound {} s) {d : DestId} {f : Dest → Dest} (claimed : (s.dest d).state ≠ .unclaimed)
    (kept : (f (s.dest d)).reserved = (s.dest d).reserved ∧ (f (s.dest d)).awaiting = (s.dest d).awaiting
      ∧ (f (s.dest d)).owner = (s.dest d).owner)
    (state : (f (s.dest d)).state ≠ .unclaimed)
    (releasing : (f (s.dest d)).state = .releasing → (s.dest d).state = .releasing) :
    RouteSound {} (Machine.changeDest d f s) :=
  h.changeDest fun a => a.owned claimed kept.1 kept.2.1 kept.2.2 state releasing

theorem handleClaim (h : RouteSound {} s) (q : Sender) (pl : List Byte) : RouteSound {} (handleClaim q pl s).state :=
  h.withDest fun d => by
    dsimp only
    split_ifs with _ owned _
    case neg =>
      refine h.changeDest fun a => a.claimed (a.owner.mp ?_) q
      simpa using owned
    all_goals exact h

theorem handleOpen (h : RouteSound {} s) (q : Sender) (pl : List Byte) : RouteSound {} (handleOpen q pl s).state :=
  h.withDest fun d => by
    split
    · exact h
    · split
      case h_1 hs | h_2 hs =>
        exact h.changeOwned (by simp [hs]) ⟨rfl, rfl, rfl⟩ (by simp [opened]) (by simp [opened])
      all_goals exact h

theorem handleClose (h : RouteSound {} s) (q : Sender) (pl : List Byte) : RouteSound {} (handleClose q pl s).state :=
  h.withDest fun d => by
    split
    · exact h
    · split
      case h_1 hs =>
        refine h.changeOwned (by simp [hs]) ⟨rfl, rfl, rfl⟩ ?_ ?_ <;> unfold closedRecord <;> dsimp only <;>
          split <;> simp
      all_goals exact h

theorem handleSetSlots (h : RouteSound {} s) (q : Sender) (pl : List Byte) :
    RouteSound {} (handleSetSlots q pl s).state :=
  h.withDest fun d => by
    split
    · exact h
    · split
      case h_1 hs | h_2 hs | h_3 hs =>
        exact h.changeOwned (by simp [hs]) ⟨rfl, rfl, rfl⟩ (by simp [slotted, clearedRecord, hs]) id
      all_goals exact h

theorem handleClearFull (h : RouteSound {} s) (q : Sender) (pl : List Byte) :
    RouteSound {} (handleClearFull q pl s).state :=
  h.withDest fun d => by
    split
    · exact h
    · split
      case h_1 => exact h
      all_goals exact h.changeDest_unread d fun _ => rfl

theorem handleRelease (h : RouteSound {} s) (q : Sender) (pl : List Byte) :
    RouteSound {} (handleRelease q pl s).state :=
  h.withDest fun d => by
    split
    · exact h
    · split
      case h_1 =>
        split
        · next hr => exact h.completeRelease hr
        · exact h
      all_goals exact h

/-- No entry is left where one begins to release, whether or not the release completes at once (R106). -/
theorem beginRelease (h : RouteSound {} s) {d : DestId} (hs : (s.dest d).state ≠ .unclaimed) :
    RouteSound {} (beginRelease d s) := by
  have left : RouteSound { leaving := (· = d) } (Machine.changeDest d (fun r => { r with state := .releasing }) s) :=
    h.accounts (map_of_untold (changeDest_untold d _ s)) rfl fun z a => by
      rw [changeDest_dest]
      split
      · next k => subst k; simpa using a.leave hs
      · next k => simpa [k] using a
  have shut : ((Machine.changeDest d (fun r => { r with state := .releasing }) s).dest d).shut := by
    rw [changeDest_dest, if_pos rfl]; exact nofun
  have empty := (cascade_movedOff (ds := [d]) left.names (fun e he => left.shape e he (by simp)) (by simpa using shut)).1 d
    (List.mem_singleton_self d)
  have moved : RouteSound {} (Machine.cascade [d] (Machine.changeDest d (fun r => { r with state := .releasing }) s)) :=
    (left.cascade rfl [d]).accounts rfl rfl fun z a =>
      { a with releasing := fun k => (a.releasing k).elim (fun e => .inr ⟨by rw [e]; exact empty, rfl⟩) .inr }
  unfold Machine.beginRelease
  dsimp only
  split
  · next ha =>
    refine moved.completeRelease ?_
    rw [(moved.account d).reserved, empty, ha]
    rfl
  · exact moved

theorem handleForceRelease (h : RouteSound {} s) (q : Sender) (pl : List Byte) :
    RouteSound {} (handleForceRelease q pl s).state :=
  h.withDest fun d => by
    split
    case h_1 hs | h_2 hs | h_3 hs => exact h.beginRelease (by simp [hs])
    all_goals exact h

/-! ### Links (R166 to R171) -/

theorem orphanAll (h : RouteSound {} s) (q : Sender) : RouteSound {} (orphanAll q s) :=
  h.forEach fun d _ _ hu => hu.changeDest_unread d fun _ => rfl

theorem unorphanAll (h : RouteSound {} s) (q : Sender) : RouteSound {} (unorphanAll q s) :=
  h.forEach fun _ _ _ hu => hu.changeDest fun a => a.unorphaned

theorem loseLink (h : RouteSound {} s) (l : LinkState) (q : Sender) : RouteSound {} (loseLink l q s) := by
  refine RouteSound.orphanAll ?_ q
  cases q <;> exact h.elsewhere rfl rfl

theorem enterActive (h : RouteSound {} s) (q : Sender) : RouteSound {} (enterActive q s) := by
  refine RouteSound.unorphanAll ?_ q
  cases q <;> exact h.elsewhere rfl rfl

theorem takeHello (h : RouteSound {} s) (q : Sender) : RouteSound {} (takeHello q s) := by
  unfold Machine.takeHello
  split
  case h_1 | h_2 => exact h.elsewhere rfl rfl
  case h_3 => split <;> [exact h.enterActive q; exact h.elsewhere rfl rfl]
  all_goals exact h

theorem takeGoodbye (h : RouteSound {} s) (q : Sender) : RouteSound {} (takeGoodbye q s) := by
  unfold Machine.takeGoodbye
  split
  case h_1 | h_2 => exact h.loseLink _ q
  case h_3 | h_4 => exact h.elsewhere rfl rfl
  case h_5 => exact h

theorem takeSilence (h : RouteSound {} s) (q : Sender) : RouteSound {} (takeSilence q s) := by
  unfold Machine.takeSilence
  split
  case h_1 | h_2 => exact h.elsewhere rfl rfl
  all_goals exact h

/-! ### Patterns, routes and belt -/

theorem withPatterns (h : RouteSound {} s) (l : List PatternEntry) : RouteSound {} (s.withPatterns l) :=
  h.elsewhere rfl rfl

theorem makeRoom (h : RouteSound {} s) : RouteSound {} (makeRoom s) := by
  unfold Machine.makeRoom evict
  split
  · split
    · exact h
    · exact (h.withPatterns _).offerNotice _ _
  · exact h

theorem handleRegisterPattern (h : RouteSound {} s) (q : Sender) (pl : List Byte) :
    RouteSound {} (handleRegisterPattern q pl s).state := by
  unfold Machine.handleRegisterPattern
  split
  · exact h
  · dsimp only
    split
    · exact h
    · split
      · exact h.makeRoom.withPatterns _
      · split
        · exact h.withPatterns _
        · exact h

theorem handleDropPattern (h : RouteSound {} s) (q : Sender) (pl : List Byte) :
    RouteSound {} (handleDropPattern q pl s).state := by
  unfold Machine.handleDropPattern
  split
  · exact h
  · dsimp only
    split
    · exact h
    · split
      · exact h
      · split
        · exact h.withPatterns _
        · exact h

theorem handleClearPatterns (h : RouteSound {} s) (q : Sender) (pl : List Byte) :
    RouteSound {} (handleClearPatterns q pl s).state := by
  unfold Machine.handleClearPatterns
  split
  · exact h
  · exact h.withPatterns _

theorem writeList (h : RouteSound {} s) (q : Sender) (t : Option RouteTarget) (m : List Byte) :
    RouteSound {} (writeList q t m s).state := by
  have stored : ∀ (t : RouteTarget) l, RouteSound {} (storeList t l s) := fun t l => by
    cases t <;> exact h.elsewhere rfl rfl
  unfold Machine.writeList
  dsimp only
  split
  · exact h
  · split
    · exact h
    · split
      · exact h
      · split
        · exact h
        · exact stored _ _

theorem enterRunning (h : RouteSound {} s) : RouteSound {} (enterRunning s) := h.elsewhere rfl rfl

theorem handleStart (h : RouteSound {} s) (q : Sender) (pl : List Byte) : RouteSound {} (handleStart q pl s).state := by
  unfold Machine.handleStart
  split
  case h_1 | h_2 => split <;> [exact h; exact h.enterRunning]
  all_goals exact h

theorem handleStop (h : RouteSound {} s) (q : Sender) (pl : List Byte) : RouteSound {} (handleStop q pl s).state := by
  unfold Machine.handleStop
  split
  case h_1 | h_2 => exact h.elsewhere rfl rfl
  all_goals exact h

theorem handleResume (h : RouteSound {} s) (q : Sender) (pl : List Byte) :
    RouteSound {} (handleResume q pl s).state := by
  unfold Machine.handleResume
  split
  case h_1 => split <;> [exact h.resumeHalted; exact h]
  all_goals exact h

/-! ### The site's configuration -/

theorem idleStop (h : RouteSound {} s) : RouteSound {} (idleStop s) := by
  unfold Machine.idleStop
  split
  · exact h.elsewhere rfl rfl
  · exact h

theorem handleSetBelt (h : RouteSound {} s) (q : Sender) (pl : List Byte) :
    RouteSound {} (handleSetBelt q pl s).state := by
  have stored : ∀ t : Settings, RouteSound {} { s with settings := t } := fun _ => h.elsewhere rfl rfl
  unfold Machine.handleSetBelt
  dsimp only
  split
  · exact h
  · split
    · exact h
    · exact (stored _).idleStop.gainRerouting rfl _ _ _

theorem storeGate (h : RouteSound {} s) (g : GateId) (x : Gate) : RouteSound {} (storeGate g x s) := by
  unfold Machine.storeGate
  dsimp only
  split
  · exact (h.modGate g _).beginWatch rfl g
  · exact h.modGate g _

theorem handleSetGate (h : RouteSound {} s) (q : Sender) (pl : List Byte) :
    RouteSound {} (handleSetGate q pl s).state := by
  unfold Machine.handleSetGate
  split
  · exact h
  · unfold setGateOf
    dsimp only
    split
    · exact h
    · split
      · exact h
      · split
        · exact h
        · exact h.storeGate _ _

theorem applyRack (h : RouteSound {} s) (d : DestId) (o : RackOutcome) : RouteSound {} (applyRack d o s) := by
  cases o with
  | nothing => exact h
  | setLevel => exact h.gainRerouting rfl _ _ _
  | clearLevel => exact h.changeDest_unread d fun _ => rfl
  | latch => exact (h.modDest_unread d (f := fun r => { r with rearm := .waitingForClear }) fun _ => rfl).gainRerouting rfl _ _ _

theorem storeDest (h : RouteSound {} s) (d : DestId) (pl : List Byte) : RouteSound {} (storeDest d pl s) := by
  have stored := h.changeDest_unread d (setDestRecord_accountView pl (s.rackSensor d))
  unfold Machine.storeDest
  dsimp only
  split
  · exact stored.applyRack d _
  · exact stored

theorem handleSetDest (h : RouteSound {} s) (q : Sender) (pl : List Byte) :
    RouteSound {} (handleSetDest q pl s).state := by
  unfold Machine.handleSetDest
  split
  · exact h
  · split
    · exact h
    · exact h.storeDest _ _

theorem commissionBelt (h : RouteSound {} s) : RouteSound {} (commissionBelt s) := by
  have stopped : RouteSound {} ((standStill .stopped s).modBelt fun b => { b with tailMs := 0 }) := h.elsewhere rfl rfl
  unfold Machine.commissionBelt
  exact stopped.forEach fun g _ _ hu => hu.beginWatch rfl g

theorem handleCommission (h : RouteSound {} s) (q : Sender) (pl : List Byte) :
    RouteSound {} (handleCommission q pl s).state := by
  unfold Machine.handleCommission
  split
  · exact h
  · split
    · exact h
    · dsimp only
      exact h.commissionBelt

/-! ### The site's requests on gates, and reads -/

theorem handleTestFire (h : RouteSound {} s) (q : Sender) (pl : List Byte) :
    RouteSound {} (handleTestFire q pl s).state := by
  unfold Machine.handleTestFire
  split
  · split_ifs
    case neg busy =>
      rw [Bool.or_eq_true, not_or, Option.not_isSome_iff_eq_none, decide_eq_true_iff, not_le] at busy
      exact h.makeToken _ _ busy.1 busy.2
    all_goals exact h
  all_goals exact h

theorem handleTakeGateOut (h : RouteSound {} s) (q : Sender) (pl : List Byte) :
    RouteSound {} (handleTakeGateOut q pl s).state := by
  unfold Machine.handleTakeGateOut
  split
  · exact h
  · split
    · exact h
    · split
      · exact (h.recordFault _ _ _).gateOut rfl _
      · exact h

theorem loseGateOut (h : RouteSound {} s) (d : DestId) : RouteSound {} (Machine.changeDest d loseGateOut s) :=
  h.changeDest_unread d fun _ => rfl

theorem gateBack (h : RouteSound {} s) (g : GateId) : RouteSound {} (gateBack g s) :=
  ((h.modGate g _).loseGateOut _).loseGateOut _

theorem handleReturnGate (h : RouteSound {} s) (q : Sender) (pl : List Byte) :
    RouteSound {} (handleReturnGate q pl s).state := by
  unfold Machine.handleReturnGate
  split
  · exact h
  · split_ifs
    case neg => exact h.gateBack _
    all_goals exact h

/-- A read draws free values, or nothing. -/
theorem drew_ite (h : RouteSound {} s) {c : Prop} [Decidable c] (n : Nat) :
    RouteSound {} (if c then s else s.drew n) := by
  split
  · exact h
  · exact h.elsewhere rfl rfl

theorem handleReadFault (h : RouteSound {} s) (q : Sender) (pl : List Byte) :
    RouteSound {} (handleReadFault q pl s).state := by
  unfold Machine.handleReadFault
  split
  · exact h
  · exact h.drew_ite 3

theorem handleReadMap (h : RouteSound {} s) (q : Sender) (pl : List Byte) :
    RouteSound {} (handleReadMap q pl s).state := by
  unfold Machine.handleReadMap
  split
  · exact h
  · exact h.elsewhere rfl rfl

/-- What the owning block of any kind answers keeps the invariant. -/
theorem handlerOf (h : RouteSound {} s) (k : Kind) (q : Sender) (pl : List Byte) :
    RouteSound {} (handlerOf k q pl s).state := by
  cases k with
  | hello => exact h.takeHello q
  | goodbye => exact h.takeGoodbye q
  | claim => exact h.handleClaim q pl
  | release => exact h.handleRelease q pl
  | openDest => exact h.handleOpen q pl
  | closeDest => exact h.handleClose q pl
  | setSlots => exact h.handleSetSlots q pl
  | clearFull => exact h.handleClearFull q pl
  | queryDest => exact h.withDest fun _ => h
  | forceRelease => exact h.handleForceRelease q pl
  | writeRoute => cases q <;> exact h.writeList _ _ _
  | readRoute =>
    show RouteSound {} (handleReadRoute q pl s).state
    unfold handleReadRoute
    split <;> exact h
  | setList => exact h.writeList _ _ _
  | registerPattern => exact h.handleRegisterPattern q pl
  | dropPattern => exact h.handleDropPattern q pl
  | clearPatterns => exact h.handleClearPatterns q pl
  | setBelt => exact h.handleSetBelt q pl
  | setGate => exact h.handleSetGate q pl
  | setDest => exact h.handleSetDest q pl
  | commission => exact h.handleCommission q pl
  | start => exact h.handleStart q pl
  | stop => exact h.handleStop q pl
  | resume => exact h.handleResume q pl
  | restart =>
    rw [handlerOf_restart]
    dsimp only
    exact h.restartPart
  | testFire => exact h.handleTestFire q pl
  | readTest => exact h.drew_ite 3
  | takeGateOut => exact h.handleTakeGateOut q pl
  | returnGate => exact h.handleReturnGate q pl
  | readFault => exact h.handleReadFault q pl
  | readMap => exact h.handleReadMap q pl
  | snapshot | snapshotClear | readConditions | setEnables => exact h.elsewhere rfl rfl
  | readSnapshot =>
    show RouteSound {} (handleReadSnapshot q pl s).state
    unfold handleReadSnapshot
    split <;> exact h
  | itemReport => exact h

end RouteSound
end Sys2Proof.Machine
end

section
/-! SUPPORT. Frames, events, commands and milliseconds keep the invariant of the map, the reservations and the owners (R51, R79, R88, R105, R106). -/

namespace Sys2Proof.Machine

namespace RouteSound
variable {s : State}

/-! ### Frames (R158 to R165) -/

theorem badOnPort (h : RouteSound {} s) (p : Port) : RouteSound {} (badOnPort p s) := by
  cases p <;> exact h.elsewhere rfl rfl

theorem goodOnPort (h : RouteSound {} s) (q : Sender) : RouteSound {} (goodOnPort q s) :=
  RouteSound.syncConditions (s := (s.raisePort (.sender q) .framesGood).modLink q _) (h.elsewhere rfl rfl)

theorem takeOnPort (h : RouteSound {} s) (q : Sender) (tag kind : Byte) {serve : State → Answer}
    (hv : ∀ u, RouteSound {} u → RouteSound {} (serve u).state) : RouteSound {} (takeOnPort q tag kind serve s) :=
  takeOnPort_keeps (RouteSound {}) (fun p _ hu => hu.badOnPort p) (fun q _ hu => hu.goodOnPort q)
    (fun _ _ _ hu => hu.elsewhere rfl rfl) q tag kind serve hv s h

theorem takeRequest (h : RouteSound {} s) (k : Kind) (p : Port) (tag : Byte) (pl : List Byte) :
    RouteSound {} (takeRequest k (Machine.handlerOf k) p tag pl s) := by
  cases p with
  | identifier => exact h.badOnPort .identifier
  | sender q =>
    exact h.takeOnPort q tag _
      (serveKind_keeps (RouteSound {}) k _ (fun q pl _ hu => hu.handlerOf k q pl) q pl)

theorem takeUnknown (h : RouteSound {} s) (p : Port) (kind tag : Byte) : RouteSound {} (takeUnknown p kind tag s) := by
  cases p with
  | identifier => exact h.badOnPort .identifier
  | sender q => exact h.takeOnPort q tag kind fun _ hu => hu

theorem takeItemReport (h : RouteSound {} s) (p : Port) (tag : Byte) (pl : List Byte) :
    RouteSound {} (takeItemReport p tag pl s) := by
  unfold Machine.takeItemReport
  split
  · exact h.takeUnknown _ _ _
  · split
    · exact RouteSound.matchReport (s := hearIdentifier (s.raisePort .identifier .framesGood)) (h.elsewhere rfl rfl) _
    · exact h.badOnPort _

theorem settleIdle (h : RouteSound {} s) : RouteSound {} (settleIdle s) := by
  obtain ⟨b, hb, -⟩ := settleIdle_eq s
  rw [hb]
  exact h.elsewhere rfl rfl

end RouteSound

theorem routeSound_lineInvariant : LineInvariant (RouteSound {}) where
  receiver _ _ _ h := h.elsewhere rfl rfl
  bad p _ h := h.badOnPort p
  request k p tag pl _ h := h.takeRequest k p tag pl
  unknown p kind tag _ h := h.takeUnknown p kind tag
  report p tag pl _ h := h.takeItemReport p tag pl
  idle _ h := h.settleIdle

/-! ### Events -/

/-- What is sent as an event ends is neither the map nor a record (R164). -/
theorem RouteSound.settle {s : State} (h : RouteSound {} s) : RouteSound {} (settle s) :=
  h.elsewhere (settle_map s) (settle_dests s)

theorem event_routeSound {f : State → State} (hf : ∀ s, RouteSound {} s → RouteSound {} (f s)) :
    Keeps (RouteSound {}) (event f) := event_keeps (fun _ h => h.settle) hf

/-- An event that touches neither the map nor a record. -/
theorem event_routeSound_elsewhere {f : State → State} (hf : ∀ s, (f s).map = s.map ∧ (f s).dests = s.dests) :
    Keeps (RouteSound {}) (event f) := event_routeSound fun s h => h.elsewhere (hf s).1 (hf s).2

/-- A change of an input; its level is neither in the map nor in a record. -/
theorem inputEvent_routeSound {pin : State → State} {act : State → State → State}
    (hp : ∀ s, (pin s).map = s.map ∧ (pin s).dests = s.dests)
    (ha : ∀ s₀ s, RouteSound {} s → RouteSound {} (act s₀ s)) :
    Keeps (RouteSound {}) fun s => inputEvent pin (act s) s :=
  inputEvent_keeps (fun _ h => h.settle) (fun s h => h.elsewhere (hp s).1 (hp s).2) ha

theorem frameEvent_routeSound (k : Kind) (p : Port) (tag : Byte) (pl : List Byte) :
    Keeps (RouteSound {}) (frameEvent k (handlerOf k) p tag pl) :=
  frameEvent_keeps (fun _ h => h.settle) routeSound_lineInvariant k p tag pl

/-! ### The part's own events -/

theorem execArming_routeSound (r : EntryRef) : Keeps (RouteSound {}) (execArming r) :=
  event_routeSound fun s h => by
    split
    · exact h
    · next e he =>
      split
      · exact h
      · next d n hd =>
        unfold armEntry
        dsimp only
        split
        · exact h.refuseArming rfl r d
        · exact h.joinQueue he rfl (armingDue_some hd).1 _ _ _

/-- The head that is due is an entry of the map, bound for the destination it fires for. -/
theorem headDue_bound {s : State} {g : GateId} {e : Entry} {d : DestId} {f : Pos} (h : headDue s g = some (e, d, f)) :
    s.find e.ref = some e ∧ e.dest = some (.gateDest d) := by
  obtain ⟨-, -, found⟩ := headDue_some h
  refine ⟨found, ?_⟩
  unfold headDue at h
  split at h
  · cases h
  · split at h
    · next hd _ =>
      split at h
      · cases h; exact hd
      · cases h
    all_goals cases h

theorem execFireTarget_routeSound (g : GateId) : Keeps (RouteSound {}) (execFireTarget g) :=
  event_routeSound fun s h => by
    split
    · exact h
    · next e d f hd =>
      obtain ⟨found, dest⟩ := headDue_bound hd
      split
      · exact h.fire rfl (fun _ => id) g found dest f
      · exact h.missedFire rfl g _ d

theorem execTailArrival_routeSound (x : Tag) : Keeps (RouteSound {}) (execTailArrival x) :=
  event_routeSound fun s h => by
    split
    · exact h
    · next e he =>
      split
      · next due => exact (h.tailArrival he due.1).raise _
      · exact h

theorem execIdWindowExpiry_routeSound (x : Tag) : Keeps (RouteSound {}) (execIdWindowExpiry x) :=
  event_routeSound fun s h => by
    split
    · exact h
    · next e he =>
      split
      · next due => exact h.unnamed he due.1 .idExpired
      · exact h

theorem execGateCycleEnd_routeSound (g : GateId) : Keeps (RouteSound {}) (execGateCycleEnd g) :=
  event_routeSound fun s h => by
    split
    · exact (h.modGate g endCycle).beginWatch rfl g
    · exact h

theorem execActuatorCheckDeadline_routeSound (g : GateId) : Keeps (RouteSound {}) (execActuatorCheckDeadline g) :=
  event_routeSound fun s h => by
    split
    · exact h.checkFails rfl g _
    · exact h

theorem execExtendedSwitchChange_routeSound (g : GateId) (side : Side) (b : Bool) :
    Keeps (RouteSound {}) (execExtendedSwitchChange g side b) :=
  inputEvent_routeSound (fun _ => ⟨rfl, rfl⟩) fun s₀ s h => by
    split
    · exact h
    · split <;> [exact h.switchGoesExtended rfl g side; exact h]

theorem execConfirmEyeSighting_routeSound (d : DestId) : Keeps (RouteSound {}) (execConfirmEyeSighting d) :=
  event_routeSound fun s h => by
    split
    · exact (h.modDest_unread d (f := fun r => { r with eye := .seen }) fun _ => rfl).sighting (fun _ => id) d
    · exact h

theorem execConfirmWindowExpiry_routeSound (d : DestId) (x : Tag) :
    Keeps (RouteSound {}) (execConfirmWindowExpiry d x) :=
  event_routeSound fun s h => by
    split
    · exact h.miss rfl (fun _ => id) d _
    · exact h

/-- An event that changes one record in what its account does not read. -/
theorem event_routeSound_unread {due : State → Prop} [DecidablePred due] (d : DestId) {f : Dest → Dest}
    (hf : ∀ r, (f r).accountView = r.accountView) :
    Keeps (RouteSound {}) (event fun s => if due s then s.modDest d f else s) :=
  event_routeSound fun s h => by
    split
    · exact h.modDest_unread d hf
    · exact h

theorem execConfirmEyeChange_routeSound (d : DestId) (b : Bool) : Keeps (RouteSound {}) (execConfirmEyeChange d b) :=
  inputEvent_routeSound (fun _ => ⟨rfl, rfl⟩) fun s₀ s h => by
    by_cases there : s₀.confirmEye d = b
    · rw [if_pos there]; exact h
    · rw [if_neg there]; exact h.modDest_unread d fun _ => rfl

theorem execRackSensorChange_routeSound (d : DestId) (b : Bool) : Keeps (RouteSound {}) (execRackSensorChange d b) :=
  inputEvent_routeSound (fun _ => ⟨rfl, rfl⟩) fun s₀ s h => by
    by_cases there : s₀.rackSensor d = b
    · rw [if_pos there]; exact h
    · rw [if_neg there]
      exact h.modDest_unread d fun r => by unfold rackEdge; split <;> rfl

theorem execChuteBlock_routeSound (d : DestId) : Keeps (RouteSound {}) (execChuteBlock d) :=
  event_routeSound fun s h => by
    split
    · exact h.gainRerouting rfl _ _ _
    · exact h

theorem execChuteBlockClear_routeSound (d : DestId) : Keeps (RouteSound {}) (execChuteBlockClear d) :=
  event_routeSound fun s h => by
    split
    · exact h.changeDest_unread d fun _ => rfl
    · exact h

theorem execReadEyeBlock_routeSound : Keeps (RouteSound {}) execReadEyeBlock :=
  inputEvent_routeSound (fun _ => ⟨rfl, rfl⟩) fun s₀ s h => by split <;> [exact h; exact h.eyeBlocks]

theorem execReadEyeClear_routeSound : Keeps (RouteSound {}) execReadEyeClear :=
  inputEvent_routeSound (fun _ => ⟨rfl, rfl⟩) fun s₀ s h => by split <;> [exact h.eyeClears; exact h]

theorem execCaptureCommit_routeSound : Keeps (RouteSound {}) execCaptureCommit :=
  event_routeSound fun s h => by
    split
    · exact h.commitCapture _
    · exact h

theorem execLengthClamp_routeSound : Keeps (RouteSound {}) execLengthClamp :=
  event_routeSound fun s h => by
    split
    · exact RouteSound.elsewhere (h.closeCapture _ _ _ _) rfl rfl
    · exact h

theorem execSpeedWindowEnd_routeSound : Keeps (RouteSound {}) execSpeedWindowEnd :=
  event_routeSound fun s h => by
    split
    · exact h.takeWindowEnd
    · exact h

theorem execItemReport_routeSound (p : Port) (tag : Byte) (pl : List Byte) :
    Keeps (RouteSound {}) (execItemReport p tag pl) :=
  event_routeSound fun _ h => RouteSound.takeItemReport (routeSound_lineInvariant.hunt p h) p tag pl

theorem execFrameGapTimeout_routeSound (p : Port) : Keeps (RouteSound {}) (execFrameGapTimeout p) :=
  event_routeSound fun s h => by
    split
    · exact routeSound_lineInvariant.ended p h
    · exact h

theorem execUnknownKind_routeSound (p : Port) (kind tag : Byte) (pl : List Byte) :
    Keeps (RouteSound {}) (execUnknownKind p kind tag pl) :=
  event_routeSound fun _ h => routeSound_lineInvariant.goodFrame p kind tag pl (routeSound_lineInvariant.hunt p h)

theorem execLinkSilence1000_routeSound (q : Sender) : Keeps (RouteSound {}) (execLinkSilence1000 q) :=
  event_routeSound fun s h => by split <;> [exact h.takeSilence q; exact h]

theorem execLinkLapse_routeSound (q : Sender) : Keeps (RouteSound {}) (execLinkLapse q) :=
  event_routeSound fun s h => by split <;> [exact h.loseLink _ q; exact h]

theorem execDestStateRefresh_routeSound : Keeps (RouteSound {}) execDestStateRefresh :=
  event_routeSound fun s h => by
    split
    · exact RouteSound.forEach (s := { s with refreshMs := 0 }) (h.elsewhere rfl rfl) fun d _ u hu =>
        hu.elsewhere (map_of_untold (offerDest_untold d u)) (offerDest_dests d u)
    · exact h

/-! ### The belt's own events -/

theorem recordCause_untouched (add : Causes → Causes) (s : State) :
    (recordCause add s).map = s.map ∧ (recordCause add s).dests = s.dests := by
  unfold recordCause
  split <;> exact ⟨rfl, rfl⟩

theorem takePulse_untouched (s : State) : (takePulse s).map = s.map ∧ (takePulse s).dests = s.dests := by
  unfold takePulse countPulse
  split
  · split <;> exact ⟨rfl, rfl⟩
  · exact ⟨rfl, rfl⟩

theorem removeTail_untouched (s : State) : (removeTail s).map = s.map ∧ (removeTail s).dests = s.dests := by
  unfold removeTail
  dsimp only
  split <;> exact ⟨rfl, rfl⟩

/-- An edge of an input that acts on neither the map nor a record. -/
theorem inputEdge_routeSound {pin act : State → State} {there : State → Prop} [DecidablePred there]
    (hp : ∀ s, (pin s).map = s.map ∧ (pin s).dests = s.dests) (ha : ∀ s, (act s).map = s.map ∧ (act s).dests = s.dests) :
    Keeps (RouteSound {}) fun s => inputEvent pin (if there s then id else act) s :=
  inputEvent_routeSound hp fun s₀ s h => by
    by_cases k : there s₀
    · rw [if_pos k]; exact h
    · rw [if_neg k]; exact h.elsewhere (ha s).1 (ha s).2

/-! ### Reset, and a millisecond -/

theorem resetPart_routeSound (s : State) : RouteSound {} (resetPart s) :=
  RouteSound.elsewhere ((routeLaw_iff _).mp reset_routeLaw) rfl rfl

theorem RouteSound.releasePart {s : State} (h : RouteSound {} s) : RouteSound {} (releasePart s) := by
  have started : RouteSound {} (startEyes { s with inReset := false }) :=
    RouteSound.forEach (s := { s with inReset := false }) (h.elsewhere rfl rfl) fun d _ u hu =>
      hu.modDest_unread d fun _ => rfl
  unfold Machine.releasePart
  exact started.elsewhere (modReader_map _ _) (modReader_dests _ _)

theorem execResetRelease_routeSound : Keeps (RouteSound {}) execResetRelease := fun s t h e => by
  unfold execResetRelease at e
  cases e
  split
  · exact h.releasePart.settle
  · exact h

theorem RouteSound.tick {s : State} (h : RouteSound {} s) : RouteSound {} (tick s) := by
  cases hr : s.inReset with
  | true => rwa [Machine.tick, if_pos hr]
  | false =>
    exact h.congr (by rw [tick_frame hr]) fun d => by
      rw [tick_dest hr]
      simp [Dest.accountView, tickDest]

/-! ### Commands and steps -/

theorem exec_routeSound (c : Instr) : Keeps (RouteSound {}) (exec c) := by
  cases c with
  | powerOnReset | resetPin => exact fun s t _ e => by cases e; exact resetPart_routeSound s
  | resetRelease => exact execResetRelease_routeSound
  | encoderPulse => exact event_routeSound_elsewhere takePulse_untouched
  | speedWindowEnd => exact execSpeedWindowEnd_routeSound
  | runGuardElapsed => exact event_routeSound_elsewhere fun _ => by split <;> exact ⟨rfl, rfl⟩
  | idleExpiry => exact event_routeSound fun _ h => h.idleStop
  | infeedWake => exact event_routeSound_elsewhere fun _ => by split <;> exact ⟨rfl, rfl⟩
  | infeedEyeChange b | tailFullInputChange b => exact inputEdge_routeSound (fun _ => ⟨rfl, rfl⟩) fun _ => ⟨rfl, rfl⟩
  | stopChainOpen => exact inputEdge_routeSound (fun _ => ⟨rfl, rfl⟩) (recordCause_untouched _)
  | stopChainClose => exact inputEvent_routeSound (act := fun _ => id) (fun _ => ⟨rfl, rfl⟩) fun _ _ h => h
  | tailFullAsserted =>
    exact event_routeSound_elsewhere fun s => by
      split
      · exact recordCause_untouched addTail (s.modBelt fun b => { b with tailFull := true })
      · exact ⟨rfl, rfl⟩
  | tailFullCleared =>
    exact event_routeSound_elsewhere fun s => by split <;> [exact removeTail_untouched s; exact ⟨rfl, rfl⟩]
  | readEyeBlock => exact execReadEyeBlock_routeSound
  | readEyeClear => exact execReadEyeClear_routeSound
  | captureCommit => exact execCaptureCommit_routeSound
  | lengthClamp => exact execLengthClamp_routeSound
  | clearWaitEnd | identifierSilent => exact event_routeSound_elsewhere fun _ => by split <;> exact ⟨rfl, rfl⟩
  | itemReport p tag pl => exact execItemReport_routeSound p tag pl
  | idWindowExpiry x => exact execIdWindowExpiry_routeSound x
  | arming r => exact execArming_routeSound r
  | fireTarget g => exact execFireTarget_routeSound g
  | tailArrival x => exact execTailArrival_routeSound x
  | gateDriveOff g => exact event_routeSound_elsewhere fun _ => by split <;> exact ⟨rfl, rfl⟩
  | gateCycleEnd g => exact execGateCycleEnd_routeSound g
  | extendedSwitchChange g side b => exact execExtendedSwitchChange_routeSound g side b
  | actuatorCheckDeadline g => exact execActuatorCheckDeadline_routeSound g
  | confirmEyeChange d b => exact execConfirmEyeChange_routeSound d b
  | confirmEyeSighting d => exact execConfirmEyeSighting_routeSound d
  | confirmEyeClearSettled d =>
    exact event_routeSound_unread (due := fun s => clearSettledDue s d = true) d fun _ => rfl
  | confirmWindowExpiry d x => exact execConfirmWindowExpiry_routeSound d x
  | chuteBlock d => exact execChuteBlock_routeSound d
  | chuteBlockClear d => exact execChuteBlockClear_routeSound d
  | rackSensorChange d b => exact execRackSensorChange_routeSound d b
  | rackSensorSettled d => exact event_routeSound fun _ h => h.applyRack d _
  | badFrame p l => exact event_routeSound (routeSound_lineInvariant.line p l)
  | frameGapTimeout p => exact execFrameGapTimeout_routeSound p
  | unknownKind p kind tag pl => exact execUnknownKind_routeSound p kind tag pl
  | frameSent q => exact event_routeSound_elsewhere fun _ => ⟨rfl, rfl⟩
  | linkSilence1000 q => exact execLinkSilence1000_routeSound q
  | linkLapse q => exact execLinkLapse_routeSound q
  | destStateRefresh => exact execDestStateRefresh_routeSound
  | hello p tag pl | goodbye p tag pl | claim p tag pl | release p tag pl | openDest p tag pl | closeDest p tag pl
  | setSlots p tag pl | clearFull p tag pl | queryDest p tag pl | forceRelease p tag pl | writeRoute p tag pl
  | readRoute p tag pl | setList p tag pl | registerPattern p tag pl | dropPattern p tag pl
  | clearPatterns p tag pl | setBelt p tag pl | setGate p tag pl | setDest p tag pl | commission p tag pl
  | start p tag pl | stop p tag pl | resume p tag pl | restart p tag pl | testFire p tag pl | readTest p tag pl
  | takeGateOut p tag pl | returnGate p tag pl | readFault p tag pl | readMap p tag pl | snapshot p tag pl
  | snapshotClear p tag pl | readSnapshot p tag pl | readConditions p tag pl | setEnables p tag pl =>
    exact frameEvent_routeSound _ p tag pl

/-- Settles O60: the laws hold between steps as one invariant, which each command and each millisecond keeps. -/
theorem stepsKeepRouteLaw : Obligations.StepsKeepRouteLaw := fun s t h e =>
  (routeLaw_iff t).mpr (step_keeps exec_routeSound (fun _ h => h.tick) (fun _ _ _ h => h.elsewhere rfl rfl) s t
    ((routeLaw_iff s).mp h) e)

end Sys2Proof.Machine
end

section
/-! SUPPORT. The tail arrival, TEST-FIRE, and the reads of the test record, the fault records and the map (R60, R64, R68, R133, R135, R153, R186). -/

namespace Sys2Proof.Machine

/-! ### An entry that leaves the map -/

/-- An entry that is erased is gone, and every other stands. -/
theorem dropEntry_leaves {s : State} {r : EntryRef} {e : Entry} (names : (s.map.map Entry.ref).Nodup)
    (hf : s.find r = some e) : (s.dropEntry r).find r = none ∧ (s.dropEntry r).map.length + 1 = s.map.length
      ∧ SameOtherEntries s (s.dropEntry r) r :=
  ⟨eraseEntry_find r s.map names, eraseEntry_length r s.map (Option.isSome_iff_exists.mpr ⟨e, hf⟩),
    fun _ hx => eraseEntry_find_ne hx s.map⟩

/-- Settles O26: the entry is erased and counted, and nothing else moves. -/
theorem tailArrivalLeavesMap : Obligations.TailArrivalLeavesMap := by
  intro s x e hr law hf hs hp
  obtain ⟨gone, length, others⟩ := dropEntry_leaves law.2 hf
  have arrives : exec (.tailArrival x) s = .next (settle ((s.dropEntry (.tag x)).raisePart .tailArrivals)) := by
    rw [exec_event (c := .tailArrival x) rfl hr, hf]
    exact congrArg (fun u => Host.Outcome.next (settle u)) (if_pos ⟨hs, hp⟩)
  refine ⟨_, arrives, SameExcept.settled ?_, Raised.settled (raised_raise (s.dropEntry (.tag x)) _), ?_, ?_,
    fun y hy => ?_⟩
  · exact ((sameExcept_withMap _ s).mono (by simp)).trans ((sameExcept_raise _ _).mono (by simp))
  · rw [settle_find]; exact gone
  · rw [settle_map]; exact length
  · rw [settle_find]; exact others y hy

/-! ### TEST-FIRE (R64, R133) -/

theorem side?_some {n : Nat} {side : Side} : side? n = some side ↔ Side.number side = n := by
  unfold side?
  split <;> cases side <;> simp_all [Side.number] <;> omega

theorem makeToken_frame (g : GateId) (side : Side) (s : State) : SameExcept [.map, .test] s (makeToken g side s) :=
  sameExcept_of_kept rfl (by simp) (fun _ => rfl) (fun _ => rfl) (by simp) (fun _ => rfl) (fun _ => rfl)
    fun _ => ⟨rfl, rfl, rfl⟩

theorem inRange?_eq_some {n i : Nat} {x : Fin n} : inRange? n i = some x ↔ x.val = i := by
  unfold inRange?
  split
  · simp [Fin.ext_iff, eq_comm]
  · next h => exact iff_of_false (by simp) fun k => h (k ▸ x.isLt)

theorem inRange?_of_le {n i : Nat} (h : n ≤ i) : inRange? n i = none := dif_neg (by omega)

/-- Bytes that name no gate or no side are refused. -/
theorem handleTestFire_unnamed {x y : Byte} (h : 12 ≤ x.toNat ∨ 2 ≤ y.toNat) (q : Sender) (s : State) :
    handleTestFire q [x, y] s = refuse .argument s := by
  have bytes : byteAt [x, y] 0 = x.toNat ∧ byteAt [x, y] 1 = y.toNat := ⟨rfl, rfl⟩
  unfold handleTestFire
  rw [bytes.1, bytes.2]
  split
  · next g side hg hs =>
    have gate := inRange?_eq_some.mp hg
    have named := side?_some.mp hs
    cases side <;> simp only [Side.number] at named <;> omega
  all_goals rfl

/-- The checks in their order (R133). -/
theorem handleTestFire_named {x y : Byte} {g : GateId} {side : Side} (hg : g.val = x.toNat)
    (hs : Side.number side = y.toNat) (q : Sender) (s : State) : handleTestFire q [x, y] s
      = if s.belt.state ≠ .running then refuse .state s
        else if (s.gate g).configured = false then refuse .badConfig s
        else if (s.gate g).service = .outOfService then refuse .state s
        else if s.find .token ≠ none ∨ 64 ≤ s.map.length then refuse .busy s
        else ⟨makeToken g side s, .done, []⟩ := by
  have gate : inRange? 12 (byteAt [x, y] 0) = some g := inRange?_eq_some.mpr hg
  have named : side? (byteAt [x, y] 1) = some side := side?_some.mpr hs
  have service : (s.gate g).service ≠ .inService ↔ (s.gate g).service = .outOfService := by
    cases (s.gate g).service <;> simp
  simp only [handleTestFire, gate, named, service, State.isRunning, Bool.not_eq_true', beq_eq_false_iff_ne,
    Bool.or_eq_true, decide_eq_true_iff, Option.isSome_iff_ne_none]

/-- A request that is answered with no change and no result. -/
theorem refused_settled (tag : Byte) (k : Kind) (s : State) (status : Status) :
    let t := settle (queueReply .site tag k.code (refuse status (greeted .site s)))
    Took .site [] s t ∧ t.map = s.map ∧ t.test = s.test ∧ Replied s t .site tag k status [] := by
  obtain ⟨took, -, -, replied⟩ := unchanged_settled .site tag k s status []
  exact ⟨took, by rw [settle_map, queueReply_map]; exact greeted_map _ s,
    by rw [settle_test, queueReply_test]; exact greeted_test _ s, replied⟩

/-- Settles O27: the checks in their order, and the token that joins the map. -/
theorem testFireMakesToken : Obligations.TestFireMakesToken := by
  intro s tag x y hs
  have served := exec_served (k := .testFire) (tag := tag) hs.1
    (admissible_commissioned .testFire .site [x, y] s hs rfl rfl) (by decide)
  have refused := refused_settled tag .testFire s
  refine ⟨_, served, ?_⟩
  rw [handlerOf]
  by_cases unnamed : 12 ≤ x.toNat ∨ 2 ≤ y.toNat
  · rw [if_pos unnamed, handleTestFire_unnamed unnamed]
    obtain ⟨took, rest⟩ := refused .argument
    exact ⟨took.mono (by simp), rest⟩
  · obtain ⟨g, hg⟩ : ∃ g : GateId, g.val = x.toNat := ⟨⟨x.toNat, by omega⟩, rfl⟩
    obtain ⟨side, hside⟩ : ∃ side, Side.number side = y.toNat := by
      have : y.toNat = 0 ∨ y.toNat = 1 := by omega
      exact this.elim (fun h => ⟨.left, h.symm⟩) fun h => ⟨.right, h.symm⟩
    rw [if_neg unnamed, handleTestFire_named hg hside]
    simp only [greeted_belt, greeted_gate, greeted_find, greeted_map]
    have named : ∀ (g' : GateId) (side' : Side), g'.val = x.toNat → Side.number side' = y.toNat →
        g' = g ∧ side' = side := fun g' side' hg' hs' => by
      refine ⟨Fin.ext (hg'.trans hg.symm), ?_⟩
      rw [← side?_some] at hside hs'
      exact Option.some.inj (hs'.symm.trans hside)
    by_cases running : s.belt.state ≠ .running
    · obtain ⟨took, rest⟩ := refused .state
      rw [if_pos running]
      exact ⟨took.mono (by simp), fun g' side' hg' hs' => by rw [if_pos running]; exact rest⟩
    by_cases configured : (s.gate g).configured = false
    · obtain ⟨took, rest⟩ := refused .badConfig
      rw [if_neg running, if_pos configured]
      refine ⟨took.mono (by simp), fun g' side' hg' hs' => ?_⟩
      obtain ⟨rfl, rfl⟩ := named g' side' hg' hs'
      rw [if_neg running, if_pos configured]
      exact rest
    by_cases service : (s.gate g).service = .outOfService
    · obtain ⟨took, rest⟩ := refused .state
      rw [if_neg running, if_neg configured, if_pos service]
      refine ⟨took.mono (by simp), fun g' side' hg' hs' => ?_⟩
      obtain ⟨rfl, rfl⟩ := named g' side' hg' hs'
      rw [if_neg running, if_neg configured, if_pos service]
      exact rest
    by_cases busy : s.find .token ≠ none ∨ 64 ≤ s.map.length
    · obtain ⟨took, rest⟩ := refused .busy
      rw [if_neg running, if_neg configured, if_neg service, if_pos busy]
      refine ⟨took.mono (by simp), fun g' side' hg' hs' => ?_⟩
      obtain ⟨rfl, rfl⟩ := named g' side' hg' hs'
      rw [if_neg running, if_neg configured, if_neg service, if_pos busy]
      exact rest
    rw [if_neg running, if_neg configured, if_neg service, if_neg busy]
    obtain ⟨took, -, -, replied⟩ := answer_settled tag .testFire (a := ⟨makeToken g side (greeted .site s), .done, []⟩)
      (makeToken_frame g side _) rfl
    refine ⟨took, fun g' side' hg' hs' => ?_⟩
    obtain ⟨rfl, rfl⟩ := named g' side' hg' hs'
    rw [if_neg running, if_neg configured, if_neg service, if_neg busy, settle_map, queueReply_map, settle_test,
      queueReply_test]
    refine ⟨?_, rfl, replied⟩
    simp only [makeToken, greeted_map, greeted_belt]
    rfl

end Sys2Proof.Machine
end

section
/-! SUPPORT. The reads of the test record, the fault records and the map: what they answer, with free bytes for a field that is absent (R68, R135, R153, R186; log 12). -/

namespace Sys2Proof.Machine

theorem sameExcept_drew (l : List Block) (n : Nat) (s : State) : SameExcept l s (s.drew n) :=
  sameExcept_of_kept rfl (fun _ => rfl) (fun _ => rfl) (fun _ => rfl) (fun _ => rfl) (fun _ => rfl) (fun _ => rfl)
    fun _ => ⟨rfl, rfl, rfl⟩

/-- A read changes nothing that is held, and its reply is owed. -/
theorem read_settled (tag : Byte) (k : Kind) (s : State) {u : State} (hu : ∃ n, u = (greeted .site s).drew n)
    (status : Status) (result : List Byte) :
    let t := settle (queueReply .site tag k.code ⟨u, status, result⟩)
    Took .site [] s t ∧ Replied s t .site tag k status result := by
  obtain ⟨n, rfl⟩ := hu
  obtain ⟨took, -, -, replied⟩ := answer_settled (l := []) tag k (a := ⟨(greeted .site s).drew n, status, result⟩)
    (sameExcept_drew [] n _) rfl
  exact ⟨took, replied⟩

theorem drew_zero (s : State) : s.drew 0 = s := rfl

/-- The free values of an absent field are drawn, and none where it is there. -/
theorem exists_drew_ite {c : Prop} [Decidable c] (s : State) (n : Nat) : ∃ m, (if c then s else s.drew n) = s.drew m := by
  split
  · exact ⟨0, (drew_zero s).symm⟩
  · exact ⟨n, rfl⟩

/-- The bytes of an optional position: those of the position, or free ones. -/
def posOrFree (s : State) (o : Option Pos) : List Byte :=
  match o with
  | some p => posBytes p
  | none => freeBytes s 3

theorem length_freeBytes (s : State) (n : Nat) : (freeBytes s n).length = n := by simp [freeBytes]

theorem posOrFree_length (s : State) (o : Option Pos) : (posOrFree s o).length = 3 := by
  cases o <;> simp [posOrFree, posBytes, length_freeBytes]

theorem posOrFree_some (s : State) {o : Option Pos} {p : Pos} (h : o = some p) : posOrFree s o = posBytes p := by
  rw [h]; rfl

theorem testBytes_eq (s : State) : testBytes s
    = [optByte (fun g : GateId => g.val) s.test.gate, optByte Side.number s.test.side, byteOf s.test.result.number,
        boolByte s.test.late, boolByte s.test.fireAt.isSome] ++ posOrFree s s.test.fireAt := by
  unfold testBytes posOrFree
  cases s.test.fireAt <;> rfl

theorem faultBytes_eq (s : State) (f : FaultRecord) : faultBytes s f
    = [byteOf f.cause.number, optByte Side.number f.side, byteOf f.count] ++ posOrFree s f.p := by
  unfold faultBytes posOrFree
  cases f.p <;> rfl

/-- The bytes of an entry's length: its two, or free ones (log 12). -/
def lengthBytes (s : State) (o : Option Nat) : List Byte :=
  match o with
  | some n => wordBytes n
  | none => freeBytes s 2

theorem lengthBytes_length (s : State) (o : Option Nat) : (lengthBytes s o).length = 2 := by
  cases o <;> simp [lengthBytes, wordBytes, length_freeBytes]

/-- The tag and the sequence number of an entry, FFh for those of a token (R65). -/
def tagBytes (o : Option Tag) : List Byte :=
  match o with
  | some x => wordBytes x.toNat ++ [byteOf (x.toNat % 16)]
  | none => [0xFF#8, 0xFF#8, 0xFF#8]

theorem entryBytes_eq (s : State) (e : Entry) : entryBytes s e
    = tagBytes e.tag ++ posBytes e.r ++ lengthBytes s e.length
      ++ [optByte Fin.val e.cls, optByte ItemOwner.number e.owner]
      ++ wordBytes ((e.pattern.map BitVec.toNat).getD 0)
      ++ [boolByte e.broken, optByte id e.confidence, optByte Target.number e.dest, byteOf e.attempts]
      ++ posOrFree (s.drew 2) e.fireAt ++ [byteOf (entryFlags e), byteOf e.state.number] := by
  unfold entryBytes tagBytes lengthBytes posOrFree
  cases e.tag <;> cases e.length <;> cases e.fireAt <;> rfl

theorem handleReadFault_of (g : GateId) (q : Sender) (s : State) : handleReadFault q [byteOf g.val] s
    = ⟨if (s.gate g).fault.p.isSome then s else s.drew 3, .done, faultBytes s (s.gate g).fault⟩ := by
  have byte : byteAt [byteOf g.val] 0 = g.val := by
    have := g.isLt
    simp only [byteAt, byteOf, List.getD_cons_zero, BitVec.toNat_ofNat]
    omega
  simp only [handleReadFault, byte, inRange?_eq_some.mpr rfl]

/-- Settles O29: each record as its bytes, with those of an absent field free. -/
theorem readsReturnRecords : Obligations.ReadsReturnRecords := by
  intro s tag hs
  refine ⟨?_, fun g => ?_, fun x hx => ?_, fun i hb => ?_⟩
  · have served := exec_served (k := .readTest) (tag := tag) hs
      (admissible_site .readTest [] s hs rfl rfl rfl) (by decide)
    obtain ⟨took, replied⟩ := read_settled tag .readTest s
      (u := if (greeted .site s).test.fireAt.isSome then greeted .site s else (greeted .site s).drew 3)
      (exists_drew_ite _ 3) .done (testBytes (greeted .site s))
    rw [testBytes_eq, greeted_test] at replied
    exact ⟨_, served, took, _, posOrFree_length _ _, fun _ => posOrFree_some _, replied⟩
  · have served := exec_served (k := .readFault) (tag := tag) hs
      (admissible_site .readFault [byteOf g.val] s hs rfl rfl rfl) (by decide)
    rw [handlerOf, handleReadFault_of] at served
    obtain ⟨took, replied⟩ := read_settled tag .readFault s
      (u := if ((greeted .site s).gate g).fault.p.isSome then greeted .site s else (greeted .site s).drew 3)
      (exists_drew_ite _ 3) .done
      (faultBytes (greeted .site s) ((greeted .site s).gate g).fault)
    rw [faultBytes_eq, greeted_gate] at replied
    exact ⟨_, served, took, _, posOrFree_length _ _, fun _ => posOrFree_some _, replied⟩
  · have served := exec_served (k := .readFault) (tag := tag) hs
      (admissible_site .readFault [x] s hs rfl rfl rfl) (by decide)
    have unnamed : handleReadFault .site [x] (greeted .site s) = refuse .argument (greeted .site s) := by
      have none : inRange? 12 (byteAt [x] 0) = none := inRange?_of_le hx
      simp only [handleReadFault, none]
    rw [handlerOf, unnamed] at served
    obtain ⟨took, -, -, replied⟩ := refused_settled tag .readFault s .argument
    exact ⟨_, served, took, replied⟩
  · have served := exec_served (k := .readMap) (tag := tag) hs
      (admissible_commissioned .readMap .site [i] s ⟨hs, hb⟩ rfl rfl) (by decide)
    have byte : byteAt [i] 0 = i.toNat := rfl
    rw [handlerOf, handleReadMap, byte, greeted_map] at served
    cases he : s.map[i.toNat]? with
    | none =>
      rw [he] at served
      obtain ⟨took, replied⟩ := read_settled tag .readMap s ⟨0, (drew_zero _).symm⟩ .done [byteOf s.map.length, 0]
      exact ⟨_, served, took, replied⟩
    | some e =>
      rw [he] at served
      obtain ⟨took, replied⟩ := read_settled tag .readMap s ⟨entryDraws e, rfl⟩ .done
        ([byteOf s.map.length, 1] ++ entryBytes (greeted .site s) e)
      refine ⟨_, served, took, lengthBytes (greeted .site s) e.length, posOrFree ((greeted .site s).drew 2) e.fireAt,
        lengthBytes_length _ _, posOrFree_length _ _, fun n hn => by rw [hn]; rfl, fun _ => posOrFree_some _, ?_⟩
      convert replied using 1
      rw [entryBytes_eq]
      cases e.tag <;> simp only [tagBytes, List.append_assoc]

end Sys2Proof.Machine
end

section
/-! SUPPORT. What one reroute leaves alone, and what it counts (R58, R91, R102). -/

namespace Sys2Proof.Machine

/-! ### The gates under a reroute -/

theorem unreserve_gates (d : DestId) (s : State) : (unreserve d s).gates = s.gates :=
  gates_of_untold (unreserve_untold d s)

theorem decideRoute_gates (r : EntryRef) (o : Option DestId) (s : State) : (decideRoute r o s).gates = s.gates :=
  decideRoute_frame r o s .gates (by simp)

theorem offered_gates (d : DestId) (r : EntryRef) (s : State) :
    (offered d r s).gates = (leaveQueue (destGate d) r s).gates := unreserve_gates d _

/-- A reroute leaves the gates as they are, but for the fire queue that the entry leaves. -/
theorem reroute_gates (d : DestId) (r : EntryRef) (s : State) :
    (reroute d r s).gates = s.gates ∨ (reroute d r s).gates = (leaveQueue (destGate d) r s).gates := by
  obtain ⟨_, -, -, -, -, h⟩ | ⟨_, -, -, -, -, h⟩ | ⟨-, h⟩ := reroute_cases d r s
  · exact .inr (by rw [h, decideRoute_gates, offered_gates])
  · exact .inl (by rw [h, unreserve_gates]; rfl)
  · exact .inl (by rw [h])

theorem leaveQueue_gate (g x : GateId) (r : EntryRef) (s : State) : (leaveQueue g r s).gate x
    = if x = g then { s.gate g with queue := (s.gate g).queue.filter fun q => q != r } else s.gate x :=
  modGate_gate ..

/-- Only the queue of the destination's gate may lose an entry. -/
theorem reroute_gate (d : DestId) (r : EntryRef) (s : State) (g : GateId) :
    (reroute d r s).gate g = { s.gate g with queue := ((reroute d r s).gate g).queue } := by
  rcases reroute_gates d r s with h | h
  · simp only [State.gate, h]
  · have gate : (reroute d r s).gate g = (leaveQueue (destGate d) r s).gate g := by simp only [State.gate, h]
    rw [gate, leaveQueue_gate]
    split
    · next e => rw [e]
    · rfl

theorem filter_ne_of_not_mem {r : EntryRef} {l : List EntryRef} (h : r ∉ l) : (l.filter fun q => q != r) = l :=
  List.filter_eq_self.mpr fun _ hq => bne_iff_ne.mpr fun e => h (e ▸ hq)

theorem reroute_gate_same {d : DestId} {r : EntryRef} {s : State} {g : GateId}
    (h : g ≠ destGate d ∨ r ∉ (s.gate g).queue) : (reroute d r s).gate g = s.gate g := by
  rcases reroute_gates d r s with k | k
  · simp only [State.gate, k]
  · have gate : (reroute d r s).gate g = (leaveQueue (destGate d) r s).gate g := by simp only [State.gate, k]
    rw [gate, leaveQueue_gate]
    split
    · next e =>
      subst e
      rw [filter_ne_of_not_mem (h.resolve_left (by simp))]
    · rfl

/-! ### The counters and the frame of a reroute -/

theorem unreserve_counter (d : DestId) (s : State) (c : Counter) : (unreserve d s).counter c = s.counter c := by
  simp only [State.counter, bank_of_untold (unreserve_untold d s)]

theorem offered_counter (d : DestId) (r : EntryRef) (s : State) (c : Counter) :
    (offered d r s).counter c = if c = .ofPart .reroutes then min (s.counter c + 1) 65535 else s.counter c := by
  have before : ((giveBack r d (withdraw r d s)).modEntry r
      fun e => { e with attempts := min (e.attempts + 1) 7 }).counter c = s.counter c :=
    unreserve_counter d _ c
  rw [offered, countReroute, raisePart_eq, raise_counter, before]

/-- A decision counts ASSIGNED alone. -/
theorem decideRoute_counter_ne {c : Counter} (hc : ∀ x, c ≠ .ofDest x .assigned) (r : EntryRef) (o : Option DestId)
    (s : State) : (decideRoute r o s).counter c = s.counter c := by
  unfold decideRoute
  split
  · rfl
  · split
    · rw [assign, raiseDest_eq, raise_counter, if_neg (hc _)]; rfl
    · rfl

/-- A reroute counts ASSIGNED and REROUTES alone. -/
theorem reroute_counter {c : Counter} (hc : ∀ x, c ≠ .ofDest x .assigned) (hr : c ≠ .ofPart .reroutes) (d : DestId)
    (r : EntryRef) (s : State) : (reroute d r s).counter c = s.counter c := by
  obtain ⟨_, -, -, -, -, h⟩ | ⟨_, -, -, -, -, h⟩ | ⟨-, h⟩ := reroute_cases d r s
  · rw [h, decideRoute_counter_ne hc, offered_counter, if_neg hr]
  · rw [h, unreserve_counter]; rfl
  · rw [h]

theorem reroute_frame (d : DestId) (r : EntryRef) (s : State) :
    SameExcept [.map, .dests, .gates, .counters, .notices] s (reroute d r s) := by
  have h := rested_of_steady (reroute_steady d r s)
  simp only [State.rested, Rested.mk.injEq] at h
  obtain ⟨test, snapshot, enables, globalEnable, -⟩ := h
  exact sameExcept_of_kept (reroute_kept d r s) (by simp) (by simp) (by simp) (fun _ => test) (by simp)
    (by simp) fun _ => ⟨snapshot, enables, globalEnable⟩

/-- A block that stands need not be named. -/
theorem SameExcept.without {l : List Block} {s t : State} {b : Block} (h : SameExcept (b :: l) s t) (hb : b.same s t) :
    SameExcept l s t := fun x hx => by
  by_cases e : x = b
  · exact e ▸ hb
  · exact h x (by simp [e, hx])

/-! ### The rerouted entry -/

/-- What the statements say of an entry that was under way, field by field. -/
theorem MovedTo.fields {s : State} {e e' : Entry} (h : MovedTo s e e') (hs : e.state ≠ .suspect) :
    e'.attempts = min (e.attempts + 1) 7 ∧ e'.fireAt = none ∧ e'.late = false
      ∧ (e'.state = .routed ∨ e'.state = .toTail) := by
  unfold MovedTo at h
  rw [if_neg hs] at h
  obtain ⟨entry, place⟩ := h
  refine ⟨by rw [entry], by rw [entry], by rw [entry], ?_⟩
  split at place
  · exact .inl place.1
  · exact .inr place
  · exact place.elim

/-- An item under way that is rerouted: where it goes, and what is counted and told. -/
structure Rerouted (d : DestId) (r : EntryRef) (e : Entry) (s u : State) : Prop where
  told : ∀ {s₀}, Told s₀ s → Told s₀ u
  entry : ∃ e', u.find r = some e' ∧ e'.dest ≠ some (.gateDest d) ∧ e'.attempts = min (e.attempts + 1) 7
    ∧ e'.fireAt = none ∧ e'.late = false ∧ (e'.state = .routed ∨ e'.state = .toTail)
  length : u.map.length = s.map.length
  others : SameOtherEntries s u r
  reroutes : u.counter (.ofPart .reroutes) = min (s.counter (.ofPart .reroutes) + 1) 65535

theorem rerouted_of_underway {d : DestId} {r : EntryRef} {e : Entry} {s : State} (hf : s.find r = some e)
    (hd : e.dest = some (.gateDest d)) (item : e.isTest = false) (hs : e.state = .routed ∨ e.state = .armed) :
    Rerouted d r e s (reroute d r s) := by
  have underway : e.underway := hs.imp_right .inl
  refine ⟨fun h => h.reroute d r, ⟨_, reroute_find hf hd item underway, movedEntry_away d r s e,
    (movedEntry_movedTo (told_refl s) d r e).fields (by rcases hs with h | h <;> simp [h])⟩, ?_,
    reroute_others hf hd item underway, ?_⟩
  · rw [reroute_map hf hd item underway, updateEntry_length]
  · obtain ⟨_, -, -, -, -, h⟩ | ⟨z, hz, -, -, state, -⟩ | ⟨not, -⟩ := reroute_cases d r s
    · rw [h, decideRoute_counter_ne (by simp), offered_counter, if_pos rfl]
    · rw [hf] at hz; cases hz
      rcases hs with h | h <;> rw [state] at h <;> cases h
    · exact absurd ⟨hd, item, by rcases hs with h | h <;> simp [h], by rcases hs with h | h <;> simp [h]⟩ (not e hf)

end Sys2Proof.Machine
end

section
/-! SUPPORT. Arming: the fire position, the entry's place in the fire queue, and the refusals (R120 to R123). -/

namespace Sys2Proof.Machine

/-! ### The spacing (R122, R123) -/

theorem armingRefused_iff (s : State) (g : GateId) (f : Pos) : armingRefused s g f = true
    ↔ 4 ≤ (s.gate g).queue.length ∨ gapShort (spacing s.belt.v (s.gate g).t) (gapBefore s g f) = true
      ∨ gapShort (spacing s.belt.v (s.gate g).t) (gapAfter s g f) = true := by
  simp [armingRefused, or_assoc]

theorem gapShort_iff (sp : Nat) (o : Option Nat) : gapShort sp o = true ↔ ∃ n, o = some n ∧ n < sp := by
  cases o <;> simp [gapShort]

section
variable {s : State} {g : GateId} {f : Pos}

theorem queuePlace_nil (h : (s.gate g).queue = []) (f : Pos) : queuePlace s g f = 0 := by rw [queuePlace, h]; rfl

theorem gapAfter_nil (h : (s.gate g).queue = []) (f : Pos) : gapAfter s g f = none := by rw [gapAfter, h]; rfl

/-- Behind an empty queue the predecessor is the last fired F of a cycling gate (R122). -/
theorem gapBefore_front (h : queuePlace s g f = 0) : gapBefore s g f
    = if (s.gate g).cycle.isSome then (s.gate g).lastFired.map (gapToLast f) else none := by
  rw [gapBefore, h]

theorem gapBefore_behind {n : Nat} (h : queuePlace s g f = n + 1) : gapBefore s g f
    = ((s.gate g).queue[n]?.bind (fireAtOf s)).map fun x => (f - x).toNat := by
  rw [gapBefore, h]

variable {before after : List (EntryRef × Pos)} (hq : (s.gate g).queue = (before ++ after).map Prod.fst)
  (hp : ∀ x ∈ before ++ after, fireAtOf s x.1 = some x.2)
  (hb : ∀ x ∈ before, ahead s.belt.p x.2 ≤ ahead s.belt.p f)
  (ha : ∀ x ∈ after, ahead s.belt.p f < ahead s.belt.p x.2)
include hq hp

/-- The F of the queue's entries, place by place. -/
theorem fireAt_of_place (n : Nat) : (s.gate g).queue[n]?.bind (fireAtOf s) = (before ++ after)[n]?.map Prod.snd := by
  rw [hq, List.getElem?_map]
  cases hx : (before ++ after)[n]? with
  | none => rfl
  | some x => exact hp x (List.mem_of_getElem? hx)

include hb ha

/-- The place is behind every F that is reached at or before the new one (R122). -/
theorem queuePlace_split : queuePlace s g f = before.length := by
  have ranks : ∀ x ∈ before ++ after, firesBefore s f x.1 = decide (ahead s.belt.p x.2 ≤ ahead s.belt.p f) :=
    fun x hx => by simp only [firesBefore, hp x hx]
  have front : (before.map Prod.fst).filter (firesBefore s f) = before.map Prod.fst :=
    List.filter_eq_self.mpr fun r hr => by
      obtain ⟨x, hx, rfl⟩ := List.mem_map.mp hr
      rw [ranks x (List.mem_append_left _ hx)]
      simpa using hb x hx
  have back : (after.map Prod.fst).filter (firesBefore s f) = [] :=
    List.filter_eq_nil_iff.mpr fun r hr => by
      obtain ⟨x, hx, rfl⟩ := List.mem_map.mp hr
      rw [ranks x (List.mem_append_right _ hx)]
      simpa using ha x hx
  rw [queuePlace, hq, List.map_append, List.filter_append, front, back, List.append_nil, List.length_map]

theorem gapAfter_split : gapAfter s g f = after.head?.map fun x => (x.2 - f).toNat := by
  rw [gapAfter, queuePlace_split hq hp hb ha, fireAt_of_place hq hp, List.getElem?_append_right le_rfl, Nat.sub_self,
    List.head?_eq_getElem?, Option.map_map]
  rfl

/-- The gap to the entry just before the place, or in the front place to the last fired F of a cycling gate (R122). -/
theorem gapBefore_split : gapBefore s g f = match before.getLast? with
    | some x => some (f - x.2).toNat
    | none => if (s.gate g).cycle.isSome then (s.gate g).lastFired.map (gapToLast f) else none := by
  have place := queuePlace_split hq hp hb ha
  rcases List.eq_nil_or_concat before with rfl | ⟨l, x, rfl⟩
  · exact gapBefore_front place
  · rw [List.concat_eq_append] at place hq hp ⊢
    rw [List.length_append, List.length_singleton] at place
    have at_place : (l ++ [x] ++ after)[l.length]? = some x := by simp
    rw [gapBefore_behind place, fireAt_of_place hq hp, at_place, List.getLast?_concat]
    rfl

/-- The refusal in the words of the statement (R123). -/
theorem armingRefused_split : armingRefused s g f = true ↔
    4 ≤ (s.gate g).queue.length
      ∨ (∃ x, before.getLast? = some x ∧ (f - x.2).toNat < spacing s.belt.v (s.gate g).t)
      ∨ (before = [] ∧ (s.gate g).cycle ≠ none ∧ ∃ last, (s.gate g).lastFired = some last
          ∧ gapToLast f last < spacing s.belt.v (s.gate g).t)
      ∨ ∃ x, after.head? = some x ∧ (x.2 - f).toNat < spacing s.belt.v (s.gate g).t := by
  rw [armingRefused_iff, gapBefore_split hq hp hb ha, gapAfter_split hq hp hb ha, gapShort_iff, gapShort_iff]
  have back : (∃ n, (after.head?.map fun x => (x.2 - f).toNat) = some n ∧ n < spacing s.belt.v (s.gate g).t)
      ↔ ∃ x, after.head? = some x ∧ (x.2 - f).toNat < spacing s.belt.v (s.gate g).t := by
    cases after.head? <;> simp
  rw [back]
  cases hl : before.getLast? with
  | none =>
    have front : before = [] := List.getLast?_eq_none_iff.mp hl
    cases hc : (s.gate g).cycle <;> cases (s.gate g).lastFired <;> simp [front]
  | some x =>
    have behind : before ≠ [] := fun h => by simp [h] at hl
    simp [behind]

end

/-! ### The step -/

theorem exec_arming {s : State} {r : EntryRef} {e : Entry} {d : DestId} {n : Nat} (hr : s.inReset = false)
    (hf : s.find r = some e) (hs : e.state = .routed) (hd : e.dest = some (.gateDest d)) (hn : e.length = some n)
    (hp : reached s.belt.p (armingPoint e.r (s.gate (destGate d)) n) = true) :
    exec (.arming r) s = .next (settle (armEntry r e d n s)) := by
  have due : armingDue s e = some (d, n) := by
    simp only [armingDue, hd, hn]
    exact if_pos ⟨hs, hp⟩
  rw [exec_event (c := .arming r) rfl hr, hf]
  simp only [due]

theorem joinQueue_test (r : EntryRef) (g : GateId) (f : Pos) (late : Bool) (s : State) : (joinQueue r g f late s).test
    = if r = .token then { s.test with late := late, fireAt := some f } else s.test := by
  unfold joinQueue
  dsimp only
  split <;> rfl

theorem joinQueue_frame (r : EntryRef) (g : GateId) (f : Pos) (late : Bool) (s : State) :
    SameExcept [.map, .gates, .test] s (joinQueue r g f late s) := by
  have bank : (joinQueue r g f late s).bank = s.bank := by
    unfold joinQueue
    dsimp only
    split <;> rfl
  exact sameExcept_of_kept (joinQueue_kept r g f late s) (by simp) (fun _ => joinQueue_dests f late r g s) (by simp)
    (by simp) (fun _ => joinQueue_notices f late r g s) (fun _ => by rw [bank]) fun _ => by rw [bank]; exact ⟨rfl, rfl, rfl⟩

/-- The token's end moves no gate where no queue of its gate holds it. -/
theorem endToken_unqueued (x : TestResult) {s : State} {e : Entry} (hf : s.find .token = some e) {g : GateId}
    (hg : e.gate? = some g) (hq : .token ∉ (s.gate g).queue) (y : GateId) : (endToken x s).gate y = s.gate y := by
  have gate : (endToken x s).gate y = (leaveQueue g .token s).gate y := by
    simp only [endToken, hf, hg]
    rfl
  rw [gate, leaveQueue_gate]
  split
  · next h => rw [h, filter_ne_of_not_mem hq]
  · rfl

theorem endToken_others (x : TestResult) (s : State) : SameOtherEntries s (endToken x s) .token := fun y hy => by
  rw [State.find, endToken_map]
  exact eraseEntry_find_ne hy _

theorem endToken_counter (x : TestResult) (s : State) (c : Counter) : (endToken x s).counter c = s.counter c := by
  rw [endToken_eq]; rfl

theorem gates_ext {s t : State} (h : ∀ g, t.gate g = s.gate g) : t.gates = s.gates :=
  Vector.ext fun i hi => h ⟨i, hi⟩

end Sys2Proof.Machine
end

section
/-! SUPPORT. The arming point: an entry that is armed, one that is assigned elsewhere, and a token that ends (R65, R91, R120 to R123, R135). -/

namespace Sys2Proof.Machine

theorem refuseArming_tag (x : Tag) (d : DestId) (s : State) : refuseArming (.tag x) d s
    = reroute d (.tag x) (s.raiseGate (destGate d) .spacingConflicts) := by
  simp only [refuseArming, reduceCtorEq, if_false]

theorem refuseArming_token (d : DestId) (s : State) : refuseArming .token d s
    = endToken .conflict (s.raiseGate (destGate d) .spacingConflicts) := by
  simp only [refuseArming, if_true]

/-- A refused item is assigned elsewhere, and no gate moves where it stood in no queue (R123, R91). -/
theorem refused_item {s : State} {x : Tag} {e : Entry} {d : DestId} (hf : s.find (.tag x) = some e)
    (hs : e.state = .routed) (hd : e.dest = some (.gateDest d)) (hq : .tag x ∉ (s.gate (destGate d)).queue) :
    Rerouted d (.tag x) e (s.raiseGate (destGate d) .spacingConflicts) (refuseArming (.tag x) d s)
      ∧ SameExcept [.map, .dests, .counters, .notices] s (refuseArming (.tag x) d s)
      ∧ (refuseArming (.tag x) d s).counter (.ofGate (destGate d) .spacingConflicts)
        = min (s.counter (.ofGate (destGate d) .spacingConflicts) + 1) 65535 := by
  rw [refuseArming_tag]
  refine ⟨rerouted_of_underway hf hd (isTest_of_tag (find_ref hf)) (.inl hs), ?_, ?_⟩
  · refine SameExcept.without (b := .gates) ?_ (gates_ext fun g => ?_)
    · exact ((sameExcept_raise _ s).mono (by simp)).trans ((reroute_frame _ _ _).mono (by simp))
    · refine reroute_gate_same (s := s.raiseGate (destGate d) .spacingConflicts) ?_
      by_cases h : g = destGate d
      · exact .inr (h ▸ hq)
      · exact .inl h
  · rw [reroute_counter (by simp) (by simp), raiseGate_eq, raise_counter, if_pos rfl]

/-- A refused token ends with CONFLICT (R65, R123). -/
theorem refused_token {s : State} {e : Entry} {d : DestId} (hf : s.find .token = some e)
    (hd : e.dest = some (.gateDest d)) (hq : .token ∉ (s.gate (destGate d)).queue) :
    SameExcept [.map, .test, .counters] s (refuseArming .token d s)
      ∧ Raised [.ofGate (destGate d) .spacingConflicts] s (refuseArming .token d s) := by
  rw [refuseArming_token]
  refine ⟨SameExcept.without (b := .gates) ?_ (gates_ext fun g => ?_), fun c => ?_⟩
  · exact ((sameExcept_raise _ s).mono (by simp)).trans ((endToken_frame _ _).mono (by simp))
  · exact endToken_unqueued .conflict (s := s.raiseGate (destGate d) .spacingConflicts) hf
      (by rw [Entry.gate?, hd]) hq g
  · rw [endToken_counter]
    exact raised_raise s _ c

/-- Settles O22: the entry armed at its place, the refusals, and what the spacing asks. -/
theorem armingFixesFirePosition : Obligations.ArmingFixesFirePosition := by
  intro s r e d n hr hf hs hd hn hp
  have arms := exec_arming hr hf hs hd hn hp
  intro g f late
  have accepts : armingRefused s g f = false → armEntry r e d n s = joinQueue r g f late s := fun h =>
    if_neg (by rw [Bool.not_eq_true]; exact h)
  have refuses : armingRefused s g f = true → armEntry r e d n s = refuseArming r d s := fun h => if_pos h
  refine ⟨fun h => ?_, fun h hq => ⟨?_, ?_⟩, fun hq hc => ?_, fun h4 => ?_, fun last hq hc hl hlt => ?_, ?_⟩
  · rw [accepts h] at arms
    refine ⟨_, arms, (joinQueue_frame r g f late s).settled, ?_, ?_, fun x hx => ?_, ?_, fun x hx => ?_, ?_⟩
    · rw [settle_find, joinQueue_find_self f late g hf]; rfl
    · rw [settle_map, joinQueue_map, updateEntry_length]
    · rw [settle_find]; exact joinQueue_find_ne f late g hx
    · rw [settle_gate, joinQueue_gate, if_pos rfl]
    · rw [settle_gate, joinQueue_gate, if_neg hx]
    · rw [settle_test, joinQueue_test]
  · rintro x rfl
    rw [refuses h] at arms
    obtain ⟨moved, frame, conflicts⟩ := refused_item hf hs hd hq
    obtain ⟨e', found, away, attempts, fireAt, -, state⟩ := moved.entry
    refine ⟨_, e', arms, frame.settled, ?_, ?_, fun y hy => ?_, away, attempts, fireAt, state,
      (moved.told ((told_refl s).raise _)).destNotices_event, ?_, ?_⟩
    · rw [settle_find]; exact found
    · rw [settle_map]; exact moved.length
    · rw [settle_find]; exact moved.others y hy
    · rw [settle_counter]; exact conflicts
    · rw [settle_counter, moved.reroutes, raiseGate_eq, raise_counter, if_neg (by simp)]
  · rintro rfl law
    rw [refuses h] at arms
    obtain ⟨frame, raised⟩ := refused_token hf hd hq
    obtain ⟨test, latch, length, gone⟩ := endToken_ends .conflict (s.raiseGate g .spacingConflicts)
      (Option.isSome_iff_exists.mpr ⟨e, hf⟩)
    refine ⟨_, arms, frame.settled, raised.settled, ?_⟩
    rw [refuseArming_token, settle_find, settle_map, settle_test]
    exact ⟨gone law.2, length, fun y hy => by rw [settle_find]; exact endToken_others _ _ y hy, test,
      settle_latch latch⟩
  · rw [Bool.eq_false_iff, Ne, armingRefused_iff, gapBefore_front (queuePlace_nil hq f), gapAfter_nil hq, hq, hc]
    simp [gapShort]
  · exact (armingRefused_iff s g f).mpr (.inl h4)
  · have cycling : (s.gate g).cycle.isSome = true := Option.isSome_iff_ne_none.mpr hc
    have gap : gapToLast f last = (f - last).toNat := if_pos hlt
    rw [Bool.eq_iff_iff, armingRefused_iff, gapBefore_front (queuePlace_nil hq f), gapAfter_nil hq, hq, cycling,
      if_pos rfl, hl, Option.map_some, gap]
    simp only [gapShort, spacing, List.length_nil, Nat.reduceLeDiff, Bool.false_eq_true, false_or, or_false]
    exact Iff.rfl
  · intro before after hq hfire hb ha sp
    exact ⟨queuePlace_split hq hfire hb ha, armingRefused_split hq hfire hb ha⟩

end Sys2Proof.Machine
end

section
/-! SUPPORT. The route decision in the words of the statement: the tests of eligibility one by one, the first eligible member of a list, and what the decision makes of the entry and of the accounts (R79, R82, R84 to R88, R91). -/

namespace Sys2Proof.Machine

/-! ### Eligibility (R82, R84, R85) -/

section
variable (r : Dest) (e : Entry)

theorem Holds.none_iff (h : Holds) : h.none = true ↔ h = {} := beq_iff_eq

theorem classOk_iff : classOk r e = true ↔ ∃ c, e.cls = some c ∧ r.classes.getLsbD c.val = true := by
  cases h : e.cls <;> simp [classOk, h]

theorem ownerOk_iff : ownerOk r e = true ↔ mayReceive r.owner e := by
  rcases h : r.owner with _ | _ | _ <;> simp [ownerOk, mayReceive, h]

theorem creditOk_iff : creditOk r = true ↔ (r.margin : Int) < (r.free : Int) - (r.reserved : Int) := decide_eq_true_iff

/-- An open length passes; a closed one asks that P has not reached the arming point. -/
theorem positionOk_iff (s : State) (g : Gate) : positionOk s e g = true
    ↔ ∀ n, e.length = some n → reached s.belt.p (armingPoint e.r g n) = false := by
  cases h : e.length <;> simp [positionOk, h]

end

/-- The nine tests (R84). -/
theorem eligible_iff (s : State) (e : Entry) (d : DestId) : eligible s e d = true
    ↔ (s.dest d).configured = true ∧ (s.gate (destGate d)).configured = true ∧ (s.dest d).state = .opened
      ∧ (s.dest d).holds = {} ∧ (∃ c, e.cls = some c ∧ (s.dest d).classes.getLsbD c.val = true)
      ∧ mayReceive (s.dest d).owner e ∧ ((s.dest d).margin : Int) < ((s.dest d).free : Int) - ((s.dest d).reserved : Int)
      ∧ (s.gate (destGate d)).service = .inService
      ∧ ∀ n, e.length = some n → reached s.belt.p (armingPoint e.r (s.gate (destGate d)) n) = false := by
  simp only [eligible, Bool.and_eq_true, beq_iff_eq, Holds.none_iff, classOk_iff, ownerOk_iff, creditOk_iff,
    positionOk_iff, and_assoc]

/-! ### The search (R86, R87, R91) -/

/-- A destination that a search may give: eligible, and not the one left out. -/
def mayTake (s : State) (e : Entry) (leftOut : Option DestId) (d : DestId) : Prop :=
  leftOut ≠ some d ∧ eligible s e d = true

/-- d is the first member of a list that the search may give. -/
def firstTaken (s : State) (e : Entry) (leftOut : Option DestId) (l : List DestId) (d : DestId) : Prop :=
  ∃ before after, l = before ++ d :: after ∧ mayTake s e leftOut d ∧ ∀ x ∈ before, ¬mayTake s e leftOut x

section
variable {s : State} {e : Entry} {leftOut : Option DestId} {d : DestId}

theorem mayTake_iff : (some d != leftOut && eligible s e d) = true ↔ mayTake s e leftOut d := by
  rw [mayTake, Bool.and_eq_true, bne_iff_ne, ne_comm]

theorem find?_taken {l : List DestId} :
    l.find? (fun d => some d != leftOut && eligible s e d) = some d ↔ firstTaken s e leftOut l d := by
  simp only [List.find?_eq_some_iff_append, Bool.not_eq_true', ← Bool.not_eq_true, mayTake_iff, firstTaken]
  exact ⟨fun ⟨may, before, after, hl, hb⟩ => ⟨before, after, hl, may, hb⟩,
    fun ⟨before, after, hl, may, hb⟩ => ⟨may, before, after, hl, hb⟩⟩

theorem find?_not_taken {l : List DestId} : l.find? (fun d => some d != leftOut && eligible s e d) = none
    ↔ ∀ x ∈ l, ¬mayTake s e leftOut x := by
  simp only [List.find?_eq_none, mayTake_iff]

/-- The chosen list comes first; the overflow list is searched only where it has no member to give. -/
theorem search_eq_some (h : search s e leftOut = some d) : firstTaken s e leftOut (chosenList s e) d
    ∨ (∀ x ∈ chosenList s e, ¬mayTake s e leftOut x) ∧ firstTaken s e leftOut s.routes.overflow d := by
  simpa only [search, Option.or_eq_some_iff, find?_taken, find?_not_taken] using h

theorem search_eq_none (h : search s e leftOut = none) :
    ∀ d ∈ chosenList s e ++ s.routes.overflow, ¬mayTake s e leftOut d := by
  simp only [search, Option.or_eq_none_iff, find?_not_taken] at h
  intro d hd
  exact (List.mem_append.mp hd).elim (h.1 d) (h.2 d)

/-! ### The decision (R79, R87) -/

/-- A decision changes its entry in its place and no other. -/
theorem decideRoute_entries {r : EntryRef} (hf : s.find r = some e) :
    (decideRoute r leftOut s).find r = some (decidedEntry s e leftOut)
      ∧ SameOtherEntries s (decideRoute r leftOut s) r ∧ (decideRoute r leftOut s).map.length = s.map.length := by
  rw [decideRoute_eq leftOut hf]
  refine ⟨find_updateEntry_self hf (decidedEntry_tag s e leftOut), fun x hx => ?_, updateEntry_length ..⟩
  exact find_updateEntry_ne hx fun _ _ _ => (decidedEntry_ref s e leftOut).trans (find_ref hf)

/-- The winner's R_d and ASSIGNED rise, and no other account moves. -/
theorem decideRoute_accounts {r : EntryRef} (hf : s.find r = some e) (h : search s e leftOut = some d) :
    (decideRoute r leftOut s).dest d = { s.dest d with reserved := (s.dest d).reserved + 1 }
      ∧ SameOtherDests s (decideRoute r leftOut s) d ∧ Raised [.ofDest d .assigned] s (decideRoute r leftOut s) := by
  rw [decideRoute_eq leftOut hf, decidedAccounts_winner h]
  exact ⟨by simp, fun x hx => by simp [modDest_dest_ne _ _ _ _ hx], raised_raise (s.modDest d _) _⟩

/-- Without a winner no account moves. -/
theorem decideRoute_noAccounts {r : EntryRef} (hf : s.find r = some e) (h : search s e leftOut = none) :
    SameDests s (decideRoute r leftOut s) ∧ Raised [] s (decideRoute r leftOut s) := by
  rw [decideRoute_eq leftOut hf, decidedAccounts_tail h]
  exact ⟨rfl, raised_nil rfl⟩

end

/-- Settles O19: the tests of eligibility, the list that is searched, its first eligible member, and the decision. -/
theorem decisionTakesEligibleMember : Obligations.DecisionTakesEligibleMember := by
  intro s e leftOut
  refine ⟨fun d => eligible_iff s e d, fun h => if_pos h, fun c o hb hc ho => ?_,
    ⟨fun d h => search_eq_some h, search_eq_none⟩, fun r hf => ?_⟩
  · simp [chosenList, hb, hc, ho]
  · obtain ⟨entry, others, length⟩ := decideRoute_entries (leftOut := leftOut) hf
    refine ⟨decideRoute_frame r leftOut s, others, length, fun d h => ⟨?_, decideRoute_accounts hf h⟩, fun h => ⟨?_, decideRoute_noAccounts hf h⟩⟩
    · rw [entry, decidedEntry_winner h]
    · rw [entry, decidedEntry_tail h]

end Sys2Proof.Machine
end

section
/-! SUPPORT. The route table: which list a write or a read names, the checks of a write in their order, and the list it replaces (R72 to R76). -/

namespace Sys2Proof.Machine

/-! ### Lists by their codes (R72) -/

theorem byteOf_toNat {n : Nat} (h : n < 256) : (byteOf n).toNat = n := by
  simp only [byteOf, BitVec.toNat_ofNat]; omega

theorem ItemOwner.number_lt (o : ItemOwner) : o.number < 7 := by
  cases o <;> simp only [ItemOwner.number] <;> omega

theorem ItemOwner.number_inj {a b : ItemOwner} (h : a.number = b.number) : a = b := by
  cases a <;> cases b <;> simp only [ItemOwner.number] at h
  · rw [Fin.ext h]
  · omega
  · omega
  · rfl

/-- No two cells share a place among the 98. -/
theorem cellIndex_inj {c c' : ItemClass} {o o' : ItemOwner} (h : cellIndex c o = cellIndex c' o') : c = c' ∧ o = o' := by
  have := congrArg Fin.val h
  simp only [cellIndex] at this
  have ho := o.number_lt
  have ho' := o'.number_lt
  exact ⟨Fin.ext (by omega), ItemOwner.number_inj (by omega)⟩

theorem itemOwner?_number (o : ItemOwner) : itemOwner? o.number = some o := by
  cases o with
  | outlet s => simp [itemOwner?, ItemOwner.number, inRange?]
  | nobody => rfl

theorem itemOwner?_of_le {n : Nat} (h : 7 ≤ n) : itemOwner? n = none := by
  rw [itemOwner?, inRange?_of_le (by omega)]
  exact if_neg (by omega)

theorem cellTarget?_named (c : ItemClass) (o : ItemOwner) : cellTarget? c.val o.number = some (.cell c o) := by
  simp only [cellTarget?, inRange?_eq_some.mpr (rfl : c.val = c.val), itemOwner?_number]

theorem cellTarget?_unnamed {c o : Nat} (h : 14 ≤ c ∨ 7 ≤ o) : cellTarget? c o = none := by
  unfold cellTarget?
  rcases h with h | h
  · rw [inRange?_of_le h]
  · rw [itemOwner?_of_le h]
    cases inRange? 14 c <;> rfl

/-! ### A list replaced (R72) -/

theorem storeList_cell_self (c : ItemClass) (o : ItemOwner) (l : List DestId) (s : State) :
    (storeList (.cell c o) l s).cell c o = l := by
  simp [storeList, State.cell]

theorem storeList_cell_ne {c c' : ItemClass} {o o' : ItemOwner} (h : c' ≠ c ∨ o' ≠ o) (l : List DestId) (s : State) :
    (storeList (.cell c o) l s).cell c' o' = s.cell c' o' := by
  have apart : (cellIndex c o).val ≠ (cellIndex c' o').val := fun k => by
    obtain ⟨rfl, rfl⟩ := cellIndex_inj (Fin.ext k)
    simp at h
  simp [storeList, State.cell, apart]

theorem storeList_frame (t : RouteTarget) (l : List DestId) (s : State) : SameExcept [.routes] s (storeList t l s) := by
  intro b hb
  have same := b.same_refl s
  cases t <;> cases b
  case cell.routes | overflow.routes | breakage.routes => simp at hb
  all_goals exact same

theorem storeList_links (t : RouteTarget) (l : List DestId) (s : State) : (storeList t l s).links = s.links := by
  cases t <;> rfl

theorem cell_of_routes {s t : State} (h : t.routes = s.routes) (c : ItemClass) (o : ItemOwner) : t.cell c o = s.cell c o := by
  simp only [State.cell, h]

/-- The list stored depends on the lists before alone. -/
theorem storeList_routes {s t : State} (h : t.routes = s.routes) (x : RouteTarget) (l : List DestId) :
    (storeList x l t).routes = (storeList x l s).routes := by
  cases x <;> simp only [storeList, h]

/-! ### The checks of a write (R73, R74, R75) -/

/-- A byte of the list sent that names no destination. -/
abbrev OutOfRange (l : List Byte) : Prop := ∃ b ∈ l, 24 ≤ b.toNat

/-- A kept member at an unconfigured gate, once the belt has left UNCONFIGURED. -/
abbrev NamesUnconfigured (l : List Byte) (s : State) : Prop :=
  s.belt.state ≠ .unconfigured ∧ ∃ d ∈ asDests (keptList l), (s.gate (destGate d)).configured = false

/-- A kept member that the sender may not list, once the belt has left UNCONFIGURED. -/
abbrev NamesForeign (q : Sender) (t : RouteTarget) (l : List Byte) (s : State) : Prop :=
  s.belt.state ≠ .unconfigured ∧ ∃ d ∈ asDests (keptList l), memberOwned q t s d = false

/-- The status of a write that is stored: whether every member sent is kept. -/
def storedStatus (l : List Byte) : Status := if (keptList l).length = l.length then .done else .doneTruncated

/-- A write that names no list is refused (R73, R74). -/
theorem writeList_unnamed (q : Sender) (l : List Byte) (s : State) :
    writeList q none l s = ⟨s, .argument, listBytes (keptList l)⟩ := rfl

/-- The checks of a write in their order. -/
theorem writeList_named (q : Sender) (t : RouteTarget) (l : List Byte) (s : State) : writeList q (some t) l s
    = if OutOfRange l then ⟨s, .argument, listBytes (keptList l)⟩
      else if NamesUnconfigured l s then ⟨s, .badConfig, listBytes (keptList l)⟩
      else if NamesForeign q t l s then ⟨s, .notOwner, listBytes (keptList l)⟩
      else ⟨storeList t (asDests (keptList l)) s, storedStatus l, listBytes (keptList l)⟩ := by
  simp only [writeList, storedStatus, List.any_eq_true, decide_eq_true_eq, Bool.and_eq_true, commissioned_iff,
    Bool.not_eq_true']

/-- What follows from the outcome behind three checks follows behind them. -/
theorem checks_imp {a b c A B C D D' : Prop} [Decidable a] [Decidable b] [Decidable c]
    (h : if a then A else if b then B else if c then C else D) (k : D → D') :
    if a then A else if b then B else if c then C else D' := by
  split_ifs at h ⊢
  exacts [h, h, h, k h]

/-- The checks read nothing that hearing the frame touches. -/
theorem namesUnconfigured_greeted (q : Sender) (l : List Byte) (s : State) :
    NamesUnconfigured l (greeted q s) ↔ NamesUnconfigured l s := by
  simp only [NamesUnconfigured, greeted_belt, greeted_gate]

theorem memberOwned_greeted (x q : Sender) (t : RouteTarget) (s : State) (d : DestId) :
    memberOwned q t (greeted x s) d = memberOwned q t s d := by
  simp only [memberOwned, greeted_dest]

theorem namesForeign_greeted (x q : Sender) (t : RouteTarget) (l : List Byte) (s : State) :
    NamesForeign q t l (greeted x s) ↔ NamesForeign q t l s := by
  simp only [NamesForeign, greeted_belt, memberOwned_greeted]

/-- A station may list what it or the site owns (R73). -/
theorem memberOwned_station (st : Station) (t : RouteTarget) (s : State) (d : DestId) :
    memberOwned (.station st) t s d = false
      ↔ (s.dest d).owner ≠ some (.station st) ∧ (s.dest d).owner ≠ some .site := by
  simp [memberOwned]

/-- The site may list only its own in the overflow and the breakage list and in the cells of NONE, and any in the cells of O0 to O5 (R74). -/
theorem memberOwned_site (t : RouteTarget) (s : State) (d : DestId) : memberOwned .site t s d = false
    ↔ (∀ c st, t ≠ .cell c (.outlet st)) ∧ (s.dest d).owner ≠ some .site := by
  rcases t with ⟨c, _ | _⟩ | _ | _ <;> simp [memberOwned]

/-! ### A write that is answered -/

section
variable {k : Kind} {q : Sender} (tag : Byte) {pl l : List Byte} {s : State}

/-- What the reply to a refused write leaves: every list, and the kept list as the result (R73, R75). -/
theorem write_refused (status : Status) :
    let t := settle (queueReply q tag k.code ⟨greeted q s, status, listBytes (keptList l)⟩)
    Took q [] s t ∧ t.routes = s.routes ∧ Replied s t q tag k status (listBytes (keptList l)) := by
  obtain ⟨took, -, -, replied⟩ := unchanged_settled q tag k s status (listBytes (keptList l))
  exact ⟨took, by simp, replied⟩

/-- A write that names no list, from a served sender. -/
theorem write_unnamed (hs : Served s q) (ha : Admissible k q pl s) (hi : k ≠ .itemReport)
    (hw : ∀ u, handlerOf k q pl u = writeList q none l u) :
    ∃ t, exec (k.command (.sender q) tag pl) s = .next t ∧ Took q [] s t ∧ t.routes = s.routes
      ∧ Replied s t q tag k .argument (listBytes (keptList l)) :=
  ⟨_, by rw [exec_served hs ha hi, hw, writeList_unnamed], write_refused tag .argument⟩

/-- A write that names a list, from a served sender: the checks in their order, and the list replaced. -/
theorem write_named {x : RouteTarget} (hs : Served s q) (ha : Admissible k q pl s) (hi : k ≠ .itemReport)
    (hw : ∀ u, handlerOf k q pl u = writeList q (some x) l u) :
    ∃ t, exec (k.command (.sender q) tag pl) s = .next t ∧ Took q [.routes] s t
      ∧ (if OutOfRange l then
          t.routes = s.routes ∧ Replied s t q tag k .argument (listBytes (keptList l))
        else if NamesUnconfigured l s then
          t.routes = s.routes ∧ Replied s t q tag k .badConfig (listBytes (keptList l))
        else if NamesForeign q x l s then
          t.routes = s.routes ∧ Replied s t q tag k .notOwner (listBytes (keptList l))
        else t.routes = (storeList x (asDests (keptList l)) s).routes
          ∧ Replied s t q tag k (storedStatus l) (listBytes (keptList l))) := by
  refine ⟨_, exec_served hs ha hi, ?_⟩
  rw [hw, writeList_named]
  simp only [namesUnconfigured_greeted, namesForeign_greeted]
  have refused := fun status => write_refused (k := k) (q := q) (l := l) (s := s) tag status
  split_ifs
  · exact ⟨(refused .argument).1.mono (by simp), (refused .argument).2⟩
  · exact ⟨(refused .badConfig).1.mono (by simp), (refused .badConfig).2⟩
  · exact ⟨(refused .notOwner).1.mono (by simp), (refused .notOwner).2⟩
  · obtain ⟨took, -, -, replied⟩ := answer_settled tag k
      (a := ⟨storeList x (asDests (keptList l)) (greeted q s), storedStatus l, listBytes (keptList l)⟩)
      (storeList_frame x _ _) (storeList_links x _ _)
    refine ⟨took, ?_, replied⟩
    rw [settle_routes, queueReply_routes]
    exact storeList_routes (greeted_routes q s) x _

end

/-- A stored cell is read back, and every other list stands. -/
theorem stored_cell {s t : State} {c : ItemClass} {o : ItemOwner} {l : List DestId}
    (h : t.routes = (storeList (.cell c o) l s).routes) : t.cell c o = l
      ∧ (∀ (c' : ItemClass) (o' : ItemOwner), c' ≠ c ∨ o' ≠ o → t.cell c' o' = s.cell c' o')
      ∧ t.routes.overflow = s.routes.overflow ∧ t.routes.breakage = s.routes.breakage := by
  refine ⟨?_, fun c' o' hne => ?_, by rw [h]; rfl, by rw [h]; rfl⟩
  · rw [cell_of_routes h, storeList_cell_self]
  · rw [cell_of_routes h, storeList_cell_ne hne]

/-! ### WRITE-ROUTE, SET-LIST and READ-ROUTE -/

section
variable {l : List Byte} (hl : l.length < 40)
include hl

theorem writeRoute_station_fits (st : Station) (x : Byte) :
    Kind.writeRoute.payloadFits (.station st) (x :: byteOf l.length :: l) = true := by
  simp [Kind.payloadFits, byteAt, byteOf_toNat (by omega : l.length < 256)]

theorem writeRoute_site_fits (x y : Byte) : Kind.writeRoute.payloadFits .site (x :: y :: byteOf l.length :: l) = true := by
  simp [Kind.payloadFits, byteAt, byteOf_toNat (by omega : l.length < 256)]

theorem setList_fits (x : Byte) : Kind.setList.payloadFits .site (x :: byteOf l.length :: l) = true := by
  simp [Kind.payloadFits, byteAt, byteOf_toNat (by omega : l.length < 256)]

end

/-- Settles O20: the class that names no cell, and the checks of a write to the station's own cell. -/
theorem stationWritesItsCell : Obligations.StationWritesItsCell := by
  intro s st tag x l hs hl
  have ha := admissible_commissioned .writeRoute (.station st) (x :: byteOf l.length :: l) s hs rfl
    (writeRoute_station_fits hl st x)
  have hw : ∀ u, handlerOf .writeRoute (.station st) (x :: byteOf l.length :: l) u
      = writeList (.station st) (cellTarget? x.toNat (ItemOwner.outlet st).number) l u := fun _ => rfl
  by_cases hx : 14 ≤ x.toNat
  · rw [cellTarget?_unnamed (.inl hx)] at hw
    obtain ⟨t, he, took, refused⟩ := write_unnamed tag hs.1 ha (by simp) hw
    exact ⟨t, he, took.mono (by simp), by rw [if_pos (.inl hx)]; exact refused⟩
  · obtain ⟨c, hc⟩ : ∃ c : ItemClass, c.val = x.toNat := ⟨⟨x.toNat, by omega⟩, rfl⟩
    rw [← hc, cellTarget?_named] at hw
    obtain ⟨t, he, took, outcome⟩ := write_named tag hs.1 ha (by simp) hw
    refine ⟨t, he, took, ?_⟩
    simp only [NamesUnconfigured, NamesForeign, memberOwned_station, ne_eq, hs.2, not_false_eq_true, true_and] at outcome
    simp only [hx, false_or]
    refine checks_imp outcome fun ⟨stored, replied⟩ => ?_
    obtain ⟨self, others, overflow, breakage⟩ := stored_cell stored
    exact ⟨fun c' h => by rw [Fin.ext (h.trans hc.symm)]; exact self,
      fun c' o h => others c' o (h.imp_left fun h k => h (by rw [k, hc])), overflow, breakage, replied⟩

/-! ### The site's writes and the reads (R74, R76) -/

section
variable {tag : Byte} {l : List Byte} {s : State} (hs : Served s .site) (hl : l.length < 40)
include hs hl

/-- SET-LIST of a selector that names a list. -/
theorem setList_named {x : Byte} {t : RouteTarget} (site : ∀ c st, t ≠ .cell c (.outlet st))
    (named : ∀ u, handleSetList .site (x :: byteOf l.length :: l) u = writeList .site (some t) l u) :
    ∃ u, exec (.setList (.sender .site) tag (x :: byteOf l.length :: l)) s = .next u ∧ Took .site [.routes] s u
      ∧ (if OutOfRange l then
          u.routes = s.routes ∧ Replied s u .site tag .setList .argument (listBytes (keptList l))
        else if NamesUnconfigured l s then
          u.routes = s.routes ∧ Replied s u .site tag .setList .badConfig (listBytes (keptList l))
        else if s.belt.state ≠ .unconfigured ∧ ∃ d ∈ asDests (keptList l), (s.dest d).owner ≠ some .site then
          u.routes = s.routes ∧ Replied s u .site tag .setList .notOwner (listBytes (keptList l))
        else u.routes = (storeList t (asDests (keptList l)) s).routes
          ∧ Replied s u .site tag .setList (storedStatus l) (listBytes (keptList l))) := by
  have ha := admissible_site .setList (x :: byteOf l.length :: l) s hs rfl (setList_fits hl x) rfl
  obtain ⟨u, he, took, outcome⟩ := write_named tag hs ha (by simp) named
  simp only [NamesForeign, memberOwned_site, site, ne_eq, not_false_eq_true, implies_true, true_and] at outcome
  exact ⟨u, he, took, outcome⟩

/-- SET-LIST of any other selector. -/
theorem setList_unnamed {x : Byte} (h1 : x ≠ 1) (h2 : x ≠ 2) :
    ∃ t, exec (.setList (.sender .site) tag (x :: byteOf l.length :: l)) s = .next t ∧ Took .site [] s t
      ∧ Replied s t .site tag .setList .argument (listBytes (keptList l)) := by
  have ha := admissible_site .setList (x :: byteOf l.length :: l) s hs rfl (setList_fits hl x) rfl
  have n1 : x.toNat ≠ 1 := fun h => h1 (BitVec.eq_of_toNat_eq h)
  have n2 : x.toNat ≠ 2 := fun h => h2 (BitVec.eq_of_toNat_eq h)
  obtain ⟨t, he, took, -, replied⟩ := write_unnamed (l := l) tag hs ha (by simp) fun u => by
    show handleSetList .site (x :: byteOf l.length :: l) u = _
    simp [handleSetList, byteAt, n1, n2, listMembers]
  exact ⟨t, he, took, replied⟩

/-- WRITE-ROUTE of the site to a cell: a member that is not SITE's is refused in the cells of NONE alone. -/
theorem siteWrite_named (c : ItemClass) (o : ItemOwner) :
    ∃ t, exec (.writeRoute (.sender .site) tag (byteOf c.val :: byteOf o.number :: byteOf l.length :: l)) s = .next t
      ∧ Took .site [.routes] s t
      ∧ (if OutOfRange l then
          t.routes = s.routes ∧ Replied s t .site tag .writeRoute .argument (listBytes (keptList l))
        else if NamesUnconfigured l s then
          t.routes = s.routes ∧ Replied s t .site tag .writeRoute .badConfig (listBytes (keptList l))
        else if s.belt.state ≠ .unconfigured ∧ o = .nobody
            ∧ ∃ d ∈ asDests (keptList l), (s.dest d).owner ≠ some .site then
          t.routes = s.routes ∧ Replied s t .site tag .writeRoute .notOwner (listBytes (keptList l))
        else t.routes = (storeList (.cell c o) (asDests (keptList l)) s).routes
          ∧ Replied s t .site tag .writeRoute (storedStatus l) (listBytes (keptList l))) := by
  have ha := admissible_site .writeRoute (byteOf c.val :: byteOf o.number :: byteOf l.length :: l) s hs rfl
    (writeRoute_site_fits hl _ _) rfl
  have hc : (byteOf c.val).toNat = c.val := byteOf_toNat (by omega)
  have ho : (byteOf o.number).toNat = o.number := byteOf_toNat (by have := o.number_lt; omega)
  obtain ⟨t, he, took, outcome⟩ := write_named (x := .cell c o) (l := l) tag hs ha (by simp) fun u => by
    show writeList .site (cellTarget? (byteOf c.val).toNat (byteOf o.number).toNat) l u = _
    rw [hc, ho, cellTarget?_named]
  have owners : (∀ c' st, RouteTarget.cell c o ≠ .cell c' (.outlet st)) ↔ o = .nobody := by
    cases o <;> simp
  have foreign : NamesForeign .site (.cell c o) l s ↔ s.belt.state ≠ .unconfigured ∧ o = .nobody
      ∧ ∃ d ∈ asDests (keptList l), (s.dest d).owner ≠ some .site := by
    simp only [NamesForeign, memberOwned_site, owners]
    exact ⟨fun ⟨hb, d, hd, ho, hw⟩ => ⟨hb, ho, d, hd, hw⟩, fun ⟨hb, ho, d, hd, hw⟩ => ⟨hb, d, hd, ho, hw⟩⟩
  simp only [foreign] at outcome
  exact ⟨t, he, took, outcome⟩

/-- WRITE-ROUTE of the site with a class or an owner that names no cell. -/
theorem siteWrite_unnamed {x y : Byte} (h : 14 ≤ x.toNat ∨ 7 ≤ y.toNat) :
    ∃ t, exec (.writeRoute (.sender .site) tag (x :: y :: byteOf l.length :: l)) s = .next t ∧ Took .site [] s t
      ∧ Replied s t .site tag .writeRoute .argument (listBytes (keptList l)) := by
  have ha := admissible_site .writeRoute (x :: y :: byteOf l.length :: l) s hs rfl (writeRoute_site_fits hl x y) rfl
  obtain ⟨t, he, took, -, replied⟩ := write_unnamed (l := l) tag hs ha (by simp) fun u => by
    show writeList .site (cellTarget? x.toNat y.toNat) l u = _
    rw [cellTarget?_unnamed h]
  exact ⟨t, he, took, replied⟩

end

/-- READ-ROUTE of a served sender answers the list it names, or is refused, and changes nothing (R76). -/
theorem readRoute_answered {q : Sender} {tag : Byte} {pl : List Byte} {s : State} (hs : Served s q)
    (ha : Admissible .readRoute q pl s) :
    ∃ t, exec (.readRoute (.sender q) tag pl) s = .next t ∧ Took q [] s t
      ∧ match readTarget? q pl with
        | some x => Replied s t q tag .readRoute .done (listBytes (destBytes (readList x s)))
        | none => Replied s t q tag .readRoute .argument [] := by
  have he : exec (.readRoute (.sender q) tag pl) s = _ := exec_served hs ha (by simp)
  rw [show handlerOf .readRoute = handleReadRoute from rfl, handleReadRoute] at he
  have hr : ∀ x, readList x (greeted q s) = readList x s := fun x => by cases x <;> simp [readList, State.cell]
  cases hx : readTarget? q pl with
  | some x =>
    rw [hx] at he
    dsimp only at he
    rw [hr] at he
    obtain ⟨took, -, -, replied⟩ := unchanged_settled q tag .readRoute s .done (listBytes (destBytes (readList x s)))
    exact ⟨_, he, took, replied⟩
  | none =>
    rw [hx] at he
    obtain ⟨took, -, -, replied⟩ := unchanged_settled q tag .readRoute s .argument []
    exact ⟨_, he, took, replied⟩

/-- What a station's READ-ROUTE names: its own cell of the class (R76). -/
theorem readTarget?_station (st : Station) (x : Byte) :
    readTarget? (.station st) [x] = (inRange? 14 x.toNat).map fun c => .cell c (.outlet st) := by
  have named : readTarget? (.station st) [x] = cellTarget? x.toNat (ItemOwner.outlet st).number := rfl
  rw [named]
  unfold cellTarget?
  rw [itemOwner?_number]
  cases inRange? 14 x.toNat <;> rfl

/-- What the site's READ-ROUTE names, by its selector (R76). -/
theorem readTarget?_site (z x y : Byte) : readTarget? .site [z, x, y]
    = if z.toNat = 0 then cellTarget? x.toNat y.toNat
      else if z.toNat = 1 then some .overflow
      else if z.toNat = 2 then some .breakage
      else none := by
  have selector : byteAt [z, x, y] 0 = z.toNat := rfl
  unfold readTarget?
  dsimp only
  rw [selector]
  split
  · next h => rw [if_pos h]; rfl
  · next h => rw [if_neg (by omega), if_pos h]
  · next h => rw [if_neg (by omega), if_neg (by omega), if_pos h]
  · next h0 h1 h2 => rw [if_neg h0, if_neg h1, if_neg h2]

/-- Settles O21: the site's writes by the list they name, and the reads of stations and site. -/
theorem siteLoadsListsAndReadsThem : Obligations.SiteLoadsListsAndReadsThem := by
  intro s tag
  refine ⟨fun l hs hl => ⟨?_, ?_, fun c o => ?_, fun x y => ⟨setList_unnamed hs hl, siteWrite_unnamed hs hl⟩⟩,
    fun st x hs => ?_, fun c o x y z hs => ?_⟩
  · obtain ⟨t, he, took, outcome⟩ := setList_named (x := 1) (t := .overflow) (tag := tag) hs hl (by simp) fun _ => rfl
    exact ⟨t, he, took, outcome⟩
  · obtain ⟨t, he, took, outcome⟩ := setList_named (x := 2) (t := .breakage) (tag := tag) hs hl (by simp) fun _ => rfl
    exact ⟨t, he, took, outcome⟩
  · obtain ⟨t, he, took, outcome⟩ := siteWrite_named (tag := tag) hs hl c o
    refine ⟨t, he, took, checks_imp outcome fun ⟨stored, replied⟩ => ?_⟩
    obtain ⟨self, others, overflow, breakage⟩ := stored_cell stored
    exact ⟨self, others, overflow, breakage, replied⟩
  · obtain ⟨t, he, took, replied⟩ := readRoute_answered (tag := tag) hs.1
      (admissible_commissioned .readRoute (.station st) [x] s hs rfl rfl)
    refine ⟨t, he, took, ?_⟩
    rw [readTarget?_station] at replied
    cases hx : inRange? 14 x.toNat <;> rw [hx] at replied <;> exact replied
  · have read := fun z x y => readRoute_answered (tag := tag) hs (admissible_site .readRoute [z, x, y] s hs rfl rfl rfl)
    simp only [readTarget?_site] at read
    refine ⟨?_, read 1 x y, read 2 x y, fun h => ?_⟩
    · have hc : (byteOf c.val).toNat = c.val := byteOf_toNat (by omega)
      have ho : (byteOf o.number).toNat = o.number := byteOf_toNat (by have := o.number_lt; omega)
      have := read 0 (byteOf c.val) (byteOf o.number)
      rw [hc, ho, cellTarget?_named] at this
      exact this
    · have none : (if z.toNat = 0 then cellTarget? x.toNat y.toNat else if z.toNat = 1 then some .overflow
          else if z.toNat = 2 then some .breakage else none) = none := by
        rcases h with h | ⟨rfl, h⟩
        · rw [if_neg (by omega), if_neg (by omega), if_neg (by omega)]
        · exact cellTarget?_unnamed h
      have := read z x y
      rw [none] at this
      exact this

end Sys2Proof.Machine
end

section
/-! SUPPORT. What a rerouting hold of one destination does to the records, to the entries bound for it and to the notices, and the notices of an event of the part's own (R58, R79, R91, R92, R102, R107, R114, R174). -/

namespace Sys2Proof.Machine

/-! ### Records under a cascade (R79, R91, R92) -/

/-- A record after entries have moved: only its R_d may differ, and where they have moved off it, DRAINING may have become CLOSED. -/
structure Dest.Rebooked (off : Prop) (a b : Dest) : Prop where
  rest : b = { a with reserved := b.reserved, state := b.state }
  state : b.state = a.state ∨ (off ∧ a.state = .draining ∧ b.state = .closed)

namespace Dest.Rebooked
variable {off : Prop} {a b c : Dest}

theorem refl (off : Prop) (a : Dest) : a.Rebooked off a := ⟨rfl, .inl rfl⟩

theorem trans (h : a.Rebooked off b) (k : b.Rebooked off c) : a.Rebooked off c where
  rest := by rw [k.rest, h.rest]
  state := by
    rcases h.state with h | ⟨_, _, h⟩ <;> rcases k.state with k | ⟨_, _, k⟩ <;> simp_all

theorem mono {off' : Prop} (h : a.Rebooked off b) (ho : off → off') : a.Rebooked off' b :=
  ⟨h.rest, h.state.imp_right fun k => ⟨ho k.1, k.2⟩⟩

theorem reserved (a : Dest) (n : Nat) : a.Rebooked off { a with reserved := n } := ⟨rfl, .inl rfl⟩

theorem freed (a : Dest) (n : Nat) (ho : off) : a.Rebooked off (Machine.freed n a) := by
  refine ⟨rfl, ?_⟩
  unfold Machine.freed
  dsimp only
  split
  · next h => exact .inr ⟨ho, h.2.1, rfl⟩
  · exact .inl rfl

/-- A record that no entry leaves keeps its state. -/
theorem stays (h : a.Rebooked off b) (ho : ¬off) : b = { a with reserved := b.reserved } := by
  have state := h.state.resolve_right fun k => ho k.1
  have rest := h.rest
  rwa [state] at rest

/-- So does one that is not DRAINING. -/
theorem settled (h : a.Rebooked off b) (hs : a.state ≠ .draining) : b = { a with reserved := b.reserved } := by
  have state := h.state.resolve_right fun k => hs k.2.1
  have rest := h.rest
  rwa [state] at rest

theorem holds (h : a.Rebooked off b) : b.holds = a.holds := by rw [h.rest]

theorem owner (h : a.Rebooked off b) : b.owner = a.owner := by rw [h.rest]

theorem free (h : a.Rebooked off b) : b.free = a.free := by rw [h.rest]

theorem awaiting (h : a.Rebooked off b) : b.awaiting = a.awaiting := by rw [h.rest]

theorem misses (h : a.Rebooked off b) : b.misses = a.misses := by rw [h.rest]

theorem rearm (h : a.Rebooked off b) : b.rearm = a.rearm := by rw [h.rest]

theorem mode (h : a.Rebooked off b) : b.mode = a.mode := by rw [h.rest]

end Dest.Rebooked

theorem unreserve_rebooked (d x : DestId) (s : State) : (s.dest x).Rebooked (x = d) ((unreserve d s).dest x) := by
  rw [unreserve_dest]
  split
  · next h => subst h; exact .freed _ 1 rfl
  · exact .refl _ _

theorem decideRoute_rebooked {off : Prop} (r : EntryRef) (o : Option DestId) (x : DestId) (s : State) :
    (s.dest x).Rebooked off ((decideRoute r o s).dest x) := by
  unfold decideRoute
  split
  · exact .refl _ _
  · split
    · next w _ =>
      have dest : (assign r w s).dest x = (s.modDest w fun a => { a with reserved := a.reserved + 1 }).dest x := rfl
      rw [dest, modDest_dest]
      split
      · next h => subst h; exact .reserved _ _
      · exact .refl _ _
    · exact .refl _ _

theorem offered_dest (d : DestId) (r : EntryRef) (x : DestId) (s : State) :
    (offered d r s).dest x = if x = d then freed 1 (s.dest d) else s.dest x := by
  have back : (offered d r s).dest x = (giveBack r d (withdraw r d s)).dest x := by
    simp only [offered, countReroute, raisePart_eq, raise_dest, modEntry_eq, withMap_dest]
  have before : ∀ z, ((withdraw r d s).modEntry r fun e => { e with dest := none }).dest z = s.dest z := fun z => by
    simp only [withdraw, leaveQueue, modEntry_eq, withMap_dest, modGate_dest]
  rw [back, giveBack, unreserve_dest, before, before]

theorem reroute_rebooked (d : DestId) (r : EntryRef) (x : DestId) (s : State) :
    (s.dest x).Rebooked (x = d) ((reroute d r s).dest x) := by
  obtain ⟨_, -, -, -, -, h⟩ | ⟨_, -, -, -, -, h⟩ | ⟨-, h⟩ := reroute_cases d r s
  · have back : (s.dest x).Rebooked (x = d) ((offered d r s).dest x) := by
      rw [offered_dest]
      split
      · next k => subst k; exact .freed _ 1 rfl
      · exact .refl _ _
    rw [h]
    exact back.trans (decideRoute_rebooked r _ x _)
  · have freed := unreserve_rebooked d x (s.modEntry r fun e => { e with dest := some .tail })
    rw [h]
    simpa only [modEntry_eq, withMap_dest] using freed
  · rw [h]; exact .refl _ _

/-- A cascade changes nothing of a record but R_d, and of the destinations it moves entries off, DRAINING to CLOSED. -/
theorem cascade_rebooked (ds : List DestId) (x : DestId) (s : State) :
    (s.dest x).Rebooked (x ∈ ds) ((cascade ds s).dest x) := by
  refine forEach_invariant (fun u => (s.dest x).Rebooked (x ∈ ds) (u.dest x)) _ _ (fun a ha u hu => ?_) s (.refl _ _)
  obtain ⟨e, -, he⟩ := List.mem_filterMap.mp ha
  obtain ⟨d, hd, rfl⟩ := Option.map_eq_some_iff.mp he
  exact hu.trans ((reroute_rebooked d e.ref x u).mono fun h => h ▸ (concerned_some.mp hd).2.1)

/-- A cascade counts ASSIGNED and REROUTES alone. -/
theorem cascade_counter {c : Counter} (hc : ∀ x, c ≠ .ofDest x .assigned) (hr : c ≠ .ofPart .reroutes)
    (ds : List DestId) (s : State) : (cascade ds s).counter c = s.counter c :=
  forEach_keeps (fun u => u.counter c) _ (fun _ _ => reroute_counter hc hr _ _ _) _ s

/-! ### Entries moved off, as seen before and after (R62, R91, R106, R107) -/

/-- The same as seen from a state with the map before, whose records have only gone forward since. -/
theorem MovedOff.since {ds : List DestId} {s u t : State} (h : MovedOff ds u t) (map : u.map = s.map)
    (advances : ∀ d, (s.dest d).Advances (u.dest d)) : MovedOff ds s t := by
  obtain ⟨empty, each⟩ := h
  refine ⟨empty, fun e he item => ?_⟩
  obtain ⟨e', found, moved⟩ := each e (map ▸ he) item
  refine ⟨e', found, ?_⟩
  split at moved
  · next hd => rw [if_pos hd]; exact moved.of_advances advances
  · next hd => rwa [if_neg hd]

/-- The same of a state with the map after. -/
theorem MovedOff.map_eq {ds : List DestId} {s t u : State} (h : MovedOff ds s t) (map : u.map = t.map) :
    MovedOff ds s u := by
  simpa only [MovedOff, boundFor, State.find, map] using h

/-! ### One destination gains a rerouting hold (R92, R107) -/

section
variable {c : Holds → Bool} {set : Holds → Holds} {d : DestId} {s : State}

/-- A destination that carries the hold already gains nothing. -/
theorem gainRerouting_carried (h : c (s.dest d).holds = true) : gainRerouting c set [d] s = syncConditions s := by
  have fresh : [d].filter (fun d => !c (s.dest d).holds) = [] := by simp [h]
  unfold gainRerouting
  dsimp only
  rw [fresh, cascade_nil]
  rfl

/-- One that does not gains it, and then its entries are moved off. -/
theorem gainRerouting_fresh (h : c (s.dest d).holds = false) :
    gainRerouting c set [d] s = cascade [d] (syncConditions (gainHold set d s)) := by
  have fresh : [d].filter (fun d => !c (s.dest d).holds) = [d] := by simp [h]
  unfold gainRerouting
  dsimp only
  rw [fresh]
  rfl

theorem gainHold_dest (x : DestId) :
    (gainHold set d s).dest x = if x = d then { s.dest d with holds := set (s.dest d).holds } else s.dest x :=
  changeDest_dest ..

/-- The records once a destination that did not carry the hold has gained it. -/
theorem gainRerouting_rebooked (h : c (s.dest d).holds = false) (x : DestId) :
    (if x = d then { s.dest d with holds := set (s.dest d).holds } else s.dest x).Rebooked (x = d)
      ((gainRerouting c set [d] s).dest x) := by
  have moved := cascade_rebooked [d] x (syncConditions (gainHold set d s))
  rw [syncConditions_dest, gainHold_dest] at moved
  rw [gainRerouting_fresh h]
  exact moved.mono List.mem_singleton.mp

/-- The record of the destination itself, whether or not it carried the hold: the hold is there, and R_d and a DRAINING state follow the entries. -/
theorem gainRerouting_self (hold : c (s.dest d).holds = true → set (s.dest d).holds = (s.dest d).holds) :
    ({ s.dest d with holds := set (s.dest d).holds } : Dest).Rebooked True ((gainRerouting c set [d] s).dest d) := by
  cases h : c (s.dest d).holds with
  | false =>
    have moved := gainRerouting_rebooked (set := set) h d
    rw [if_pos rfl] at moved
    exact moved.mono fun _ => trivial
  | true =>
    rw [gainRerouting_carried h, syncConditions_dest, hold h]
    exact .refl _ _

/-- The entries bound for a destination that gains a hold are moved off it. -/
theorem gainRerouting_movedOff (names : (s.map.map Entry.ref).Nodup) (shape : ∀ e ∈ s.map, e.shaped)
    (h : c (s.dest d).holds = false) (adds : ∀ k : Holds, k.Within (set k)) (held : set (s.dest d).holds ≠ {}) :
    MovedOff [d] s (gainRerouting c set [d] s) := by
  rw [gainRerouting_fresh h]
  obtain ⟨u, hu⟩ : ∃ u, u = syncConditions (gainHold set d s) := ⟨_, rfl⟩
  rw [← hu]
  have map : u.map = s.map := by
    rw [hu, syncConditions, modBank_map]
    exact map_of_untold (changeDest_untold d _ s)
  have told : Told s u := hu ▸ ((told_refl s).gainHold adds d).syncConditions
  have shut : (u.dest d).shut := by
    rw [hu, syncConditions_dest, gainHold_dest, if_pos rfl]
    exact fun _ => held
  exact (cascade_movedOff (by rw [map]; exact names) (by rw [map]; exact shape) (by simpa using shut)).since map
    told.dest_advances

/-- Gaining a rerouting hold counts ASSIGNED and REROUTES alone. -/
theorem gainRerouting_counter {x : Counter} (hx : ∀ y, x ≠ .ofDest y .assigned) (hr : x ≠ .ofPart .reroutes) :
    (gainRerouting c set [d] s).counter x = s.counter x := by
  have synced : ∀ u : State, (syncConditions u).counter x = u.counter x := fun u => by
    have live : (syncConditions u).bank.live = u.bank.live := by simp [syncConditions]
    simp only [State.counter, live]
  cases h : c (s.dest d).holds with
  | true => rw [gainRerouting_carried h, synced]
  | false =>
    have held : (gainHold set d s).bank = s.bank := bank_of_untold (changeDest_untold d _ s)
    rw [gainRerouting_fresh h, cascade_counter hx hr, synced]
    simp only [State.counter, held]

end

/-! ### The notices of an event (R114, R164, R174) -/

/-- The notices of an event of the part's own are those offered, where the places beside them are as given. -/
theorem Offered.noticesOffered {s u v : State} {order : List DestId} {places : Station → List Notice}
    (h : Offered s u order) (links : v.links = u.links) (dests : v.dests = u.dests)
    (queue : ∀ st, v.noticeQueue st = { u.noticeQueue st with places := places st }) :
    NoticesOffered none places s (settle v) := by
  have told : ∀ st d l, destNotice s v st d l = destNotice s u st d l := fun st d l => by
    have dest : v.dest d = u.dest d := by simp only [State.dest, dests]
    unfold destNotice
    rw [dest]
  have same : v.links = s.links := links.trans h.links
  refine noticesOffered_settle h.perm (fun st => ?_) (fun st => ?_) (fun st => ?_) fun st _ => ?_
  · simp only [told]
    rw [h.foldl_all st, queue, h.queue, hears_of_links same]
  · rw [queue]
  · simp only [freeForNotice, State.link, same]
  · rw [queue, h.queue]

theorem Offered.destNotices_event {s u : State} {order : List DestId} (h : Offered s u order) :
    DestNotices none s (settle u) :=
  h.noticesOffered rfl rfl fun st => by rw [h.queue]

/-- A change of one record that no notice shows. -/
theorem modDest_invisible {d : DestId} {f : Dest → Dest} {s : State} (hf : ∀ r, sameVisible r (f r) = true) (x : DestId) :
    sameVisible (s.dest x) ((s.modDest d f).dest x) = true := by
  rw [modDest_dest]
  split
  · next h => subst h; exact hf _
  · exact sameVisible_refl _

/-- The destinations told of are those that show a change. -/
def Shown (s u : State) (order : List DestId) : Prop := ∀ d ∈ order, sameVisible (s.dest d) (u.dest d) = false

/-- One destination that is told of, where it shows a change. -/
theorem Tells.offered {d : DestId} {s u : State} (h : Tells d s u) : ∃ order, Offered s u order ∧ Shown s u order := by
  cases hv : sameVisible (s.dest d) (u.dest d) with
  | false =>
    refine ⟨[d], ?_, by simpa [Shown] using hv⟩
    exact (offered_nil (u := s) rfl rfl fun _ => sameVisible_refl _).tell (by simp) h
  | true =>
    refine ⟨[], ⟨List.nodup_nil, h.links, fun x _ => ?_, fun st => ?_⟩, by simp [Shown]⟩
    · by_cases hx : x = d
      · rw [hx]; exact hv
      · rw [h.others x hx]; exact sameVisible_refl _
    · rw [h.queue, destNotice_invisible hv, ite_self, List.foldl_nil, ite_self]

theorem Tells.destNotices_event {d : DestId} {s u : State} (h : Tells d s u) : DestNotices none s (settle u) := by
  obtain ⟨_, offered, -⟩ := h.offered
  exact offered.destNotices_event

theorem Told.offered {s u : State} (h : Told s u) : ∃ order, Offered s u order ∧ Shown s u order := by
  obtain ⟨order, h⟩ := h
  exact ⟨order, h.offered, fun d hd => (h.shown d).mp hd⟩

end Sys2Proof.Machine
end

section
/-! SUPPORT. The chute block and the rack sensors: what each brings to its destination, to the entries bound for it and to its owner (R92, R107, R108, R114, R148, R149). -/

namespace Sys2Proof.Machine

/-! ### The chute block (R148, R149) -/

theorem levelDestBlocked_iff (s : State) : levelDestBlocked s = true ↔ ∃ x : DestId, (s.dest x).holds.blocked = true := by
  simp [levelDestBlocked, mem_allDests]

/-- DEST_BLOCKED is set while any destination carries BLOCKED (R107). -/
theorem settle_level_blocked (s : State) : (settle s).bank.levels.getLsbD 8 = levelDestBlocked s := by
  rw [settle_levels, condLevels, BitVec.getLsbD_ofNat, testBit_packBits]; rfl

/-- A change of one record that its owner keeps is told to the owner, and touches no other destination. -/
theorem changeDest_frame (d : DestId) (f : Dest → Dest) (s : State) :
    SameExcept [.dests, .notices] s (changeDest d f s) ∧ SameOtherDests s (changeDest d f s) d
      ∧ (changeDest d f s).dest d = f (s.dest d) :=
  ⟨sameExcept_of_untold (changeDest_untold d f s), fun x hx => by rw [changeDest_dest, if_neg hx],
    by rw [changeDest_dest, if_pos rfl]⟩

/-- Settles O33: BLOCKED comes as a rerouting hold, and goes as a change of the one record. -/
theorem chuteBlockComesAndGoes : Obligations.ChuteBlockComesAndGoes := by
  intro s d hr
  refine ⟨fun eye ms free => ?_, fun eye ms held => ?_⟩
  · have due : blockDue s d = true := by simp [blockDue, eye, ms, free]
    have he : exec (.chuteBlock d) s = .next (settle (gainRerouting Holds.blocked setBlocked [d] s)) :=
      exec_due (c := .chuteBlock d) rfl hr due
    have moved := gainRerouting_rebooked (set := setBlocked) free d
    rw [if_pos rfl] at moved
    have told : Told s (gainRerouting Holds.blocked setBlocked [d] s) :=
      (told_refl s).gainRerouting Holds.blocked within_setBlocked [d]
    refine ⟨_, he, ((gainRerouting_frame _ _ _ s).mono (by simp)).settled, ?_, ?_, ?_, ?_, ?_, told.destNotices_event,
      fun law => ?_⟩
    · rw [settle_dest, moved.holds]; rfl
    · rw [settle_dest, moved.awaiting]
    · rw [settle_dest, moved.free]
    · rw [settle_dest, moved.owner]
    · rw [settle_level_blocked, levelDestBlocked_iff]
      exact ⟨d, by rw [moved.holds]; rfl⟩
    · obtain ⟨⟨-, names⟩, shape, -⟩ := law
      exact (gainRerouting_movedOff names shape free within_setBlocked (by simp [setBlocked])).map_eq (settle_map _)
  · have due : blockClearDue s d = true := by simp [blockClearDue, eye, ms, held]
    have he : exec (.chuteBlockClear d) s = .next (settle (changeDest d loseBlocked s)) :=
      exec_due (c := .chuteBlockClear d) rfl hr due
    obtain ⟨frame, others, self⟩ := changeDest_frame d loseBlocked s
    refine ⟨_, he, frame.settled, ?_, fun x hx => ?_, (tells_changeDest d loseBlocked s rfl).destNotices_event, ?_⟩
    · rw [settle_dest, self]; rfl
    · rw [settle_dest, others x hx]
    · rw [settle_level_blocked, levelDestBlocked_iff]
      refine exists_congr fun x => ?_
      by_cases hx : x = d
      · subst hx; rw [self]; simp [loseBlocked]
      · rw [others x hx]; simp [hx]

/-! ### What the filtered rack sensor brings (R108) -/

/-- A record that the outcome of the filter has changed, before entries move. -/
def RackOutcome.record (o : RackOutcome) (r : Dest) : Dest :=
  match o with
  | .nothing => r
  | .setLevel => { r with holds := setFull r.holds }
  | .clearLevel => loseFull r
  | .latch => { r with rearm := .waitingForClear, holds := setFull r.holds }

/-- FULL is what an outcome may change of the holds. -/
theorem RackOutcome.record_holds (o : RackOutcome) (r : Dest) :
    (o.record r).holds = { r.holds with full := (o.record r).holds.full } := by
  cases o <;> rfl

theorem setFull_of_full {h : Holds} (full : h.full = true) : setFull h = h := by
  simp [setFull, ← full]

section
variable (d : DestId) (o : RackOutcome) (s : State)

/-- The record of the destination after an outcome: R_d and a DRAINING state follow the entries that FULL moves off. -/
theorem applyRack_rebooked : (o.record (s.dest d)).Rebooked True ((applyRack d o s).dest d) := by
  cases o with
  | nothing => exact .refl _ _
  | setLevel => exact gainRerouting_self setFull_of_full
  | clearLevel =>
    rw [applyRack, (changeDest_frame d loseFull s).2.2]
    exact .refl _ _
  | latch =>
    have moved := gainRerouting_self (c := Holds.full) (set := setFull) (d := d)
      (s := s.modDest d fun r => { r with rearm := .waitingForClear }) setFull_of_full
    rw [modDest_dest_self] at moved
    exact moved

/-- An outcome is told to the owner where it changes FULL, and so is what follows for other destinations. -/
theorem applyRack_offered : ∃ order, Offered s (applyRack d o s) order ∧ Shown s (applyRack d o s) order := by
  cases o with
  | nothing => exact (told_refl s).offered
  | setLevel => exact ((told_refl s).gainRerouting Holds.full within_setFull [d]).offered
  | clearLevel => exact (tells_changeDest d loseFull s rfl).offered
  | latch =>
    have told : Told s (s.modDest d fun r => { r with rearm := .waitingForClear }) :=
      (told_refl s).invisible rfl rfl (modDest_invisible fun r => sameVisible_refl r)
    exact (told.gainRerouting Holds.full within_setFull [d]).offered

theorem modDest_frame (f : Dest → Dest) : SameExcept [.dests] s (s.modDest d f) :=
  sameExcept_of_front rfl (by simp [frontBlocks, Block.same])

theorem applyRack_frame : SameExcept [.counters, .dests, .map, .gates, .notices] s (applyRack d o s) := by
  cases o with
  | nothing => exact sameExcept_refl _ s
  | setLevel => exact gainRerouting_frame _ _ _ s
  | clearLevel => exact (changeDest_frame d loseFull s).1.mono (by simp)
  | latch => exact ((modDest_frame d s _).mono (by simp)).trans (gainRerouting_frame _ _ _ _)

end

/-- The entries bound for a destination that gains FULL are moved off it (R92, R107). -/
theorem applyRack_movedOff {d : DestId} {o : RackOutcome} {s : State} (law : RouteLaw s)
    (full : (s.dest d).holds.full = false) (gains : o = .setLevel ∨ o = .latch) : MovedOff [d] s (applyRack d o s) := by
  obtain ⟨⟨-, names⟩, shape, -⟩ := law
  rcases gains with rfl | rfl
  · exact gainRerouting_movedOff names shape full within_setFull (by simp [setFull])
  · have same : ∀ x, sameVisible (s.dest x) ((s.modDest d fun r => { r with rearm := .waitingForClear }).dest x) = true :=
      modDest_invisible fun r => sameVisible_refl r
    have moved := gainRerouting_movedOff (c := Holds.full) (set := setFull) (d := d)
      (s := s.modDest d fun r => { r with rearm := .waitingForClear }) names shape
      (by rw [modDest_dest_self]; exact full) within_setFull (by simp [setFull])
    exact moved.since rfl fun x => Dest.advances_of_sameVisible (same x)

/-! ### The outcome by the mode (R108) -/

section
variable {r : Dest} {asserted : Bool} (hc : r.configured = true) (hm : 50 ≤ r.rackMs)
include hc hm

/-- In LEVEL mode FULL follows the input. -/
theorem rackOutcome_level (mode : r.mode = .level) : rackOutcome asserted r
    = if asserted = r.holds.full then .nothing else if asserted = true then .setLevel else .clearLevel := by
  simp only [rackOutcome, hc, hm, mode]
  cases asserted <;> cases r.holds.full <;> rfl

/-- In EDGE mode an armed sensor latches. -/
theorem rackOutcome_edge (mode : r.mode = .edge) : rackOutcome asserted r
    = if asserted = true ∧ r.rearm = .armed then .latch else .nothing := by
  simp only [rackOutcome, hc, hm, mode, true_and, if_true]

theorem rackOutcome_level_full (mode : r.mode = .level) :
    ((rackOutcome asserted r).record r).holds.full = asserted := by
  rw [rackOutcome_level hc hm mode]
  split_ifs with same on
  · exact same.symm
  · exact on.symm
  · exact (eq_false_of_ne_true on).symm

end

/-! ### The two commands of a rack sensor (R108) -/

/-- An edge of a rack sensor starts the filter of a configured destination afresh, and in EDGE mode re-arms at a clear input. -/
theorem rackEdge_eq (b : Bool) (r : Dest) : rackEdge b r
    = if r.configured = false then r
      else if r.mode = .edge ∧ b = false then { r with rackMs := 0, rearm := .armed }
      else { r with rackMs := 0 } := by
  unfold rackEdge
  cases r.configured
  · rfl
  · by_cases h : r.mode = .edge ∧ b = false <;> simp [h]

theorem exec_rackSensorChange {s : State} {d : DestId} {b : Bool} (hr : s.inReset = false) (h : s.rackSensor d = !b) :
    exec (.rackSensorChange d b) s = .next (settle ((setRackSensor d b s).modDest d (rackEdge b))) := by
  have edge : s.rackSensor d ≠ b := by rw [h]; cases b <;> simp
  rw [exec_input (c := .rackSensorChange d b) rfl hr, if_neg edge]

theorem exec_rackSensorSettled {s : State} {d : DestId} (hr : s.inReset = false) : exec (.rackSensorSettled d) s
    = .next (settle (applyRack d (rackOutcome (s.rackSensor d) (s.dest d)) s)) :=
  exec_event (c := .rackSensorSettled d) rfl hr

/-- Settles O34: the raw edge, and the outcome of the filter in either mode. -/
theorem rackSensorMovesFull : Obligations.RackSensorMovesFull := by
  intro s d hr
  refine ⟨fun b h => ?_, fun hc hm => ?_⟩
  · have pin : ∀ x, (setRackSensor d b s).dest x = s.dest x := fun _ => rfl
    refine ⟨_, exec_rackSensorChange hr h, SameExcept.settled (sameExcept_of_front rfl ?_), ?_, fun x hx => ?_, ?_⟩
    · simp [frontBlocks, Block.same, setRackSensor]
    · rw [settle_pins]; rfl
    · rw [settle_dest, modDest_dest_ne _ _ _ _ hx, pin]
    · rw [settle_dest, modDest_dest_self, pin, rackEdge_eq]
  · obtain ⟨o, ho⟩ : ∃ o, rackOutcome (s.rackSensor d) (s.dest d) = o := ⟨_, rfl⟩
    have he := exec_rackSensorSettled (d := d) hr
    rw [ho] at he
    have moved := applyRack_rebooked d o s
    obtain ⟨_, offered, -⟩ := applyRack_offered d o s
    have owner : (o.record (s.dest d)).owner = (s.dest d).owner ∧ (o.record (s.dest d)).free = (s.dest d).free := by
      cases o <;> exact ⟨rfl, rfl⟩
    have full := rackOutcome_level_full (asserted := s.rackSensor d) hc hm
    have level := rackOutcome_level (asserted := s.rackSensor d) hc hm
    have edge := rackOutcome_edge (asserted := s.rackSensor d) hc hm
    rw [ho] at full level edge
    refine ⟨_, he, ((applyRack_frame d o s).mono (by simp)).settled, ?_, ?_, offered.destNotices_event, ?_, fun mode => ?_,
      fun law empty on armed => ?_, fun mode off => ?_, fun mode on armed => ?_, fun mode rest => ?_⟩
    · rw [settle_dest, moved.owner, owner.1]
    · rw [settle_dest, moved.free, owner.2]
    · rw [settle_dest, moved.holds]; exact o.record_holds _
    · rw [settle_dest, moved.holds, full mode]
    · refine (applyRack_movedOff law empty ?_).map_eq (settle_map _)
      cases mode : (s.dest d).mode with
      | level => exact .inl (by rw [level mode, on, empty]; rfl)
      | edge => exact .inr (by rw [edge mode, if_pos ⟨on, armed.resolve_left (by simp [mode])⟩])
    · rw [off] at level
      have lowered : o = .nothing ∨ o = .clearLevel := by
        rw [level mode]
        cases (s.dest d).holds.full <;> simp
      rcases lowered with rfl | rfl
      · exact ⟨(sameExcept_refl _ s).settled, fun x _ => settle_dest s x⟩
      · obtain ⟨frame, others, -⟩ := changeDest_frame d loseFull s
        exact ⟨frame.settled, fun x hx => (settle_dest _ x).trans (others x hx)⟩
    · have latched : o = .latch := by rw [edge mode, if_pos ⟨on, armed⟩]
      subst latched
      rw [settle_dest, moved.holds, moved.rearm]
      exact ⟨rfl, rfl⟩
    · have quiet : o = .nothing := by
        rw [edge mode, if_neg]
        rintro ⟨on, armed⟩
        rcases rest with off | waiting
        · rw [on] at off; cases off
        · rw [armed] at waiting; cases waiting
      subst quiet
      exact (sameExcept_refl _ s).settled

end Sys2Proof.Machine
end

section
/-! SUPPORT. The end of a record that awaits confirm: the completed release that may follow, the notice to the owner, and how the two stand beside the DEST-STATE notices of the same event (R106, R114, R146, R147, R174, R175). -/

namespace Sys2Proof.Machine

/-! ### A final notice behind a mark (R174, R175) -/

/-- A list without an earlier final notice for d. -/
def withoutLast (d : DestId) (l : List DestItem) : List DestItem := l.filter fun i => !i.isLast d

/-- A mark of d becomes the final notice. -/
def DestItem.asLast (d : DestId) (payload : List Byte) (i : DestItem) : DestItem :=
  if i = .mark d then .lastNotice d payload else i

section
variable {d x : DestId} (payload : List Byte) {l : List DestItem}

theorem mark_mem_withoutLast : .mark x ∈ withoutLast d l ↔ .mark x ∈ l := by
  simp [withoutLast, DestItem.isLast]

theorem withoutLast_snoc (d x : DestId) (l : List DestItem) :
    withoutLast d (l ++ [.mark x]) = withoutLast d l ++ [.mark x] := by
  rw [withoutLast, List.filter_append]; rfl

theorem addLastNotice_of_mem (h : .mark d ∈ l) :
    addLastNotice d payload l = (withoutLast d l).map (DestItem.asLast d payload) :=
  if_pos (List.contains_iff_mem.mpr (mark_mem_withoutLast.mpr h))

theorem addLastNotice_of_not_mem (h : .mark d ∉ l) :
    addLastNotice d payload l = withoutLast d l ++ [.lastNotice d payload] :=
  if_neg fun k => h (mark_mem_withoutLast.mp (List.contains_iff_mem.mp k))

theorem addMark_of_not_mem (h : .mark d ∉ l) : addMark d l = l ++ [.mark d] :=
  if_neg fun k => h (List.contains_iff_mem.mp k)

theorem map_asLast_of_not_mem (h : .mark d ∉ l) : l.map (DestItem.asLast d payload) = l :=
  (List.map_congr_left fun i hi => if_neg (by rintro rfl; exact h hi)).trans (List.map_id' l)

/-- A mark that has just joined becomes the final notice in its place, as if it had not joined first. -/
theorem addLastNotice_addMark : addLastNotice d payload (addMark d l) = addLastNotice d payload l := by
  by_cases h : .mark d ∈ l
  · rw [addMark_of_mem h]
  · have absent : .mark d ∉ withoutLast d l := fun k => h (mark_mem_withoutLast.mp k)
    rw [addLastNotice_of_mem payload (mem_addMark d l), addMark_of_not_mem h, withoutLast_snoc, List.map_append,
      map_asLast_of_not_mem payload absent, addLastNotice_of_not_mem payload h]
    simp [DestItem.asLast]

/-- The final notice takes the place of a mark that is there, so another mark may join before it or behind it. -/
theorem addLastNotice_addMark_ne (hx : x ≠ d) (h : .mark d ∈ l) :
    addLastNotice d payload (addMark x l) = addMark x (addLastNotice d payload l) := by
  have other : DestItem.asLast d payload (.mark x) = .mark x := if_neg fun e => hx (DestItem.mark.inj e)
  have same : .mark x ∈ addLastNotice d payload l ↔ .mark x ∈ l := by
    rw [addLastNotice_of_mem payload h, ← mark_mem_withoutLast (d := d) (l := l), List.mem_map]
    refine ⟨fun ⟨i, hi, hm⟩ => ?_, fun k => ⟨_, k, other⟩⟩
    unfold DestItem.asLast at hm
    split at hm
    · cases hm
    · rwa [← hm]
  by_cases k : .mark x ∈ l
  · rw [addMark_of_mem k, addMark_of_mem (same.mpr k)]
  · rw [addLastNotice_of_mem payload (addMark_subset x h), addMark_of_not_mem k, withoutLast_snoc, List.map_append,
      addMark_of_not_mem fun m => k (same.mp m), addLastNotice_of_mem payload h, List.map_singleton, other]

end

/-! ### A release that completes behind other changes (R106, R114, R175) -/

/-- Where no destination has left its owner, the notices owed are marks. -/
theorem destNotice_mark {s u : State} {x : DestId} (owner : (u.dest x).owner = (s.dest x).owner) (st : Station)
    (l : List DestItem) : destNotice s u st x l = l ∨ destNotice s u st x l = addMark x l := by
  unfold destNotice
  rw [owner]
  split
  · split
    · exact .inl rfl
    · exact .inr rfl
  · exact .inl rfl

theorem mark_mem_destNotice {s u : State} {x d : DestId} (owner : (u.dest x).owner = (s.dest x).owner) (st : Station)
    {l : List DestItem} (h : .mark d ∈ l) : .mark d ∈ destNotice s u st x l := by
  rcases destNotice_mark owner st l with k | k <;> rw [k]
  · exact h
  · exact addMark_subset x h

/-- The final notice of d may be told where d's mark is there, or behind the marks of others. -/
theorem addLastNotice_foldl {s u : State} (owner : ∀ x, (u.dest x).owner = (s.dest x).owner) (st : Station) {d : DestId}
    (payload : List Byte) (order : List DestId) (hd : d ∉ order) : ∀ l : List DestItem, .mark d ∈ l →
      addLastNotice d payload (order.foldl (fun l x => destNotice s u st x l) l)
        = order.foldl (fun l x => destNotice s u st x l) (addLastNotice d payload l) := by
  induction order with
  | nil => exact fun _ _ => rfl
  | cons x order ih =>
    intro l h
    simp only [List.mem_cons, not_or] at hd
    rw [List.foldl_cons, List.foldl_cons, ih hd.2 _ (mark_mem_destNotice (owner x) st h)]
    congr 1
    unfold destNotice
    rw [owner]
    split
    · split
      · rfl
      · exact addLastNotice_addMark_ne payload (Ne.symm hd.1) h
    · rfl

/-- A release that completes as the last of an event's changes is told to the former owner, in the place of the mark that an earlier change of the event has brought or, without one, behind the others. -/
theorem Offered.released {s u : State} {order : List DestId} (h : Offered s u order) (shown : Shown s u order)
    (owner : ∀ x, (u.dest x).owner = (s.dest x).owner) (d : DestId) :
    ∃ order, Offered s (completeRelease d u) order := by
  have tells := tells_completeRelease d u
  by_cases hd : d ∈ order
  · refine ⟨order, h.nodup, tells.links.trans h.links, fun x hx => ?_, fun st => ?_⟩
    · rw [tells.others x fun e => hx (e ▸ hd)]
      exact h.others x hx
    · obtain ⟨before, after, rfl⟩ := List.append_of_mem hd
      obtain ⟨-, tail, apart⟩ := List.nodup_append.mp h.nodup
      have fresh : d ∉ before := fun k => apart d k d List.mem_cons_self rfl
      have fresh' : d ∉ after := (List.nodup_cons.mp tail).1
      have others : ∀ l : List DestId, d ∉ l → ∀ m, l.foldl (fun l x => destNotice s (completeRelease d u) st x l) m
          = l.foldl (fun l x => destNotice s u st x l) m := fun l hl m =>
        List.foldl_ext _ _ m fun m x hx => by
          have hne : x ≠ d := fun e => hl (e ▸ hx)
          unfold destNotice
          rw [tells.others x hne]
      rw [tells.queue, h.queue, hears_of_links h.links]
      by_cases hs : hears s st = true
      · simp only [hs, if_true, List.foldl_append, List.foldl_cons, others before fresh, others after fresh']
        obtain ⟨m, hm⟩ : ∃ m, before.foldl (fun l x => destNotice s u st x l) (s.noticeQueue st).dests = m := ⟨_, rfl⟩
        have released : ((completeRelease d u).dest d).owner = none := by
          rw [completeRelease_dest, if_pos rfl]; rfl
        rw [hm]
        by_cases ho : (s.dest d).owner = some (.station st)
        · have visible : sameVisible (s.dest d) (u.dest d) = false := shown d hd
          have marks : destNotice s u st d m = addMark d m := by
            simp [destNotice, owner, ho, visible]
          have last : ∀ v l, (u.dest d).owner = (v.dest d).owner → destNotice v (completeRelease d u) st d l
              = addLastNotice d (destStateBytes d ((completeRelease d u).dest d)) l := fun v l hv => by
            have hv' : (v.dest d).owner = some (.station st) := by rw [← hv, owner, ho]
            simp [destNotice, released, hv']
          rw [last u _ rfl, last s _ (owner d), marks, addLastNotice_foldl owner st _ after fresh' _ (mem_addMark d m),
            addLastNotice_addMark]
        · have quiet : ∀ v l, (v.dest d).owner = (s.dest d).owner →
              destNotice v (completeRelease d u) st d l = l := fun v l hv => by
            simp [destNotice, released, hv, ho]
          have quiet' : destNotice s u st d m = m := by simp [destNotice, owner, ho]
          rw [quiet u _ (owner d), quiet s _ rfl, quiet']
      · simp [hs]
  · exact ⟨_, h.tell hd tells⟩

/-- A resolution that may complete a release is told like it (R147). -/
theorem Offered.resolved {s u : State} {order : List DestId} (h : Offered s u order) (shown : Shown s u order)
    (owner : ∀ x, (u.dest x).owner = (s.dest x).owner) (d : DestId) : ∃ order, Offered s (settleEmptied d u) order := by
  unfold settleEmptied
  split
  · exact h.released shown owner d
  · exact ⟨order, h⟩

/-! ### The ARRIVAL notice (R146, R174) -/

/-- The places of a station once an ARRIVAL of d has been offered to d's owner. -/
def arrivalPlaces (d : DestId) (a : Awaiting) (confirmed : Bool) (s : State) (st : Station) : List Notice :=
  if (s.dest d).owner = some (.station st) ∧ hears s st = true ∧ (s.noticeQueue st).places.length < 16 then
    (s.noticeQueue st).places ++ [.arrival d a.tag a.cls a.owner confirmed]
  else (s.noticeQueue st).places

/-- The ARRIVAL of d at a station that owns d, hears, and has 16 places held is discarded. -/
def arrivalDropped (d : DestId) (s : State) (st : Station) : Prop :=
  (s.dest d).owner = some (.station st) ∧ hears s st = true ∧ 16 ≤ (s.noticeQueue st).places.length

section
variable (d : DestId) (a : Awaiting) (confirmed : Bool) (s : State)

/-- An offered ARRIVAL takes a place of the owner's, or is counted as discarded, or goes nowhere. -/
theorem offerArrival_cases :
    (∃ st, (s.dest d).owner = some (.station st) ∧ hears s st = true ∧ (s.noticeQueue st).places.length < 16
        ∧ offerArrival d a confirmed s = s.modNotices st fun q =>
            { q with places := q.places ++ [.arrival d a.tag a.cls a.owner confirmed] })
      ∨ (∃ st, arrivalDropped d s st
        ∧ offerArrival d a confirmed s = s.raise (.ofPort (.sender (.station st)) .noticesDropped))
      ∨ (∀ st, ¬((s.dest d).owner = some (.station st) ∧ hears s st = true)) ∧ offerArrival d a confirmed s = s := by
  unfold offerArrival offerNotice
  split
  · next st ho =>
    split
    · next hh =>
      split
      · next hp => exact .inl ⟨st, ho, hh, hp, rfl⟩
      · next hp => exact .inr (.inl ⟨st, ⟨ho, hh, by omega⟩, rfl⟩)
    · next hh =>
      refine .inr (.inr ⟨fun x hx => hh ?_, rfl⟩)
      rw [ho] at hx
      cases hx.1
      exact hx.2
  · next ho => exact .inr (.inr ⟨fun x hx => (nomatch ho ▸ hx.1), rfl⟩)
  · next ho => exact .inr (.inr ⟨fun x hx => (nomatch ho ▸ hx.1), rfl⟩)

theorem offerArrival_noticeQueue (st : Station) : (offerArrival d a confirmed s).noticeQueue st
    = { s.noticeQueue st with places := arrivalPlaces d a confirmed s st } := by
  unfold arrivalPlaces
  obtain ⟨x, ho, hh, hp, h⟩ | ⟨x, ⟨ho, hh, hp⟩, h⟩ | ⟨no, h⟩ := offerArrival_cases d a confirmed s <;> rw [h]
  · rw [modNotices_noticeQueue]
    split
    · next e => subst e; rw [if_pos ⟨ho, hh, hp⟩]
    · next e => rw [if_neg fun k => e (by simpa [ho, eq_comm] using k.1)]
  · rw [raise_noticeQueue, if_neg]
    rintro ⟨ho', -, hp'⟩
    rw [ho] at ho'
    cases ho'
    omega
  · rw [if_neg fun k => no st ⟨k.1, k.2.1⟩]

theorem offerArrival_dests : (offerArrival d a confirmed s).dests = s.dests := by
  obtain ⟨x, -, -, -, h⟩ | ⟨x, -, h⟩ | ⟨-, h⟩ := offerArrival_cases d a confirmed s <;> rw [h] <;> rfl

theorem offerArrival_map : (offerArrival d a confirmed s).map = s.map := by
  obtain ⟨x, -, -, -, h⟩ | ⟨x, -, h⟩ | ⟨-, h⟩ := offerArrival_cases d a confirmed s <;> rw [h] <;> rfl

theorem offerArrival_frame : SameExcept [.counters, .notices] s (offerArrival d a confirmed s) := by
  obtain ⟨x, -, -, -, h⟩ | ⟨x, -, h⟩ | ⟨-, h⟩ := offerArrival_cases d a confirmed s <;> rw [h]
  · exact sameExcept_of_kept rfl (fun _ => rfl) (fun _ => rfl) (fun _ => rfl) (fun _ => rfl) (by simp) (fun _ => rfl)
      fun _ => ⟨rfl, rfl, rfl⟩
  · exact (sameExcept_raise _ s).mono (by simp)
  · exact sameExcept_refl _ s

/-- Only NOTICES_DROPPED may rise. -/
theorem offerArrival_counter {c : Counter} (hc : ∀ p, c ≠ .ofPort p .noticesDropped) :
    (offerArrival d a confirmed s).counter c = s.counter c := by
  obtain ⟨x, -, -, -, h⟩ | ⟨x, -, h⟩ | ⟨-, h⟩ := offerArrival_cases d a confirmed s <;> rw [h]
  · rfl
  · rw [raise_counter, if_neg (hc _)]

theorem offerArrival_dropped {st : Station} (h : arrivalDropped d s st) :
    offerArrival d a confirmed s = s.raise (.ofPort (.sender (.station st)) .noticesDropped) := by
  obtain ⟨ho, hh, hp⟩ := h
  have hp' : ¬(s.noticeQueue st).places.length < 16 := by omega
  simp [offerArrival, offerNotice, ho, hh, hp']

/-! ### A release completed behind the ARRIVAL (R147) -/

theorem settleEmptied_untold : (settleEmptied d s).untold = s.untold := by
  unfold settleEmptied
  split
  · exact completeRelease_untold d s
  · rfl

theorem settleEmptied_counter (c : Counter) : (settleEmptied d s).counter c = s.counter c := by
  simp only [State.counter, bank_of_untold (settleEmptied_untold d s)]

theorem settleEmptied_dest (x : DestId) : (settleEmptied d s).dest x
    = if x = d ∧ (s.dest d).awaiting = [] ∧ (s.dest d).state = .releasing then
        releasedRecord (s.rackSensor d) (s.dest d)
      else s.dest x := by
  unfold settleEmptied
  by_cases h : (s.dest d).awaiting = [] ∧ (s.dest d).state = .releasing
  · rw [if_pos h, completeRelease_dest]; simp only [h, and_self, and_true]
  · rw [if_neg h, if_neg fun k => h k.2]

/-- The release reads no notice place, so the ARRIVAL takes its place beside it as if it had come behind it. -/
theorem settleEmptied_offerArrival :
    (settleEmptied d (offerArrival d a confirmed s)).links = (settleEmptied d s).links
      ∧ (settleEmptied d (offerArrival d a confirmed s)).dests = (settleEmptied d s).dests
      ∧ ∀ st, (settleEmptied d (offerArrival d a confirmed s)).noticeQueue st
          = { (settleEmptied d s).noticeQueue st with places := arrivalPlaces d a confirmed s st } := by
  obtain ⟨u, hu⟩ : ∃ u, u = offerArrival d a confirmed s := ⟨_, rfl⟩
  have dests : u.dests = s.dests := hu ▸ offerArrival_dests d a confirmed s
  have links : u.links = s.links := hu ▸ links_of_kept (offerArrival_kept d a confirmed s)
  have pins : u.pins = s.pins := hu ▸ pins_of_kept (offerArrival_kept d a confirmed s)
  have queue := fun st => offerArrival_noticeQueue d a confirmed s st
  rw [← hu] at queue ⊢
  have dest : ∀ x, u.dest x = s.dest x := fun x => by simp only [State.dest, dests]
  have rack : u.rackSensor d = s.rackSensor d := by simp only [State.rackSensor, pins]
  unfold settleEmptied
  rw [dest]
  split
  · have same : ∀ x, (completeRelease d u).dest x = (completeRelease d s).dest x := fun x => by
      rw [completeRelease_dest, completeRelease_dest, dest, dest, rack]
    refine ⟨?_, Vector.ext fun i hi => same ⟨i, hi⟩, fun st => ?_⟩
    · rw [(tells_completeRelease d u).links, (tells_completeRelease d s).links, links]
    · have told : ∀ l, destNotice u (completeRelease d u) st d l = destNotice s (completeRelease d s) st d l := fun l => by
        unfold destNotice
        rw [same, dest]
      rw [(tells_completeRelease d u).queue, (tells_completeRelease d s).queue, hears_of_links links, queue]
      simp only [told]
  · exact ⟨links, dests, queue⟩

end

/-- The notices of an event that resolves a record of d: those of the destinations, and the ARRIVAL to d's owner, whether or not the resolution completes a release. -/
theorem Offered.arrivalNotices {s w : State} {order : List DestId} (h : Offered s w order) (shown : Shown s w order)
    (owner : ∀ x, (w.dest x).owner = (s.dest x).owner) (d : DestId) (a : Awaiting) (confirmed : Bool) :
    ArrivalNotices d a confirmed s (settle (settleEmptied d (offerArrival d a confirmed w))) := by
  obtain ⟨_, told⟩ := h.resolved shown owner d
  obtain ⟨links, dests, queue⟩ := settleEmptied_offerArrival d a confirmed w
  have hears : ∀ st, hears (settle (settleEmptied d (offerArrival d a confirmed w))) st = Machine.hears s st :=
    fun st => by rw [hears_settle, hears_of_links (links.trans told.links)]
  have places : ∀ st, (w.noticeQueue st).places = (s.noticeQueue st).places := fun st => by rw [h.queue]
  have offers := told.noticesOffered (places := arrivalPlaces d a confirmed w) links dests queue
  unfold ArrivalNotices
  simp only [hears]
  have same : (fun st => arrivalPlaces d a confirmed w st) = fun st =>
      if (s.dest d).owner = some (.station st) ∧ Machine.hears s st = true ∧ (s.noticeQueue st).places.length < 16 then
        (s.noticeQueue st).places ++ [.arrival d a.tag a.cls a.owner confirmed]
      else (s.noticeQueue st).places := funext fun st => by
    unfold arrivalPlaces
    rw [owner, hears_of_links h.links, places]
  rw [← same]
  exact offers

/-- A busy port takes no notice as the event ends, so the owner's places are those with the ARRIVAL. -/
theorem ArrivalNotices.places_busy {d : DestId} {a : Awaiting} {confirmed : Bool} {s t : State}
    (h : ArrivalNotices d a confirmed s t) (hears : ∀ st, hears t st = Machine.hears s st) {st : Station}
    (busy : (s.link (.station st)).sending ≠ none) :
    (t.noticeQueue st).places = arrivalPlaces d a confirmed s st := by
  obtain ⟨order, -, each⟩ := h
  have free : freeForNotice none s st = false := by simp [freeForNotice, busy]
  have := ((each st).2 (.inr free)).2
  dsimp only at this
  rwa [hears] at this

end Sys2Proof.Machine
end

section
/-! SUPPORT. Confirms and misses: the account of a record that is resolved, what follows for its destination, and the notice to its owner (R80, R102, R106, R142 to R147). -/

namespace Sys2Proof.Machine

/-! ### A resolution (R146, R147) -/

/-- How a resolution ends: the ARRIVAL is offered, and a release that has waited for it completes. -/
def resolve (d : DestId) (a : Awaiting) (confirmed : Bool) (s : State) : State :=
  settleEmptied d (offerArrival d a confirmed s)

section
variable (d : DestId) (a : Awaiting) (confirmed : Bool) (s : State)

theorem resolve_dest (x : DestId) : (resolve d a confirmed s).dest x
    = if x = d ∧ (s.dest d).awaiting = [] ∧ (s.dest d).state = .releasing then
        releasedRecord (s.rackSensor d) (s.dest d)
      else s.dest x := by
  have dests := (settleEmptied_offerArrival d a confirmed s).2.1
  rw [← settleEmptied_dest]
  simp only [resolve, State.dest, dests]

theorem resolve_others (x : DestId) (hx : x ≠ d) : (resolve d a confirmed s).dest x = s.dest x := by
  rw [resolve_dest, if_neg fun k => hx k.1]

/-- The record completes a release where it was the last of a RELEASING destination. -/
theorem resolve_self : (resolve d a confirmed s).dest d
    = if (s.dest d).awaiting = [] ∧ (s.dest d).state = .releasing then releasedRecord (s.rackSensor d) (s.dest d)
      else s.dest d := by
  simp only [resolve_dest, true_and]

theorem resolve_map : (resolve d a confirmed s).map = s.map :=
  (map_of_untold (settleEmptied_untold d _)).trans (offerArrival_map d a confirmed s)

theorem resolve_frame : SameExcept [.dests, .counters, .notices] s (resolve d a confirmed s) :=
  ((offerArrival_frame d a confirmed s).mono (by simp)).trans
    ((sameExcept_of_untold (settleEmptied_untold d _)).mono (by simp))

theorem resolve_counter {c : Counter} (hc : ∀ p, c ≠ .ofPort p .noticesDropped) :
    (resolve d a confirmed s).counter c = s.counter c := by
  rw [resolve, settleEmptied_counter, offerArrival_counter d a confirmed s hc]

/-- With all 16 places of the owner held, NOTICES_DROPPED of its port rises. -/
theorem resolve_dropped {st : Station} (h : arrivalDropped d s st) :
    (resolve d a confirmed s).counter (.ofPort (.sender (.station st)) .noticesDropped)
      = min (s.counter (.ofPort (.sender (.station st)) .noticesDropped) + 1) 65535 := by
  rw [resolve, settleEmptied_counter, offerArrival_dropped d a confirmed s h, raise_counter_self]

theorem hears_resolve (st : Station) : hears (settle (resolve d a confirmed s)) st = hears s st := by
  rw [hears_settle, hears_of_links]
  exact (links_of_kept (settleEmptied_kept d _)).trans (links_of_kept (offerArrival_kept d a confirmed s))

end

/-- A confirmed record is resolved once its account has moved (R142). -/
theorem sighting_confirms {d : DestId} {s : State} {a : Awaiting} {rest : List Awaiting}
    (h : (s.dest d).awaiting = a :: rest) :
    sighting d s = resolve d a true ((unreserve d (changeDest d confirmedRecord s)).raiseDest d .arrived) := by
  simp only [sighting, h, resolve]

/-- So is a missed one, once the miss has been counted (R144, R145). -/
theorem miss_resolves {d : DestId} {s : State} {a : Awaiting} {place : Nat} (h : (s.dest d).awaiting[place]? = some a) :
    miss d place s = resolve d a false (countMiss d ((unreserve d
      (s.modDest d fun r => { r with awaiting := r.awaiting.eraseIdx place })).raiseDest d .misses)) := by
  simp only [miss, h, resolve]

/-! ### Two changes of one destination, told as one (R114, R174) -/

/-- A change that no notice shows, and then one that is told: of one destination, the whole is told. -/
theorem Tells.behind {d : DestId} {s u v : State} (k : Tells d u v) (links : u.links = s.links)
    (notices : u.notices = s.notices) (others : SameOtherDests s u d)
    (same : sameVisible (s.dest d) (u.dest d) = true) : Tells d s v where
  links := k.links.trans links
  others x hx := (k.others x hx).trans (others x hx)
  queue st := by
    have told : ∀ l, destNotice u v st d l = destNotice s v st d l := fun l => by
      unfold destNotice
      rw [sameVisible_congr same, ((sameVisible_iff _ _).mp same).2.1]
    have queue : u.noticeQueue st = s.noticeQueue st := by simp only [State.noticeQueue, notices]
    rw [k.queue, hears_of_links links, queue, told]

/-- A change of F_d, and then one of the state: of one destination that stays with its owner, the two marks are one. -/
theorem Tells.thenState {d : DestId} {s u v : State} (h : Tells d s u) (k : Tells d u v)
    (first : (u.dest d).owner = (s.dest d).owner ∧ (u.dest d).state = (s.dest d).state
      ∧ (u.dest d).holds = (s.dest d).holds)
    (second : (v.dest d).owner = (u.dest d).owner ∧ (v.dest d).free = (u.dest d).free
      ∧ (v.dest d).holds = (u.dest d).holds) : Tells d s v where
  links := k.links.trans h.links
  others x hx := (k.others x hx).trans (h.others x hx)
  queue st := by
    obtain ⟨owner, state, holds⟩ := first
    obtain ⟨owner', free, holds'⟩ := second
    have told : ∀ l, destNotice u v st d (destNotice s u st d l) = destNotice s v st d l := fun l => by
      have both : sameVisible (s.dest d) (v.dest d)
          = (sameVisible (s.dest d) (u.dest d) && sameVisible (u.dest d) (v.dest d)) := by
        simp only [sameVisible, owner, state, holds, owner', free, holds']
        simp [Bool.and_comm]
      unfold destNotice
      rw [both, owner', owner]
      by_cases ho : (s.dest d).owner = some (.station st)
      · cases sameVisible (s.dest d) (u.dest d) <;> cases sameVisible (u.dest d) (v.dest d) <;>
          simp [ho, addMark_of_mem (mem_addMark d l)]
      · simp [ho]
    rw [k.queue, h.queue, hears_of_links h.links]
    by_cases hs : hears s st = true <;> simp [hs, told]

theorem Tells.raise {d : DestId} {s u : State} (h : Tells d s u) (c : Counter) : Tells d s (u.raise c) :=
  ⟨h.links, h.others, h.queue⟩

/-- A reservation that is given back is told where it closes a DRAINING destination (R102, R114). -/
theorem tells_unreserve (d : DestId) (s : State) : Tells d s (unreserve d s) := by
  have others : SameOtherDests s (s.modDest d fun r => { r with reserved := r.reserved - 1 }) d := fun x hx =>
    modDest_dest_ne s d x _ hx
  have same := modDest_invisible (d := d) (f := fun r => { r with reserved := r.reserved - 1 }) (s := s)
    (fun r => (sameVisible_iff _ _).mpr ⟨rfl, rfl, rfl, rfl⟩) d
  unfold unreserve
  dsimp only
  split
  · exact (tells_changeDest d _ _ rfl).behind rfl rfl others same
  · exact (tells_refl d _).behind rfl rfl others same

/-! ### A confirm (R142, R143) -/

section
variable {s : State} {d : DestId}

/-- The state in which a sighting is taken: the eye is SEEN (R141). -/
def eyeSeen (d : DestId) (s : State) : State := s.modDest d fun r => { r with eye := .seen }

theorem exec_sighting (hr : s.inReset = false) (eye : (s.dest d).eye = .blocking) (ms : 20 ≤ (s.dest d).eyeMs) :
    exec (.confirmEyeSighting d) s = .next (settle (sighting d (eyeSeen d s))) := by
  have due : sightingDue s d = true := by simp [sightingDue, eye, ms]
  exact exec_due (c := .confirmEyeSighting d) rfl hr due

theorem eyeSeen_dest (x : DestId) : (eyeSeen d s).dest x = if x = d then { s.dest d with eye := .seen } else s.dest x :=
  modDest_dest ..

/-- The account of a confirmed arrival has moved, and ARRIVED has risen (R80, R142). -/
def confirmOldest (d : DestId) (s : State) : State :=
  (unreserve d (changeDest d confirmedRecord (eyeSeen d s))).raiseDest d .arrived

theorem confirmOldest_dest (x : DestId) : (confirmOldest d s).dest x
    = if x = d then freed 1 (confirmedRecord { s.dest d with eye := .seen }) else s.dest x := by
  have before : ∀ z, (changeDest d confirmedRecord (eyeSeen d s)).dest z
      = if z = d then confirmedRecord { s.dest d with eye := .seen } else s.dest z := fun z => by
    rw [changeDest_dest, eyeSeen_dest, eyeSeen_dest]
    split <;> simp_all
  rw [confirmOldest, raiseDest_eq, raise_dest, unreserve_dest, before, before, if_pos rfl]
  split <;> rfl

theorem confirmOldest_kept : (confirmOldest d s).kept = s.kept := by simp [confirmOldest, eyeSeen]

theorem confirmOldest_frame : SameExcept [.dests, .counters, .notices] s (confirmOldest d s) :=
  ((modDest_frame d s _).mono (by simp)).trans <|
    ((changeDest_frame d confirmedRecord _).1.mono (by simp)).trans <|
      ((sameExcept_of_untold (unreserve_untold d _)).mono (by simp)).trans ((sameExcept_raise _ _).mono (by simp))

theorem confirmOldest_counter (c : Counter) : (confirmOldest d s).counter c
    = if c = .ofDest d .arrived then min (s.counter c + 1) 65535 else s.counter c := by
  have before : (unreserve d (changeDest d confirmedRecord (eyeSeen d s))).counter c = s.counter c := by
    rw [unreserve_counter]
    simp only [State.counter, bank_of_untold (changeDest_untold d confirmedRecord _)]
    rfl
  rw [confirmOldest, raiseDest_eq, raise_counter, before]

/-- A change of F_d and of the state is told to the owner, once. -/
theorem tells_confirmOldest : Tells d s (confirmOldest d s) := by
  have same := modDest_invisible (d := d) (f := fun r => { r with eye := .seen }) (s := s)
    (fun r => (sameVisible_iff _ _).mpr ⟨rfl, rfl, rfl, rfl⟩) d
  have first : Tells d (eyeSeen d s) (changeDest d confirmedRecord (eyeSeen d s)) := tells_changeDest d _ _ rfl
  have second : Tells d (changeDest d confirmedRecord (eyeSeen d s)) (confirmOldest d s) :=
    (tells_unreserve d (changeDest d confirmedRecord (eyeSeen d s))).raise _
  refine (first.thenState second ?_ ?_).behind rfl rfl (fun x hx => modDest_dest_ne s d x _ hx) same
  · rw [(changeDest_frame d confirmedRecord _).2.2]
    exact ⟨rfl, rfl, rfl⟩
  · rw [confirmOldest_dest, (changeDest_frame d confirmedRecord _).2.2, if_pos rfl, eyeSeen_dest, if_pos rfl]
    exact ⟨rfl, rfl, rfl⟩

/-- The notices of a confirm. -/
theorem confirm_notices (a : Awaiting) : ArrivalNotices d a true s (settle (resolve d a true (confirmOldest d s))) := by
  obtain ⟨_, offered, shown⟩ := (tells_confirmOldest (s := s) (d := d)).offered
  refine offered.arrivalNotices shown (fun x => ?_) d a true
  rw [confirmOldest_dest]
  split
  · next h => subst h; rfl
  · rfl

end

/-- Settles O30: a stray where no record waits, and otherwise a confirm of the oldest with the release that may complete. -/
theorem sightingConfirmsOldestOrStrays : Obligations.SightingConfirmsOldestOrStrays := by
  intro s d hr eye ms
  have he := exec_sighting hr eye ms
  have queue : ((eyeSeen d s).dest d).awaiting = (s.dest d).awaiting := by rw [eyeSeen_dest, if_pos rfl]
  cases hw : (s.dest d).awaiting with
  | nil =>
    have stray : sighting d (eyeSeen d s) = (eyeSeen d s).raiseDest d .strays := by simp only [sighting, queue, hw]
    rw [stray] at he
    refine ⟨_, he, fun x hx => ?_, ?_, fun _ => ⟨SameExcept.settled ?_, ?_, ?_⟩, fun a rest h => by simp at h⟩
    · rw [settle_dest, raiseDest_eq, raise_dest, eyeSeen_dest, if_neg hx]
    · rw [settle_dest, raiseDest_eq, raise_dest, eyeSeen_dest, if_pos rfl]
    · exact ((modDest_frame d s _).mono (by simp)).trans ((sameExcept_raise _ _).mono (by simp))
    · exact Raised.settled (raised_raise (eyeSeen d s) _)
    · rw [settle_dest, raiseDest_eq, raise_dest, eyeSeen_dest, if_pos rfl]
  | cons a rest =>
    have he : exec (.confirmEyeSighting d) s = .next (settle (resolve d a true (confirmOldest d s))) := by
      rw [he, sighting_confirms (queue.trans hw)]
      rfl
    have notices := confirm_notices (s := s) (d := d) a
    have record : (confirmOldest d s).dest d = { s.dest d with
        eye := .seen, awaiting := rest, free := (s.dest d).free - 1, reserved := (s.dest d).reserved - 1, misses := 0
        state := if (s.dest d).state = .draining ∧ (s.dest d).reserved - 1 = 0 then .closed else (s.dest d).state } := by
      rw [confirmOldest_dest, if_pos rfl]
      simp [freed, confirmedRecord, hw]
    have last : ((confirmOldest d s).dest d).awaiting = [] ∧ ((confirmOldest d s).dest d).state = .releasing
        ↔ (s.dest d).state = .releasing ∧ rest = [] := by
      rw [record]
      dsimp only
      split <;> simp_all [and_comm]
    have rack : (confirmOldest d s).rackSensor d = s.rackSensor d := by
      simp only [State.rackSensor, pins_of_kept confirmOldest_kept]
    have self := resolve_self d a true (confirmOldest d s)
    simp only [last, rack] at self
    have hearing : ∀ st, hears (settle (resolve d a true (confirmOldest d s))) st = hears s st := fun st => by
      rw [hears_resolve, hears_of_links (links_of_kept confirmOldest_kept)]
    refine ⟨_, he, fun x hx => ?_, ?_, fun h => by simp at h, ?_⟩
    · rw [settle_dest, resolve_others _ _ _ _ x hx, confirmOldest_dest, if_neg hx]
    · rw [settle_dest, self]
      split <;> simp only [record, releasedRecord]
    · rintro a' rest' h
      obtain ⟨rfl, rfl⟩ := List.cons.inj h
      refine ⟨(confirmOldest_frame.trans (resolve_frame _ _ _ _)).settled, notices, ?_, ?_, ?_, ?_,
        fun st ho hh hp busy => ?_, fun st ho hh hp busy => ⟨?_, ?_⟩, fun waits => ?_, fun hs hr => ?_⟩
      · rw [settle_counter, resolve_counter _ _ _ _ (by simp), confirmOldest_counter, if_pos rfl]
      · rw [settle_dest, self]
        split <;> simp only [record, releasedRecord]
      · rw [settle_dest, self]
        split <;> simp only [record, releasedRecord]
      · rw [settle_dest, self]
        split <;> rw [record]
        exact ite_self _
      · rw [notices.places_busy hearing busy, arrivalPlaces, if_pos ⟨ho, hh, hp⟩]
      · rw [notices.places_busy hearing busy, arrivalPlaces, if_neg fun k => by omega]
      · have dropped : arrivalDropped d (confirmOldest d s) st := by
          obtain ⟨_, offered, -⟩ := (tells_confirmOldest (s := s) (d := d)).offered
          refine ⟨by rw [record]; exact ho, by rw [hears_of_links offered.links]; exact hh, ?_⟩
          rw [offered.queue]
          exact hp
        rw [settle_counter, resolve_dropped _ _ _ _ dropped, confirmOldest_counter, if_neg (by simp)]
      · rw [settle_dest, self, if_neg fun k => waits.elim (fun h => h k.1) fun h => h k.2, record]
      · rw [settle_dest, self, if_pos ⟨hs, hr⟩, record, hr]
        simp [releasedRecord, Dest.holdsReleased, Dest.rearmReleased]

end Sys2Proof.Machine
end

section
/-! SUPPORT. A miss: the record whose window ran out leaves the queue, the consecutive-miss count rises, and SILENT comes with the fourth (R107, R144 to R147). -/

namespace Sys2Proof.Machine

/-! ### The record that is missed (R144) -/

/-- The oldest record of a tag whose window has run out is found at its place. -/
theorem expiredPlace_eq {older newer : List Awaiting} {a : Awaiting} (left : a.leftMs = 0)
    (first : ∀ x ∈ older, x.tag ≠ a.tag ∨ x.leftMs ≠ 0) :
    expiredPlace (older ++ a :: newer) a.tag = some older.length := by
  have none : older.findIdx? (fun x => x.tag == a.tag && x.leftMs == 0) = none := by
    refine List.findIdx?_eq_none_iff.mpr fun x hx => ?_
    rcases first x hx with h | h <;> simp [h]
  simp [expiredPlace, List.findIdx?_append, none, List.findIdx?_cons, left]

/-- The queue without the missed record, its reservation given back, and MISSES risen (R144). -/
def takeMissed (d : DestId) (place : Nat) (s : State) : State :=
  (unreserve d (s.modDest d fun r => { r with awaiting := r.awaiting.eraseIdx place })).raiseDest d .misses

/-- The same with the consecutive-miss count risen (R145). -/
def missTaken (d : DestId) (place : Nat) (s : State) : State :=
  (takeMissed d place s).modDest d fun r => { r with misses := missCount r.misses }

/-- The record of a destination that has missed an arrival, before SILENT. -/
def missedRecord (place : Nat) (r : Dest) : Dest :=
  { freed 1 { r with awaiting := r.awaiting.eraseIdx place } with misses := missCount r.misses }

section
variable (d : DestId) (place : Nat) (s : State)

theorem takeMissed_dest (x : DestId) : (takeMissed d place s).dest x
    = if x = d then freed 1 { s.dest d with awaiting := (s.dest d).awaiting.eraseIdx place } else s.dest x := by
  rw [takeMissed, raiseDest_eq, raise_dest, unreserve_dest, modDest_dest_self, modDest_dest]
  split <;> simp_all

theorem missTaken_dest (x : DestId) :
    (missTaken d place s).dest x = if x = d then missedRecord place (s.dest d) else s.dest x := by
  rw [missTaken, modDest_dest, takeMissed_dest, takeMissed_dest, if_pos rfl]
  split
  · rfl
  · rfl

theorem missTaken_frame : SameExcept [.dests, .counters, .notices] s (missTaken d place s) :=
  ((modDest_frame d s _).mono (by simp)).trans <|
    ((sameExcept_of_untold (unreserve_untold d _)).mono (by simp)).trans <|
      ((sameExcept_raise _ _).mono (by simp)).trans ((modDest_frame d _ _).mono (by simp))

theorem missTaken_map : (missTaken d place s).map = s.map := unreserve_map d _

theorem missTaken_misses :
    (missTaken d place s).counter (.ofDest d .misses) = min (s.counter (.ofDest d .misses) + 1) 65535 := by
  have raised : (missTaken d place s).counter (.ofDest d .misses)
      = (takeMissed d place s).counter (.ofDest d .misses) := rfl
  rw [raised, takeMissed, raiseDest_eq, raise_counter_self, unreserve_counter]
  rfl

/-- What a miss changes of a DRAINING destination is told to the owner. -/
theorem told_missTaken : Told s (missTaken d place s) := by
  have taken : Told s (s.modDest d fun r => { r with awaiting := r.awaiting.eraseIdx place }) :=
    (told_refl s).invisible rfl rfl (modDest_invisible fun r => sameVisible_refl r)
  exact ((taken.unreserve d).raise _).invisible rfl rfl (modDest_invisible fun r => sameVisible_refl r)

/-! ### The consecutive-miss count (R145) -/

/-- The state in which the missed record is resolved. -/
def missCounted : State := countMiss d (takeMissed d place s)

/-- SILENT comes with the count of 4. -/
theorem missCounted_eq : missCounted d place s
    = if (s.dest d).misses = 3 then gainRerouting Holds.silent setSilent [d] (missTaken d place s)
      else missTaken d place s := by
  have misses : ((takeMissed d place s).dest d).misses = (s.dest d).misses := by rw [takeMissed_dest, if_pos rfl]; rfl
  simp only [missCounted, countMiss, misses, missTaken]

theorem told_missCounted : Told s (missCounted d place s) := by
  rw [missCounted_eq]
  split
  · exact (told_missTaken d place s).gainRerouting Holds.silent within_setSilent [d]
  · exact told_missTaken d place s

theorem missCounted_frame : SameExcept [.dests, .map, .gates, .counters, .notices] s (missCounted d place s) := by
  have taken : SameExcept [.dests, .map, .gates, .counters, .notices] s (missTaken d place s) :=
    (missTaken_frame d place s).mono (by simp)
  rw [missCounted_eq]
  split
  · exact taken.trans ((gainRerouting_frame _ _ _ _).mono (by simp))
  · exact taken

theorem missCounted_misses :
    (missCounted d place s).counter (.ofDest d .misses) = min (s.counter (.ofDest d .misses) + 1) 65535 := by
  rw [missCounted_eq]
  split
  · rw [gainRerouting_counter (by simp) (by simp), missTaken_misses]
  · exact missTaken_misses d place s

end

theorem setSilent_of_silent {h : Holds} (silent : h.silent = true) : setSilent h = h := by
  simp [setSilent, ← silent]

section
variable {d : DestId} {s : State} (place : Nat)

/-- SILENT as a miss leaves it. -/
def silenced (n : Nat) (h : Holds) : Holds := if n = 3 then setSilent h else h

/-- The record after a miss: R_d and a DRAINING state follow the entries that SILENT moves off. -/
theorem missCounted_self : ({ missedRecord place (s.dest d) with
    holds := silenced (s.dest d).misses (s.dest d).holds } : Dest).Rebooked True ((missCounted d place s).dest d) := by
  have self : (missTaken d place s).dest d = missedRecord place (s.dest d) := by rw [missTaken_dest, if_pos rfl]
  rw [missCounted_eq, silenced]
  split
  · have moved := gainRerouting_self (c := Holds.silent) (set := setSilent) (d := d) (s := missTaken d place s)
      setSilent_of_silent
    rw [self] at moved
    exact moved
  · rw [self]
    exact .refl _ _

/-- A miss neither brings nor ends a release before it is resolved. -/
theorem missCounted_releasing : ((missCounted d place s).dest d).state = .releasing ↔ (s.dest d).state = .releasing := by
  have missed : (missedRecord place (s.dest d)).state = .releasing ↔ (s.dest d).state = .releasing := by
    simp only [missedRecord, freed]
    split
    · next h => simp [h.2.1]
    · rfl
  rcases (missCounted_self (s := s) (d := d) place).state with same | ⟨-, draining, closed⟩
  · rw [same]
    exact missed
  · rw [← missed, closed]
    dsimp only at draining
    simp [draining]

/-- Without a new SILENT nothing is rerouted. -/
theorem missCounted_quiet (h : (s.dest d).misses ≠ 3 ∨ (s.dest d).holds.silent = true) :
    SameExcept [.dests, .counters, .notices] s (missCounted d place s)
      ∧ ∀ x, (missCounted d place s).dest x = if x = d then missedRecord place (s.dest d) else s.dest x := by
  have taken := missTaken_frame d place s
  have dest := missTaken_dest d place s
  rw [missCounted_eq]
  split
  · next three =>
    have silent : ((missTaken d place s).dest d).holds.silent = true := by
      rw [dest, if_pos rfl]
      exact h.resolve_left (not_not.mpr three)
    rw [gainRerouting_carried silent]
    exact ⟨taken.trans (syncConditions_frame _), fun x => by rw [syncConditions_dest, dest]⟩
  · exact ⟨taken, dest⟩

/-- The entries bound for a destination that turns SILENT are moved off it (R107). -/
theorem missCounted_movedOff (law : RouteLaw s) (three : (s.dest d).misses = 3)
    (free : (s.dest d).holds.silent = false) : MovedOff [d] s (missCounted d place s) := by
  obtain ⟨⟨-, names⟩, shape, -⟩ := law
  have map := missTaken_map d place s
  rw [missCounted_eq, if_pos three]
  refine (gainRerouting_movedOff (by rw [map]; exact names) (by rw [map]; exact shape) ?_ within_setSilent
    (by simp [setSilent])).since map (told_missTaken d place s).dest_advances
  rw [missTaken_dest, if_pos rfl]
  exact free

end

/-! ### The whole event (R144 to R147) -/

theorem exec_windowExpiry {s : State} {d : DestId} {older : List Awaiting} {a : Awaiting} {newer : List Awaiting}
    (hr : s.inReset = false) (queue : (s.dest d).awaiting = older ++ a :: newer) (left : a.leftMs = 0)
    (first : ∀ x ∈ older, x.tag ≠ a.tag ∨ x.leftMs ≠ 0) :
    exec (.confirmWindowExpiry d a.tag) s
      = .next (settle (resolve d a false (missCounted d older.length s))) := by
  have place : (s.dest d).awaiting[older.length]? = some a := by simp [queue]
  have event : exec (.confirmWindowExpiry d a.tag) s
      = .next (settle (match expiredPlace (s.dest d).awaiting a.tag with
        | some place => miss d place s
        | none => s)) := exec_event (c := .confirmWindowExpiry d a.tag) rfl hr
  rw [event, queue, expiredPlace_eq left first]
  dsimp only
  rw [miss_resolves place]
  rfl

/-- Settles O31: the oldest expired record of the tag is missed, SILENT comes with the fourth miss in a row, and a release may complete. -/
theorem expiredWindowIsMissed : Obligations.ExpiredWindowIsMissed := by
  intro s d older a newer hr queue left first
  have rest : (s.dest d).awaiting.eraseIdx older.length = older ++ newer := by simp [queue, List.eraseIdx_append]
  obtain ⟨w, hw⟩ : ∃ w, w = missCounted d older.length s := ⟨_, rfl⟩
  have he := exec_windowExpiry hr queue left first
  have told : Told s w := hw ▸ told_missCounted d older.length s
  have frame := missCounted_frame d older.length s
  have self := missCounted_self (s := s) (d := d) older.length
  have misses := missCounted_misses d older.length s
  have quiet := missCounted_quiet (s := s) (d := d) older.length
  have moved := missCounted_movedOff (s := s) (d := d) older.length
  rw [← hw] at he frame self misses quiet moved
  obtain ⟨_, offered, shown⟩ := told.offered
  have notices : ArrivalNotices d a false s (settle (resolve d a false w)) :=
    offered.arrivalNotices shown (fun x => (told.dest_advances x).owner) d a false
  have hearing : ∀ st, hears (settle (resolve d a false w)) st = hears s st := fun st => by
    rw [hears_resolve, hears_of_links offered.links]
  have waiting : (w.dest d).awaiting = older ++ newer := by rw [self.awaiting, ← rest]; rfl
  have last : (w.dest d).awaiting = [] ∧ (w.dest d).state = .releasing
      ↔ (s.dest d).state = .releasing ∧ older ++ newer = [] := by
    rw [waiting, and_comm, hw, missCounted_releasing]
  have result := resolve_self d a false w
  simp only [last] at result
  refine ⟨_, he, (frame.trans ((resolve_frame _ _ _ _).mono (by simp))).settled, notices, ?_, ?_, fun st ho hh hp busy => ?_,
    fun stays => ?_, fun law three free => ?_, fun silent => ⟨?_, fun x hx => ?_⟩, fun silent stays => ?_, fun hs empty => ?_⟩
  · rw [settle_dest, result]
    split <;> exact waiting
  · rw [settle_counter, resolve_counter _ _ _ _ (by simp), misses]
  · rw [notices.places_busy hearing busy, arrivalPlaces, if_pos ⟨ho, hh, hp⟩]
  · rw [settle_dest, result, if_neg fun k => stays.elim (fun h => h k.1) fun h => h k.2]
    refine ⟨self.misses, self.free, self.owner, fun three => ?_⟩
    rw [self.holds]
    simp [silenced, three, setSilent]
  · exact (moved law three free).map_eq ((settle_map _).trans (resolve_map d a false w))
  · exact ((quiet silent).1.trans (resolve_frame _ _ _ _)).settled
  · rw [settle_dest, resolve_others _ _ _ _ x hx, (quiet silent).2, if_neg hx]
  · rw [settle_dest, result, if_neg fun k => stays.elim (fun h => h k.1) fun h => h k.2, (quiet silent).2, if_pos rfl]
    simp [missedRecord, freed, rest, missCount]
  · rw [settle_dest, result, if_pos ⟨hs, empty⟩]
    refine ⟨rfl, rfl, rfl, ?_⟩
    simp only [releasedRecord, Dest.holdsReleased, self.holds, self.mode, missedRecord, freed, silenced]
    split_ifs <;> rfl

end Sys2Proof.Machine
end

section
/-! SUPPORT. A forced release: the entries bound for the destination leave it, and the release completes where no record waits there (R58, R62, R91, R106, R114). -/

namespace Sys2Proof.Machine

/-! ### Moves and notices behind another change -/

/-- The same as seen from a state with the map before, in which the destinations found OPEN without a hold were so already. -/
theorem MovedOff.of_opened {ds : List DestId} {s u t : State} (h : MovedOff ds u t) (map : u.map = s.map)
    (opened : ∀ x, (u.dest x).state = .opened → (u.dest x).holds = {} →
      (s.dest x).state = .opened ∧ (s.dest x).holds = {}) : MovedOff ds s t := by
  obtain ⟨empty, each⟩ := h
  refine ⟨empty, fun e he item => ?_⟩
  obtain ⟨e', found, moved⟩ := each e (map ▸ he) item
  refine ⟨e', found, ?_⟩
  split at moved
  · next hd =>
    rw [if_pos hd]
    unfold MovedTo at moved ⊢
    split at moved
    · next hs => rwa [if_pos hs]
    · next hs =>
      rw [if_neg hs]
      obtain ⟨entry, place⟩ := moved
      refine ⟨entry, ?_⟩
      split at place
      · next w _ => exact ⟨place.1, opened w place.2.1 place.2.2⟩
      · exact place
      · exact place.elim
  · next hd => rwa [if_neg hd]

theorem sameVisible_congr_right {b c : Dest} (h : sameVisible b c = true) (a : Dest) :
    sameVisible a b = sameVisible a c := by
  obtain ⟨hs, ho, hh, hf⟩ := (sameVisible_iff b c).mp h
  simp only [sameVisible, hs, ho, hh, hf]

/-- A record that shows the same is told of in the same way, as long as it has an owner. -/
theorem destNotice_congr {s u v : State} {x : DestId} (same : sameVisible (u.dest x) (v.dest x) = true)
    (owner : (u.dest x).owner = (s.dest x).owner) (st : Station) (l : List DestItem) :
    destNotice s v st x l = destNotice s u st x l := by
  have owner' := ((sameVisible_iff _ _).mp same).2.1
  unfold destNotice
  rw [← sameVisible_congr_right same, ← owner', owner]
  split
  · rfl
  · rfl

/-- Steps that show nothing more add no notice. -/
theorem Offered.unseen {s u v : State} {order : List DestId} (h : Offered s u order)
    (owner : ∀ x, (u.dest x).owner = (s.dest x).owner) (told : Told u v)
    (same : ∀ x, sameVisible (u.dest x) (v.dest x) = true) : Offered s v order := by
  obtain ⟨marks, marked⟩ := told
  have none : marks = [] := List.eq_nil_iff_forall_not_mem.mpr fun x hx => by
    simpa [same x] using (marked.shown x).mp hx
  subst none
  refine ⟨h.nodup, marked.links.trans h.links, fun x hx => ?_, fun st => ?_⟩
  · rw [← sameVisible_congr_right (same x)]
    exact h.others x hx
  · have queue : v.noticeQueue st = u.noticeQueue st := by rw [marked.queue, List.foldl_nil, ite_self]
    rw [queue, h.queue]
    simp only [destNotice_congr (same _) (owner _)]

/-! ### The entries leave the destination (R106) -/

/-- The destination is RELEASING, and the entries bound for it have been moved off. -/
def moveOff (d : DestId) (s : State) : State := cascade [d] (changeDest d (fun r => { r with state := .releasing }) s)

/-- A forced release completes where no record waits for a confirm (R106). -/
theorem beginRelease_eq (d : DestId) (s : State) : beginRelease d s
    = if ((moveOff d s).dest d).awaiting = [] then completeRelease d (moveOff d s) else moveOff d s := rfl

section
variable (d : DestId) (s : State)

/-- Only R_d of a record follows the entries, as no DRAINING destination loses one. -/
theorem moveOff_dest (x : DestId) : (moveOff d s).dest x = if x = d then
      { s.dest d with state := .releasing, reserved := ((moveOff d s).dest d).reserved }
    else { s.dest x with reserved := ((moveOff d s).dest x).reserved } := by
  have moved := cascade_rebooked [d] x (changeDest d (fun r => { r with state := .releasing }) s)
  rw [changeDest_dest] at moved
  split
  · next h =>
    subst h
    rw [if_pos rfl] at moved
    exact moved.settled (by simp)
  · next h =>
    rw [if_neg h] at moved
    exact moved.stays (by simpa using h)

theorem moveOff_self : (moveOff d s).dest d
    = { s.dest d with state := .releasing, reserved := ((moveOff d s).dest d).reserved } := by
  have h := moveOff_dest d s d
  rwa [if_pos rfl] at h

theorem moveOff_others {x : DestId} (hx : x ≠ d) :
    (moveOff d s).dest x = { s.dest x with reserved := ((moveOff d s).dest x).reserved } := by
  have h := moveOff_dest d s x
  rwa [if_neg hx] at h

/-- The owner is told that the destination is RELEASING, and nothing follows for the others. -/
theorem moveOff_offered : ∃ order, Offered s (moveOff d s) order ∧ Shown s (moveOff d s) order := by
  obtain ⟨order, offered, shown⟩ := (tells_changeDest d (fun r => { r with state := .releasing }) s rfl).offered
  have owner : ∀ x, ((changeDest d (fun r => { r with state := .releasing }) s).dest x).owner = (s.dest x).owner :=
    fun x => by
      rw [changeDest_dest]
      split
      · next h => subst h; rfl
      · rfl
  have same : ∀ x, sameVisible ((changeDest d (fun r => { r with state := .releasing }) s).dest x)
      ((moveOff d s).dest x) = true := fun x => by
    rw [moveOff_dest, changeDest_dest]
    split <;> exact (sameVisible_iff _ _).mpr ⟨rfl, rfl, rfl, rfl⟩
  refine ⟨order, offered.unseen owner ((told_refl _).cascade [d]) same, fun x hx => ?_⟩
  rw [← sameVisible_congr_right (same x)]
  exact shown x hx

theorem moveOff_owner (x : DestId) : ((moveOff d s).dest x).owner = (s.dest x).owner := by
  rw [moveOff_dest]
  split
  · next h => subst h; rfl
  · rfl

theorem moveOff_kept : (moveOff d s).kept = s.kept := by simp [moveOff]

theorem moveOff_rested : (moveOff d s).rested = s.rested :=
  (rested_of_steady (cascade_steady _ _)).trans (rested_of_untold (changeDest_untold d _ s))

variable {d s}

/-- None of the entries is left, and R_d is the records that wait. -/
theorem moveOff_account (law : RouteLaw s) (claimed : (s.dest d).state ≠ .unclaimed) :
    MovedOff [d] s (moveOff d s) ∧ ((moveOff d s).dest d).reserved = (s.dest d).awaiting.length := by
  obtain ⟨u, hu⟩ : ∃ u, u = changeDest d (fun r => { r with state := .releasing }) s := ⟨_, rfl⟩
  have dest : ∀ x, u.dest x = if x = d then { s.dest d with state := .releasing } else s.dest x := fun x => by
    rw [hu, changeDest_dest]
  have map : u.map = s.map := hu ▸ map_of_untold (changeDest_untold d _ s)
  have left : RouteSound { leaving := (· = d) } u :=
    ((routeLaw_iff s).mp law).accounts map rfl fun x a => by
      rw [dest]
      split
      · next h => subst h; simpa using a.leave claimed
      · next h => simpa [h] using a
  have shut : (u.dest d).shut := by rw [dest, if_pos rfl]; exact nofun
  have moved : MovedOff [d] u (moveOff d s) := by
    rw [moveOff, ← hu]
    exact cascade_movedOff left.names (fun e he => left.shape e he (by simp)) (by simpa using shut)
  have account := (left.cascade rfl [d]).account d
  rw [hu] at account
  have reserved : ((moveOff d s).dest d).reserved
      = (boundFor (moveOff d s) d).length + ((moveOff d s).dest d).awaiting.length + 0 := account.reserved
  refine ⟨moved.of_opened map fun x state holds => ?_, ?_⟩
  · rw [dest] at state holds
    split at state
    · cases state
    · next h => rw [if_neg h] at holds; exact ⟨state, holds⟩
  · have waiting : ((moveOff d s).dest d).awaiting = (s.dest d).awaiting := by rw [moveOff_self]
    rw [reserved, moved.1 d (List.mem_singleton_self d), waiting]
    simp

/-! ### The forced release as a whole (R106, R114) -/

variable (d s)

theorem beginRelease_others {x : DestId} (hx : x ≠ d) :
    (beginRelease d s).dest x = { s.dest x with reserved := ((beginRelease d s).dest x).reserved } := by
  have same : (beginRelease d s).dest x = (moveOff d s).dest x := by
    rw [beginRelease_eq]
    split
    · rw [completeRelease_dest, if_neg hx]
    · rfl
  rw [same]
  exact moveOff_others d s hx

theorem beginRelease_map : (beginRelease d s).map = (moveOff d s).map := by
  rw [beginRelease_eq]
  split
  · exact map_of_untold (completeRelease_untold d _)
  · rfl

/-- The owner, or the former one, is told of it once. -/
theorem beginRelease_offered : ∃ order, Offered s (beginRelease d s) order := by
  obtain ⟨order, offered, shown⟩ := moveOff_offered d s
  rw [beginRelease_eq]
  split
  · exact offered.released shown (moveOff_owner d s) d
  · exact ⟨order, offered⟩

theorem beginRelease_rested : (beginRelease d s).rested = s.rested := by
  rw [beginRelease_eq]
  split
  · exact (rested_of_untold (completeRelease_untold d _)).trans (moveOff_rested d s)
  · exact moveOff_rested d s

theorem beginRelease_frame : SameExcept [.counters, .dests, .map, .gates, .notices] s (beginRelease d s) := by
  have h := beginRelease_rested d s
  simp only [State.rested, Rested.mk.injEq] at h
  obtain ⟨test, snapshot, enables, globalEnable, -⟩ := h
  exact sameExcept_of_kept (beginRelease_kept d s) (by simp) (by simp) (by simp) (fun _ => test) (by simp)
    (by simp) (fun _ => ⟨snapshot, enables, globalEnable⟩)

theorem beginRelease_frames (p : Port) (c : PortCounter) :
    (beginRelease d s).counter (.ofPort p c) = s.counter (.ofPort p c) :=
  congrFun (congrFun (congrArg Rested.frames (beginRelease_rested d s)) p) c

variable {d s}

/-- A release completes where no record waits, and is under way otherwise. -/
theorem beginRelease_self (law : RouteLaw s) (claimed : (s.dest d).state ≠ .unclaimed) :
    (beginRelease d s).dest d = if (s.dest d).awaiting = [] then
        { s.dest d with
          owner := none, state := .unclaimed, free := 0, reserved := 0
          holds := (s.dest d).holdsReleased
          rearm := (s.dest d).rearmReleased (s.rackSensor d)
          misses := if (s.dest d).holds.silent = true then 0 else (s.dest d).misses }
      else { s.dest d with state := .releasing, reserved := (s.dest d).awaiting.length } := by
  have self := moveOff_self d s
  rw [(moveOff_account law claimed).2] at self
  have rack : (moveOff d s).rackSensor d = s.rackSensor d := by
    simp only [State.rackSensor, pins_of_kept (moveOff_kept d s)]
  have waiting : ((moveOff d s).dest d).awaiting = (s.dest d).awaiting := by rw [self]
  rw [beginRelease_eq, waiting]
  split
  · next none =>
    rw [completeRelease_dest, if_pos rfl, self, rack, none]
    rfl
  · exact self

end

/-! ### The request (R106) -/

/-- Hearing a frame touches neither the map nor a record. -/
theorem routeLaw_greeted (q : Sender) {s : State} (law : RouteLaw s) : RouteLaw (greeted q s) :=
  (routeLaw_iff _).mpr (((routeLaw_iff s).mp law).elsewhere (greeted_map q s) (greeted_dests q s))

theorem forceRelease_admissible {s : State} (hs : ServedCommissioned s .site) (x : Byte) :
    Admissible .forceRelease .site [x] s := admissible_commissioned .forceRelease .site [x] s hs rfl rfl

theorem handleForceRelease_unnamed {x : Byte} (hx : 24 ≤ x.toNat) (s : State) :
    handleForceRelease .site [x] s = ⟨s, .argument, []⟩ := by
  have none : inRange? 24 (byteAt [x] 0) = none := inRange?_of_le hx
  simp only [handleForceRelease, withDest, none]
  rfl

/-- The request by the state of the destination. -/
theorem handleForceRelease_named (d : DestId) (s : State) : handleForceRelease .site [byteOf d.val] s
    = if (s.dest d).state = .unclaimed then ⟨s, .state, recordBytes (s.dest d)⟩
      else if (s.dest d).state = .releasing then ⟨s, .done, recordBytes (s.dest d)⟩
      else ⟨beginRelease d s, .done, recordBytes ((beginRelease d s).dest d)⟩ := by
  have named : inRange? 24 (byteAt [byteOf d.val] 0) = some d :=
    inRange?_eq_some.mpr (byteOf_toNat (by omega)).symm
  simp only [handleForceRelease, withDest, named]
  cases (s.dest d).state <;> rfl

/-- What a forced release of a claimed destination leaves (R106, R114). -/
theorem forceRelease_settled {s : State} (tag : Byte) {d : DestId} (law : RouteLaw s)
    (claimed : (s.dest d).state ≠ .unclaimed) :
    let g := greeted .site s
    let t := settle (queueReply .site tag Kind.forceRelease.code
      ⟨beginRelease d g, .done, recordBytes ((beginRelease d g).dest d)⟩)
    TookCounting .site [.dests, .map, .gates, .notices] s t
      ∧ MovedOff [d] s t ∧ DestNotices (some .site) s t
      ∧ (∀ x, t.dest x = (beginRelease d g).dest x)
      ∧ Replied s t .site tag .forceRelease .done (recordBytes (t.dest d)) := by
  intro g t
  have law' : RouteLaw g := routeLaw_greeted .site law
  have dest : ∀ x, t.dest x = (beginRelease d g).dest x := fun x => by rw [settle_dest, queueReply_dest]
  have map : t.map = (moveOff d g).map := by rw [← beginRelease_map, settle_map, queueReply_map]
  have moved : MovedOff [d] s (moveOff d g) :=
    (moveOff_account law' (by rwa [greeted_dest])).1.of_opened (greeted_map .site s) fun x state holds => by
      rw [greeted_dest] at state holds
      exact ⟨state, holds⟩
  obtain ⟨_, offered⟩ := beginRelease_offered d g
  obtain ⟨took, -, -, replied⟩ := counting_settled tag .forceRelease (l := [.dests, .map, .gates, .notices])
    (a := ⟨beginRelease d g, .done, recordBytes ((beginRelease d g).dest d)⟩) (beginRelease_frame d g)
    (links_of_kept (beginRelease_kept d g)) (beginRelease_frames d g _ _)
  exact ⟨took, moved.map_eq map, offered.destNotices tag _ _ _, dest, by rw [dest]; exact replied⟩

/-- Settles O39: the states that refuse or repeat it, and the forced release with its moves, its notices and its record. -/
theorem forceReleaseMovesEntries : Obligations.ForceReleaseMovesEntries := by
  intro s tag d hs law
  refine ⟨⟨_, exec_served (tag := tag) hs.1 (forceRelease_admissible hs _) (by simp), ?_⟩, fun x hx => ?_⟩
  · rw [show handlerOf .forceRelease .site [byteOf d.val] (greeted .site s) = _ from handleForceRelease_named d _]
    have unchanged := fun status => unchanged_settled .site tag .forceRelease s status (recordBytes (s.dest d))
    rw [greeted_dest]
    by_cases unclaimed : (s.dest d).state = .unclaimed
    · obtain ⟨took, -, -, replied⟩ := unchanged .state
      rw [if_pos unclaimed, if_pos unclaimed]
      exact ⟨took, replied⟩
    by_cases releasing : (s.dest d).state = .releasing
    · obtain ⟨took, -, -, replied⟩ := unchanged .done
      rw [if_neg unclaimed, if_neg unclaimed, if_pos releasing, if_pos releasing]
      exact ⟨took, replied⟩
    rw [if_neg unclaimed, if_neg unclaimed, if_neg releasing, if_neg releasing]
    obtain ⟨took, moved, notices, dest, replied⟩ := forceRelease_settled tag law unclaimed
    refine ⟨took, moved, notices, fun x hx => ?_, ?_, replied⟩
    · have others := beginRelease_others d (greeted .site s) hx
      rwa [greeted_dest, ← dest] at others
    · have self := beginRelease_self (routeLaw_greeted .site law) (by rwa [greeted_dest])
      rwa [greeted_dest, greeted_rackSensor, ← dest] at self
  · obtain ⟨took, -, -, replied⟩ := unchanged_settled .site tag .forceRelease s .argument []
    refine ⟨_, exec_served (tag := tag) hs.1 (forceRelease_admissible hs x) (by simp), ?_⟩
    rw [show handlerOf .forceRelease .site [x] (greeted .site s) = _ from handleForceRelease_unnamed hx _]
    exact ⟨took, replied⟩

end Sys2Proof.Machine
end

section
/-! SUPPORT. SET-DEST: the record as stored, the FULL that a change of mode brings, and the notices (R92, R98, R107, R108, R114, R182). -/

namespace Sys2Proof.Machine

/-! ### The outcome of a change of mode (R108) -/

/-- A change that no notice shows, and then one that is told: the whole is told. -/
theorem Offered.behind {s u v : State} {order : List DestId} (h : Offered u v order) (links : u.links = s.links)
    (notices : u.notices = s.notices) (same : ∀ x, sameVisible (s.dest x) (u.dest x) = true) : Offered s v order where
  nodup := h.nodup
  links := h.links.trans links
  others x hx := sameVisible_trans (same x) (h.others x hx)
  queue st := by
    have told : ∀ x l, destNotice u v st x l = destNotice s v st x l := fun x l => by
      unfold destNotice
      rw [sameVisible_congr (same x), ((sameVisible_iff _ _).mp (same x)).2.1]
    have queue : u.noticeQueue st = s.noticeQueue st := by simp only [State.noticeQueue, notices]
    rw [h.queue, queue, hears_of_links links]
    simp only [told]

section
variable (pl : List Byte) (asserted : Bool) (r : Dest)

/-- The flag stands, the mode goes from EDGE to LEVEL, and the input of the configured destination has held its level for 50 ms. -/
def takesLevel : Bool :=
  decide (yesAt pl 1 = r.configured ∧ r.mode = .edge ∧ rackModeOf (byteAt pl 5) = .level ∧ r.configured = true
    ∧ 50 ≤ r.rackMs)

/-- FULL as SET-DEST stores it (R98, R108). -/
def storedFull : Bool :=
  if yesAt pl 1 ≠ r.configured then r.holds.full && yesAt pl 1
  else if takesLevel pl r then asserted else r.holds.full

/-- What the change of mode brings. -/
def storeOutcome : RackOutcome :=
  if takesLevel pl r then
    if asserted = r.holds.full then .nothing else if asserted then .setLevel else .clearLevel
  else .nothing

theorem takesLevel_iff : takesLevel pl r = true ↔ yesAt pl 1 = r.configured ∧ r.mode = .edge
    ∧ rackModeOf (byteAt pl 5) = .level ∧ r.configured = true ∧ 50 ≤ r.rackMs := decide_eq_true_iff

theorem takesLevel_of_changed (h : yesAt pl 1 ≠ r.configured) : takesLevel pl r = false := by simp [takesLevel, h]

theorem setDestRecord_of_kept (h : yesAt pl 1 = r.configured) : (setDestRecord pl asserted r).holds = r.holds
    ∧ (setDestRecord pl asserted r).rackMs = r.rackMs := by
  unfold setDestRecord rackAfter
  dsimp only
  rw [if_neg (not_not.mpr h)]
  split <;> exact ⟨rfl, rfl⟩

theorem setDestRecord_of_changed (h : yesAt pl 1 ≠ r.configured) :
    (setDestRecord pl asserted r).holds = { r.holds with full := r.holds.full && yesAt pl 1 }
      ∧ (setDestRecord pl asserted r).rackMs = 0 := by
  unfold setDestRecord rackAfter
  dsimp only
  rw [if_pos h]
  exact ⟨rfl, rfl⟩

/-- The filter's outcome on the stored record, as the request reads it. -/
theorem rackOutcome_stored : (if r.mode = .edge ∧ (setDestRecord pl asserted r).mode = .level then
      rackOutcome asserted (setDestRecord pl asserted r) else .nothing) = storeOutcome pl asserted r := by
  have mode : (setDestRecord pl asserted r).mode = rackModeOf (byteAt pl 5) := rfl
  have configured : (setDestRecord pl asserted r).configured = yesAt pl 1 := rfl
  rw [mode, storeOutcome]
  by_cases moves : r.mode = .edge ∧ rackModeOf (byteAt pl 5) = .level
  swap
  · rw [if_neg moves, if_neg]
    rw [takesLevel_iff]
    exact fun ⟨_, edge, level, _⟩ => moves ⟨edge, level⟩
  rw [if_pos moves]
  by_cases takes : takesLevel pl r = true
  · obtain ⟨flag, -, level, on, steady⟩ := (takesLevel_iff pl r).mp takes
    obtain ⟨holds, rackMs⟩ := setDestRecord_of_kept pl asserted r flag
    rw [if_pos takes, rackOutcome_level (by rw [configured, flag, on]) (by rw [rackMs]; exact steady) (mode.trans level),
      holds]
  · have quiet : ¬((setDestRecord pl asserted r).configured = true ∧ 50 ≤ (setDestRecord pl asserted r).rackMs) := by
      rw [configured]
      rintro ⟨on, steady⟩
      by_cases flag : yesAt pl 1 = r.configured
      · rw [(setDestRecord_of_kept pl asserted r flag).2] at steady
        exact takes ((takesLevel_iff pl r).mpr ⟨flag, moves.1, moves.2, flag ▸ on, steady⟩)
      · rw [(setDestRecord_of_changed pl asserted r flag).2] at steady
        omega
    rw [if_neg takes, rackOutcome, if_neg quiet]

/-- FULL is gained by the level alone. -/
theorem storeOutcome_setLevel : storeOutcome pl asserted r = .setLevel
    ↔ storedFull pl asserted r = true ∧ r.holds.full = false := by
  unfold storeOutcome storedFull
  by_cases flag : yesAt pl 1 = r.configured
  · cases takesLevel pl r with
    | false => cases r.holds.full <;> simp [flag]
    | true => cases asserted <;> cases r.holds.full <;> simp [flag]
  · rw [takesLevel_of_changed pl r flag]
    cases r.holds.full <;> simp [flag]

/-- The record with the outcome, before entries move: every field that the request writes. -/
theorem storeOutcome_record : (storeOutcome pl asserted r).record (setDestRecord pl asserted r)
    = { r with
        configured := yesAt pl 1
        classes := BitVec.ofNat 14 (wordAt pl 2)
        eligible := BitVec.ofNat 7 (byteAt pl 4)
        mode := rackModeOf (byteAt pl 5)
        margin := min (byteAt pl 6) 3
        holds := { r.holds with full := storedFull pl asserted r }
        rackMs := if yesAt pl 1 ≠ r.configured then 0 else r.rackMs
        rearm := if yesAt pl 1 ≠ r.configured then .armed
          else if rackModeOf (byteAt pl 5) = r.mode then r.rearm
          else if rackModeOf (byteAt pl 5) = .edge ∧ r.holds.full = true ∧ asserted = true then .waitingForClear
          else .armed } := by
  have holds : ((storeOutcome pl asserted r).record (setDestRecord pl asserted r)).holds
      = { r.holds with full := storedFull pl asserted r } := by
    unfold storeOutcome storedFull
    by_cases flag : yesAt pl 1 = r.configured
    · have kept := (setDestRecord_of_kept pl asserted r flag).1
      rw [if_neg (not_not.mpr flag)]
      split_ifs with takes same on
      · exact kept.trans (by rw [same])
      · change setFull (setDestRecord pl asserted r).holds = _
        rw [kept, on]
        rfl
      · change { (setDestRecord pl asserted r).holds with full := false } = _
        rw [kept, eq_false_of_ne_true on]
      · exact kept
    · rw [takesLevel_of_changed pl r flag, if_pos flag]
      exact (setDestRecord_of_changed pl asserted r flag).1
  have rest : (storeOutcome pl asserted r).record (setDestRecord pl asserted r) = { setDestRecord pl asserted r with
      holds := ((storeOutcome pl asserted r).record (setDestRecord pl asserted r)).holds } := by
    unfold storeOutcome
    split_ifs <;> rfl
  rw [rest, holds]
  unfold setDestRecord rackAfter
  dsimp only
  split_ifs <;> rfl

end

/-! ### The record is stored (R98, R108, R114) -/

section
variable (d : DestId) (pl : List Byte) (s : State)

/-- The fields are written, and the owner is told where they show. -/
def storeFields : State := changeDest d (setDestRecord pl (s.rackSensor d)) s

theorem storeFields_dest (x : DestId) :
    (storeFields d pl s).dest x = if x = d then setDestRecord pl (s.rackSensor d) (s.dest d) else s.dest x :=
  changeDest_dest ..

theorem storeFields_self : (storeFields d pl s).dest d = setDestRecord pl (s.rackSensor d) (s.dest d) := by
  rw [storeFields_dest, if_pos rfl]

/-- The request is the fields and then what the change of mode brings. -/
theorem storeDest_eq : storeDest d pl s
    = applyRack d (storeOutcome pl (s.rackSensor d) (s.dest d)) (storeFields d pl s) := by
  have rack : (storeFields d pl s).rackSensor d = s.rackSensor d := by
    simp only [State.rackSensor, storeFields, pins_of_kept (changeDest_kept d _ s)]
  have stored : storeDest d pl s
      = if (s.dest d).mode = .edge ∧ ((storeFields d pl s).dest d).mode = .level then
          applyRack d (rackOutcome ((storeFields d pl s).rackSensor d) ((storeFields d pl s).dest d)) (storeFields d pl s)
        else storeFields d pl s := rfl
  rw [stored, rack, storeFields_self, ← rackOutcome_stored]
  split <;> rfl

/-- Every field is as the request writes it; R_d and a DRAINING state follow the entries that FULL moves off. -/
theorem storeDest_rebooked : ((storeOutcome pl (s.rackSensor d) (s.dest d)).record
      (setDestRecord pl (s.rackSensor d) (s.dest d))).Rebooked True ((storeDest d pl s).dest d) := by
  rw [storeDest_eq, ← storeFields_self]
  exact applyRack_rebooked d _ _

theorem setDestRecord_owner (asserted : Bool) (r : Dest) : (setDestRecord pl asserted r).owner = r.owner := by
  have view := setDestRecord_accountView pl asserted r
  simp only [Dest.accountView, Prod.mk.injEq] at view
  obtain ⟨-, -, -, owner, -⟩ := view
  exact owner

/-- While the flag stands, no notice shows the fields. -/
theorem setDestRecord_invisible {asserted : Bool} {r : Dest} (flag : yesAt pl 1 = r.configured) :
    sameVisible r (setDestRecord pl asserted r) = true := by
  have view := setDestRecord_accountView pl asserted r
  simp only [Dest.accountView, Prod.mk.injEq] at view
  obtain ⟨-, -, state, owner, free⟩ := view
  exact (sameVisible_iff _ _).mpr ⟨state.symm, owner.symm, (setDestRecord_of_kept pl asserted r flag).1.symm, free.symm⟩

variable {pl s d} in
theorem storeFields_of_kept (flag : yesAt pl 1 = (s.dest d).configured) :
    storeFields d pl s = s.modDest d (setDestRecord pl (s.rackSensor d)) := by
  unfold storeFields changeDest
  dsimp only
  rw [modDest_dest_self, if_pos (setDestRecord_invisible pl flag)]

variable {pl s d} in
theorem storeFields_same (flag : yesAt pl 1 = (s.dest d).configured) (x : DestId) :
    sameVisible (s.dest x) ((storeFields d pl s).dest x) = true := by
  rw [storeFields_dest]
  split
  · next h => subst h; exact setDestRecord_invisible pl flag
  · exact sameVisible_refl _

/-- A change of the flag shows FULL at once and brings nothing more; otherwise only the change of mode shows. -/
theorem storeDest_offered : ∃ order, Offered s (storeDest d pl s) order := by
  rw [storeDest_eq]
  by_cases flag : yesAt pl 1 = (s.dest d).configured
  · obtain ⟨order, offered, -⟩ := applyRack_offered d (storeOutcome pl (s.rackSensor d) (s.dest d)) (storeFields d pl s)
    have kept := storeFields_of_kept flag
    exact ⟨order, offered.behind (by rw [kept]; rfl) (by rw [kept]; rfl) (storeFields_same flag)⟩
  · obtain ⟨order, offered, -⟩ := (tells_changeDest d (setDestRecord pl (s.rackSensor d)) s
      (setDestRecord_owner pl _ _)).offered
    rw [storeOutcome, takesLevel_of_changed pl _ flag]
    exact ⟨order, offered⟩

theorem storeDest_kept : (storeDest d pl s).kept = s.kept := by
  have outcome : ∀ o u, (applyRack d o u).kept = u.kept := fun o u => by
    cases o <;> simp [applyRack, gainFull]
  rw [storeDest_eq, outcome, storeFields, changeDest_kept]

theorem storeDest_frame : SameExcept [.counters, .dests, .map, .gates, .notices] s (storeDest d pl s) := by
  rw [storeDest_eq]
  exact ((changeDest_frame d _ s).1.mono (by simp)).trans (applyRack_frame d _ _)

/-- Without a gain of FULL the other destinations stand, and so do R_d and the state. -/
theorem storeDest_quiet (h : storeOutcome pl (s.rackSensor d) (s.dest d) ≠ .setLevel) :
    SameExcept [.dests, .notices] s (storeDest d pl s) ∧ SameOtherDests s (storeDest d pl s) d
      ∧ (storeDest d pl s).dest d = (storeOutcome pl (s.rackSensor d) (s.dest d)).record
          (setDestRecord pl (s.rackSensor d) (s.dest d)) := by
  obtain ⟨frame, others, self⟩ := changeDest_frame d (setDestRecord pl (s.rackSensor d)) s
  rw [storeDest_eq]
  generalize ho : storeOutcome pl (s.rackSensor d) (s.dest d) = o at h
  cases o with
  | nothing => exact ⟨frame, others, self⟩
  | setLevel => exact absurd rfl h
  | clearLevel =>
    obtain ⟨frame', others', self'⟩ := changeDest_frame d loseFull (storeFields d pl s)
    refine ⟨frame.trans frame', fun x hx => (others' x hx).trans (others x hx), ?_⟩
    rw [applyRack, self', storeFields_self]
    rfl
  | latch =>
    unfold storeOutcome at ho
    split_ifs at ho

variable {pl s d} in
/-- A gain of FULL moves the entries off, and counts no frame (R92, R107). -/
theorem storeDest_gain (h : storeOutcome pl (s.rackSensor d) (s.dest d) = .setLevel) :
    (RouteLaw s → MovedOff [d] s (storeDest d pl s))
      ∧ ∀ p c, (storeDest d pl s).counter (.ofPort p c) = s.counter (.ofPort p c) := by
  obtain ⟨-, empty⟩ := (storeOutcome_setLevel pl _ _).mp h
  have flag : yesAt pl 1 = (s.dest d).configured := by
    by_contra k
    rw [storeOutcome, takesLevel_of_changed pl _ k] at h
    cases h
  have kept := storeFields_of_kept flag
  rw [storeDest_eq, h]
  refine ⟨fun law => ?_, fun p c => ?_⟩
  · have law' : RouteLaw (storeFields d pl s) :=
      (routeLaw_iff _).mpr (((routeLaw_iff s).mp law).changeDest_unread d (setDestRecord_accountView pl _))
    refine (applyRack_movedOff law' ?_ (.inl rfl)).since (by rw [kept]; rfl) fun x =>
      Dest.advances_of_sameVisible (storeFields_same flag x)
    rw [storeFields_self, (setDestRecord_of_kept pl _ _ flag).1]
    exact empty
  · rw [applyRack, gainFull, gainRerouting_frames, kept]
    rfl

end

/-! ### The request (R98, R182) -/

theorem setDest_admissible {s : State} (hs : Served s .site) (x cfg hi lo el mode margin : Byte) :
    Admissible .setDest .site [x, cfg, hi, lo, el, mode, margin] s :=
  admissible_site .setDest [x, cfg, hi, lo, el, mode, margin] s hs rfl rfl rfl

theorem handleSetDest_unnamed {pl : List Byte} (h : inRange? 24 (byteAt pl 0) = none) (s : State) :
    handleSetDest .site pl s = ⟨s, .argument, []⟩ := by
  simp only [handleSetDest, h]
  rfl

/-- The request of a destination: a claimed one keeps its flag (R98). -/
theorem handleSetDest_named {pl : List Byte} {d : DestId} (h : inRange? 24 (byteAt pl 0) = some d) (s : State) :
    handleSetDest .site pl s
      = if yesAt pl 1 ≠ (s.dest d).configured ∧ (s.dest d).owner ≠ none then ⟨s, .state, setDestBytes (s.dest d)⟩
        else ⟨storeDest d pl s, if 3 < byteAt pl 6 ∨ 1 < byteAt pl 5 then .doneClamped else .done,
          setDestBytes ((storeDest d pl s).dest d)⟩ := by
  simp only [handleSetDest, h, clampStatus, Option.isSome_iff_ne_none, Bool.or_eq_true, decide_eq_true_eq]

/-- What a SET-DEST that is stored leaves. -/
theorem setDest_settled {s : State} (tag : Byte) (d : DestId) (pl : List Byte) (status : Status) :
    let g := greeted .site s
    let o := storeOutcome pl (s.rackSensor d) (s.dest d)
    let r := o.record (setDestRecord pl (s.rackSensor d) (s.dest d))
    let t := settle (queueReply .site tag Kind.setDest.code
      ⟨storeDest d pl g, status, setDestBytes ((storeDest d pl g).dest d)⟩)
    r.Rebooked True (t.dest d) ∧ DestNotices (some .site) s t
      ∧ (o = .setLevel → TookCounting .site [.dests, .map, .gates, .notices] s t ∧ (RouteLaw s → MovedOff [d] s t))
      ∧ (o ≠ .setLevel → Took .site [.dests, .notices] s t ∧ SameOtherDests s t d ∧ t.dest d = r)
      ∧ Replied s t .site tag .setDest status (setDestBytes (t.dest d)) := by
  intro g o r t
  have dest : ∀ x, t.dest x = (storeDest d pl g).dest x := fun x => by rw [settle_dest, queueReply_dest]
  have map : t.map = (storeDest d pl g).map := by rw [settle_map, queueReply_map]
  have links : (storeDest d pl g).links = g.links := links_of_kept (storeDest_kept d pl g)
  have outcome : storeOutcome pl (g.rackSensor d) (g.dest d) = o := by rw [greeted_rackSensor, greeted_dest]
  have record : setDestRecord pl (g.rackSensor d) (g.dest d) = setDestRecord pl (s.rackSensor d) (s.dest d) := by
    rw [greeted_rackSensor, greeted_dest]
  have rebooked := storeDest_rebooked d pl g
  rw [outcome, record, ← dest] at rebooked
  obtain ⟨_, offered⟩ := storeDest_offered d pl g
  refine ⟨rebooked, offered.destNotices tag _ _ _, fun gains => ?_, fun stays => ?_, ?_⟩
  · obtain ⟨moved, frames⟩ := storeDest_gain (outcome.trans gains)
    obtain ⟨took, -⟩ := counting_settled tag .setDest (l := [.dests, .map, .gates, .notices])
      (a := ⟨storeDest d pl g, status, setDestBytes ((storeDest d pl g).dest d)⟩) (storeDest_frame d pl g) links
      (frames _ _)
    have here : RouteLaw s → MovedOff [d] s (storeDest d pl g) := fun law =>
      (moved (routeLaw_greeted .site law)).of_opened (greeted_map .site s) fun x state holds => by
        rw [greeted_dest] at state holds
        exact ⟨state, holds⟩
    exact ⟨took, fun law => (here law).map_eq map⟩
  · obtain ⟨frame, others, self⟩ := storeDest_quiet d pl g (by rwa [outcome])
    obtain ⟨took, -⟩ := answer_settled tag .setDest
      (a := ⟨storeDest d pl g, status, setDestBytes ((storeDest d pl g).dest d)⟩) frame links
    refine ⟨took, fun x hx => ?_, ?_⟩
    · rw [dest, others x hx, greeted_dest]
    · rw [dest, self, outcome, record]
  · rw [dest]
    exact replied_of .site tag .setDest _ s ((owed_of_links links .site).trans (greeted_owed .site s))

/-- FULL as stored, by the four conditions of a change of mode. -/
theorem storedFull_eq (pl : List Byte) (asserted : Bool) (r : Dest) : storedFull pl asserted r
    = if yesAt pl 1 ≠ r.configured then r.holds.full && yesAt pl 1
      else if r.mode = .edge ∧ rackModeOf (byteAt pl 5) = .level ∧ r.configured = true ∧ 50 ≤ r.rackMs then asserted
      else r.holds.full := by
  unfold storedFull
  by_cases flag : yesAt pl 1 = r.configured
  · simp [takesLevel_iff, flag]
  · simp [flag]

/-- The second word of the payload holds the class set. -/
theorem wordAt_two (x cfg hi lo : Byte) (rest : List Byte) :
    BitVec.ofNat 14 (wordAt (x :: cfg :: hi :: lo :: rest) 2) = BitVec.ofNat 14 (hi ++ lo).toNat := by
  have word : wordAt (x :: cfg :: hi :: lo :: rest) 2 = wordAt (hi :: lo :: rest) 0 := rfl
  rw [← code_of_bytes hi lo rest, ← word, BitVec.toNat_ofNat, Nat.mod_eq_of_lt (wordAt_lt _ _)]

theorem yesAt_one (x cfg : Byte) (rest : List Byte) : yesAt (x :: cfg :: rest) 1 = (cfg != 0) := by
  have zero : cfg = 0 ↔ cfg.toNat = 0 := by rw [← BitVec.toNat_inj]; rfl
  simp only [yesAt, byteAt, List.getD_cons_succ, List.getD_cons_zero, bne, Bool.beq_eq_decide_eq, zero]

theorem rackModeOf_byte (mode : Byte) : rackModeOf mode.toNat = if mode = 0 then .level else .edge := by
  have zero : mode = 0 ↔ mode.toNat = 0 := by rw [← BitVec.toNat_inj]; rfl
  simp only [rackModeOf, zero]

/-- Settles O51: the refusals, and the record as stored with the FULL, the moves and the notices that a change of mode brings. -/
theorem setDestWritesFields : Obligations.SetDestWritesFields := by
  intro s tag x cfg hi lo el mode margin hs
  obtain ⟨pl, hpl⟩ : ∃ pl, pl = [x, cfg, hi, lo, el, mode, margin] := ⟨_, rfl⟩
  have flag : yesAt pl 1 = (cfg != 0) := hpl ▸ yesAt_one x cfg _
  have classes : BitVec.ofNat 14 (wordAt pl 2) = BitVec.ofNat 14 (hi ++ lo).toNat := hpl ▸ wordAt_two x cfg hi lo _
  have eligible : byteAt pl 4 = el.toNat := hpl ▸ rfl
  have newMode : rackModeOf (byteAt pl 5) = if mode = 0 then .level else .edge := hpl ▸ rackModeOf_byte mode
  have modeByte : byteAt pl 5 = mode.toNat := hpl ▸ rfl
  have marginByte : byteAt pl 6 = margin.toNat := hpl ▸ rfl
  have admissible : Admissible .setDest .site pl s := hpl ▸ setDest_admissible hs x cfg hi lo el mode margin
  have first : byteAt pl 0 = x.toNat := hpl ▸ rfl
  rw [← hpl]
  refine ⟨_, exec_served (k := .setDest) (tag := tag) hs admissible (by simp), ?_⟩
  cases hd : inRange? 24 x.toNat with
  | none =>
    rw [show handlerOf .setDest .site pl (greeted .site s) = _ from handleSetDest_unnamed (by rwa [first]) _]
    obtain ⟨took, -, -, replied⟩ := unchanged_settled .site tag .setDest s .argument []
    exact ⟨took, replied⟩
  | some d =>
    rw [show handlerOf .setDest .site pl (greeted .site s) = _ from handleSetDest_named (by rwa [first]) _]
    dsimp only
    rw [greeted_dest, flag]
    by_cases refused : (cfg != 0) ≠ (s.dest d).configured ∧ (s.dest d).owner ≠ none
    · obtain ⟨took, -, -, replied⟩ := unchanged_settled .site tag .setDest s .state (setDestBytes (s.dest d))
      rw [if_pos refused, if_pos refused]
      exact ⟨took, replied⟩
    rw [if_neg refused, if_neg refused]
    have record := storeOutcome_record pl (s.rackSensor d) (s.dest d)
    have full := storedFull_eq pl (s.rackSensor d) (s.dest d)
    have gains := storeOutcome_setLevel pl (s.rackSensor d) (s.dest d)
    simp only [full, flag, classes, eligible, newMode, marginByte] at record gains
    obtain ⟨rebooked, notices, gained, kept, replied⟩ := setDest_settled (s := s) tag d pl
      (if 3 < byteAt pl 6 ∨ 1 < byteAt pl 5 then .doneClamped else .done)
    rw [record] at rebooked kept
    rw [marginByte, modeByte] at rebooked notices gained kept replied ⊢
    refine ⟨rebooked.rest, notices, ?_, replied⟩
    by_cases gain : storeOutcome pl (s.rackSensor d) (s.dest d) = .setLevel
    · rw [if_pos (gains.mp gain)]
      exact gained gain
    · obtain ⟨took, others, self⟩ := kept gain
      rw [if_neg (gains.not.mp gain)]
      exact ⟨took, others, by rw [self], by rw [self]⟩

end Sys2Proof.Machine
end

section
/-! SUPPORT. A request on a destination by its number: the numbers that name none, and what a change of the destination's record leaves as the event ends (R99, R114, R163, R164). -/

namespace Sys2Proof.Machine

/-! ### The number of a destination (R99) -/

theorem takenFrom_of_fromStations {k : Kind} (h : k.fromStations = true) (q : Sender) : k.takenFrom q = true := by
  cases q with
  | station _ => exact h
  | site => cases k <;> first | rfl | cases h

theorem ne_itemReport_of_fromStations {k : Kind} (h : k.fromStations = true) : k ≠ .itemReport := by
  rintro rfl
  cases h

/-- A request of a station or the site on a commissioned belt, of the right length, meets no check. -/
theorem admissible_fromStations {k : Kind} {q : Sender} {pl : List Byte} {s : State} (hs : ServedCommissioned s q)
    (hk : k.fromStations = true) (fits : k.payloadFits q pl = true) : Admissible k q pl s :=
  admissible_commissioned k q pl s hs (takenFrom_of_fromStations hk q) fits

section
variable (k : Kind) {q : Sender} {tag x : Byte} {rest : List Byte} {s : State} {rule : State → DestId → Answer}

/-- A request that names a destination is answered by its own rule. -/
theorem exec_named (hs : Served s q) (hk : k.fromStations = true) (ha : Admissible k q (x :: rest) s)
    (handler : ∀ u, handlerOf k q (x :: rest) u = withDest (x :: rest) u (rule u)) {d : DestId}
    (hx : inRange? 24 x.toNat = some d) :
    exec (k.command (.sender q) tag (x :: rest)) s
      = .next (settle (queueReply q tag k.code (rule (greeted q s) d))) := by
  have number : inRange? 24 (byteAt (x :: rest) 0) = some d := hx
  rw [exec_served hs ha (ne_itemReport_of_fromStations hk), handler, withDest, number]

/-- A number that names no destination is refused with no result and no change (R99; log 28). -/
theorem exec_unnamed (hs : Served s q) (hk : k.fromStations = true) (ha : Admissible k q (x :: rest) s)
    (handler : ∀ u, handlerOf k q (x :: rest) u = withDest (x :: rest) u (rule u)) (hx : inRange? 24 x.toNat = none) :
    ∃ t, exec (k.command (.sender q) tag (x :: rest)) s = .next t ∧ Took q [] s t
      ∧ Replied s t q tag k .argument [] := by
  have number : inRange? 24 (byteAt (x :: rest) 0) = none := hx
  obtain ⟨took, -, -, replied⟩ := unchanged_settled q tag k s .argument []
  refine ⟨_, exec_served hs ha (ne_itemReport_of_fromStations hk), ?_⟩
  rw [handler, withDest, number]
  exact ⟨took, replied⟩

end

theorem inRange?_byteOf (d : DestId) : inRange? 24 (byteOf d.val).toNat = some d :=
  inRange?_eq_some.mpr (byteOf_toNat (by omega)).symm

/-! ### The two ways of an answer (R99, R114) -/

section
variable {q : Sender} (tag : Byte) (k : Kind) {s : State} (d : DestId)

/-- A request that changes nothing is answered with the record as it stands. -/
theorem recordReply_unchanged (status : Status) :
    let t := settle (queueReply q tag k.code (recordReply d status (greeted q s)))
    Took q [] s t ∧ Replied s t q tag k status (recordBytes (s.dest d)) := by
  obtain ⟨took, -, -, replied⟩ := unchanged_settled q tag k s status (recordBytes (s.dest d))
  rw [recordReply, greeted_dest]
  exact ⟨took, replied⟩

variable {d}

/-- A request that changes one record, and nothing else but what is told of it, is answered with the record after. -/
theorem recordReply_changed {u : State} (tells : Tells d (greeted q s) u) (untold : u.untold = (greeted q s).untold) :
    let t := settle (queueReply q tag k.code (recordReply d .done u))
    Took q [.dests, .notices] s t ∧ SameOtherDests s t d ∧ DestNotices (some q) s t ∧ t.dest d = u.dest d
      ∧ Replied s t q tag k .done (recordBytes (t.dest d)) := by
  intro t
  have dest : ∀ x, t.dest x = u.dest x := fun x => by rw [settle_dest, queueReply_dest]; rfl
  obtain ⟨_, offered, -⟩ := tells.offered
  obtain ⟨took, -, -, replied⟩ := answer_settled tag k (a := recordReply d .done u)
    (sameExcept_of_untold untold) (links_of_kept (kept_of_untold untold))
  refine ⟨took, fun x hx => ?_, offered.destNotices tag _ _ _, dest d, ?_⟩
  · rw [dest, tells.others x hx, greeted_dest]
  · rw [dest]
    exact replied

/-- The same for a change that leaves the owner. -/
theorem recordReply_changeDest (f : Dest → Dest) (owner : (f (s.dest d)).owner = (s.dest d).owner) :
    let t := settle (queueReply q tag k.code (recordReply d .done (changeDest d f (greeted q s))))
    Took q [.dests, .notices] s t ∧ SameOtherDests s t d ∧ DestNotices (some q) s t ∧ t.dest d = f (s.dest d)
      ∧ Replied s t q tag k .done (recordBytes (t.dest d)) := by
  obtain ⟨-, -, self⟩ := changeDest_frame d f (greeted q s)
  have changed := recordReply_changed tag k (tells_changeDest d f (greeted q s) (by rwa [greeted_dest]))
    (changeDest_untold d f _)
  rwa [self, greeted_dest] at changed

end

/-! ### The notices of the sender that asks (R164, R174) -/

/-- The port that replies takes no notice as the event ends, so the list of a hearing sender is what the one change of the event has made of it. -/
theorem DestNotices.asker {s t : State} {st : Station} {d : DestId} (h : DestNotices (some (.station st)) s t)
    (others : SameOtherDests s t d) (hearing : hears t st = true) :
    (t.noticeQueue st).dests = destNotice s t st d (s.noticeQueue st).dests := by
  obtain ⟨order, perm, each⟩ := h
  have busy : freeForNotice (some (.station st)) s st = false := by simp [freeForNotice]
  obtain ⟨dests, -⟩ := (each st).2 (.inr busy)
  rw [dests, if_pos hearing]
  exact foldl_once _ d order _ (perm.nodup_iff.mpr nodup_allDests) (perm.mem_iff.mpr (mem_allDests d))
    fun y _ hy _ => destNotice_same (others y hy) st _

/-- A station that is served hears its notices as the event ends (R168). -/
theorem Took.hears {s t : State} {st : Station} {l : List Block} (h : Took (.station st) l s t)
    (served : Served s (.station st)) : hears t st = true := by
  obtain ⟨⟨-, -, -, -, state, -⟩, -⟩ := h
  obtain ⟨-, up, -⟩ := served
  unfold Machine.hears
  rw [state]
  obtain up | up := up <;> simp [up]

end Sys2Proof.Machine
end

section
/-! SUPPORT. CLAIM, OPEN, CLOSE, SET-SLOTS, CLEAR-FULL and RELEASE, each by the checks of its table and then by the record it leaves (R99 to R105, R109, R114, R145, R175). -/

namespace Sys2Proof.Machine

/-! ### CLAIM (R100) -/

/-- The checks of a claim in their order. -/
def claimRule (q : Sender) (s : State) (d : DestId) : Answer :=
  if (s.dest d).configured = false ∨ (s.gate (destGate d)).configured = false then recordReply d .badConfig s
  else if (s.dest d).owner ≠ none then recordReply d .notOwner s
  else if (s.dest d).eligible.getLsbD (Sender.index q).val = false then recordReply d .notEligible s
  else recordReply d .done (changeDest d (claimed q) s)

theorem handleClaim_eq (q : Sender) (pl : List Byte) (s : State) :
    handleClaim q pl s = withDest pl s (claimRule q s) := by
  unfold handleClaim claimRule mayClaim
  simp only [Bool.or_eq_true, Bool.not_eq_true', Option.isSome_iff_ne_none]

/-- The new owner of an unowned destination is told of it. -/
theorem tells_claim (q : Sender) {d : DestId} {u : State} (unowned : (u.dest d).owner = none) :
    Tells d u (changeDest d (claimed q) u) where
  links := links_of_kept (changeDest_kept d _ u)
  others x hx := by rw [changeDest_dest, if_neg hx]
  queue st := by
    have self : (changeDest d (claimed q) u).dest d = claimed q (u.dest d) := by rw [changeDest_dest, if_pos rfl]
    have shows : sameVisible (u.dest d) (claimed q (u.dest d)) = false := by simp [sameVisible, unowned, claimed]
    rw [changeDest_noticeQueue, destNotice, self, shows, unowned]
    by_cases hearing : hears u st = true <;> by_cases owner : (claimed q (u.dest d)).owner = some (.station st) <;>
      simp [hearing, owner]

/-- Settles O35: the number, the checks of R100 in their order, and the claim with its notice. -/
theorem claimTable : Obligations.ClaimTable := by
  intro s q tag x hs law
  have admissible : Admissible .claim q [x] s := admissible_fromStations hs rfl rfl
  cases hx : inRange? 24 x.toNat with
  | none => exact exec_unnamed .claim hs.1 rfl admissible (handleClaim_eq q [x]) hx
  | some d =>
    refine ⟨_, exec_named .claim hs.1 rfl admissible (handleClaim_eq q [x]) hx, ?_⟩
    dsimp only
    have unchanged := recordReply_unchanged (q := q) (s := s) tag .claim d
    simp only [claimRule, greeted_dest, greeted_gate]
    by_cases flags : (s.dest d).configured = false ∨ (s.gate (destGate d)).configured = false
    · simp only [if_pos flags]; exact unchanged _
    by_cases owned : (s.dest d).owner ≠ none
    · simp only [if_neg flags, if_pos owned]; exact unchanged _
    by_cases barred : (s.dest d).eligible.getLsbD (Sender.index q).val = false
    · simp only [if_neg flags, if_neg owned, if_pos barred]; exact unchanged _
    simp only [if_neg flags, if_neg owned, if_neg barred]
    have unowned : (s.dest d).owner = none := not_not.mp owned
    obtain ⟨unclaimed, empty⟩ := law d
    obtain ⟨-, -, self⟩ := changeDest_frame d (claimed q) (greeted q s)
    rw [greeted_dest] at self
    obtain ⟨took, others, notices, dest, replied⟩ := recordReply_changed tag .claim
      (tells_claim q (d := d) (u := greeted q s) (by rwa [greeted_dest])) (changeDest_untold d _ _)
    rw [self] at dest
    refine ⟨took, others, notices, dest, ?_, ?_, replied⟩
    · rw [dest]
      exact (empty (unclaimed.mp unowned)).2
    · rintro st rfl
      rw [notices.asker others (took.hears hs.1)]
      have shows : sameVisible (s.dest d) (claimed (.station st) (s.dest d)) = false := by
        simp [sameVisible, unowned, claimed]
      have owner : (claimed (.station st) (s.dest d)).owner = some (.station st) := rfl
      rw [destNotice, dest, if_pos owner, shows]
      exact mem_addMark d _

/-! ### OPEN and CLOSE (R101, R102) -/

/-- The checks of an OPEN with n slots in their order (R101). -/
def openRule (n : Nat) (q : Sender) (s : State) (d : DestId) : Answer :=
  if (s.dest d).owner ≠ some q then recordReply d .notOwner s
  else if (s.dest d).state = .closed ∨ (s.dest d).state = .draining then
    recordReply d .done (changeDest d (opened n) s)
  else recordReply d .state s

theorem handleOpen_eq (q : Sender) (x n : Byte) (s : State) :
    handleOpen q [x, n] s = withDest [x, n] s (openRule n.toNat q s) := by
  unfold handleOpen openRule
  congr 1
  funext d
  cases (s.dest d).state <;> rfl

/-- A CLOSE by owner and state (R102). -/
def closeRule (q : Sender) (s : State) (d : DestId) : Answer :=
  if (s.dest d).owner ≠ some q then recordReply d .notOwner s
  else if (s.dest d).state = .opened then recordReply d .done (changeDest d closedRecord s)
  else recordReply d (if (s.dest d).state = .releasing ∨ (s.dest d).state = .unclaimed then .state else .done) s

theorem handleClose_eq (q : Sender) (pl : List Byte) (s : State) :
    handleClose q pl s = withDest pl s (closeRule q s) := by
  unfold handleClose closeRule
  congr 1
  funext d
  cases (s.dest d).state <;> rfl

/-- A destination with an owner is claimed (6.1). -/
theorem OwnerLaw.claimed {s : State} (law : OwnerLaw s) {d : DestId} {q : Sender} (owner : (s.dest d).owner = some q) :
    (s.dest d).state ≠ .unclaimed := fun h => by
  rw [(law d).1.mpr h] at owner
  cases owner

/-- Settles O36: OPEN and CLOSE by owner and state. -/
theorem openAndClose : Obligations.OpenAndClose := by
  intro s q tag n d hs law
  refine ⟨
    ⟨_, exec_named .openDest hs.1 rfl (admissible_fromStations hs rfl rfl) (handleOpen_eq q _ n)
      (inRange?_byteOf d), ?_⟩,
    ⟨_, exec_named .closeDest hs.1 rfl (admissible_fromStations hs rfl rfl) (handleClose_eq q _)
      (inRange?_byteOf d), ?_⟩,
    fun x hx => ⟨?_, ?_⟩⟩
  · have unchanged := recordReply_unchanged (q := q) (s := s) tag .openDest d
    simp only [openRule, greeted_dest]
    by_cases owner : (s.dest d).owner ≠ some q
    · simp only [if_pos owner]; exact unchanged _
    by_cases shut : (s.dest d).state = .closed ∨ (s.dest d).state = .draining
    · simp only [if_neg owner, if_pos shut]
      exact recordReply_changeDest tag .openDest (opened n.toNat) rfl
    · simp only [if_neg owner, if_neg shut]; exact unchanged _
  · have unchanged := recordReply_unchanged (q := q) (s := s) tag .closeDest d
    simp only [closeRule, greeted_dest]
    by_cases owner : (s.dest d).owner ≠ some q
    · simp only [if_pos owner]; exact unchanged _
    by_cases opened : (s.dest d).state = .opened
    · simp only [if_neg owner, if_pos opened]
      exact recordReply_changeDest tag .closeDest closedRecord rfl
    · simp only [if_neg owner, if_neg opened, or_iff_left (law.claimed (not_not.mp owner))]; exact unchanged _
  · exact exec_unnamed .openDest hs.1 rfl (admissible_fromStations hs rfl rfl)
      (handleOpen_eq q x n) (inRange?_of_le hx)
  · exact exec_unnamed .closeDest hs.1 rfl (admissible_fromStations hs rfl rfl)
      (handleClose_eq q [x]) (inRange?_of_le hx)

/-! ### SET-SLOTS and CLEAR-FULL (R103, R104) -/

/-- The checks of a SET-SLOTS with n slots in their order (R103). -/
def slotsRule (n : Nat) (q : Sender) (s : State) (d : DestId) : Answer :=
  if (s.dest d).owner ≠ some q then recordReply d .notOwner s
  else if (s.dest d).state = .releasing ∨ (s.dest d).state = .unclaimed then recordReply d .state s
  else recordReply d .done (changeDest d (slotted n) s)

theorem handleSetSlots_eq (q : Sender) (x n : Byte) (s : State) :
    handleSetSlots q [x, n] s = withDest [x, n] s (slotsRule n.toNat q s) := by
  unfold handleSetSlots slotsRule
  congr 1
  funext d
  cases (s.dest d).state <;> rfl

/-- The checks of a CLEAR-FULL in their order (R104). -/
def clearFullRule (q : Sender) (s : State) (d : DestId) : Answer :=
  if (s.dest d).owner ≠ some q ∧ q ≠ .site then recordReply d .notOwner s
  else if (s.dest d).state = .unclaimed then recordReply d .state s
  else recordReply d .done (changeDest d (clearedRecord true) s)

theorem handleClearFull_eq (q : Sender) (pl : List Byte) (s : State) :
    handleClearFull q pl s = withDest pl s (clearFullRule q s) := by
  unfold handleClearFull clearFullRule
  congr 1
  funext d
  cases (s.dest d).state <;> rfl

/-- FULL after a latch is cleared (R108). -/
theorem clearedRecord_latched (r : Dest) : clearedRecord true r = { r with
    misses := 0
    holds := { r.holds with silent := false, full := if r.mode = .edge then false else r.holds.full } } := by
  simp [clearedRecord]

/-- Settles O37: SET-SLOTS and CLEAR-FULL by owner and state. -/
theorem slotsAndClearFull : Obligations.SlotsAndClearFull := by
  intro s q tag n d hs law
  refine ⟨
    ⟨_, exec_named .setSlots hs.1 rfl (admissible_fromStations hs rfl rfl) (handleSetSlots_eq q _ n)
      (inRange?_byteOf d), ?_⟩,
    ⟨_, exec_named .clearFull hs.1 rfl (admissible_fromStations hs rfl rfl) (handleClearFull_eq q _)
      (inRange?_byteOf d), ?_⟩,
    fun x hx => ⟨?_, ?_⟩⟩
  · have unchanged := recordReply_unchanged (q := q) (s := s) tag .setSlots d
    have changed := recordReply_changeDest (q := q) (s := s) (d := d) tag .setSlots (slotted n.toNat) rfl
    rw [slotted, clearedRecord_latched] at changed
    simp only [slotsRule, greeted_dest]
    by_cases owner : (s.dest d).owner ≠ some q
    · simp only [if_pos owner]; exact unchanged _
    simp only [if_neg owner, or_iff_left (law.claimed (not_not.mp owner))]
    by_cases releasing : (s.dest d).state = .releasing
    · simp only [if_pos releasing]; exact unchanged _
    · simp only [if_neg releasing]; exact changed
  · have unchanged := recordReply_unchanged (q := q) (s := s) tag .clearFull d
    have changed := recordReply_changeDest (q := q) (s := s) (d := d) tag .clearFull (clearedRecord true) rfl
    rw [clearedRecord_latched] at changed
    simp only [clearFullRule, greeted_dest]
    by_cases owner : (s.dest d).owner ≠ some q ∧ q ≠ .site
    · simp only [if_pos owner]; exact unchanged _
    by_cases unclaimed : (s.dest d).state = .unclaimed
    · simp only [if_neg owner, if_pos unclaimed]; exact unchanged _
    · simp only [if_neg owner, if_neg unclaimed]; exact changed
  · exact exec_unnamed .setSlots hs.1 rfl (admissible_fromStations hs rfl rfl)
      (handleSetSlots_eq q x n) (inRange?_of_le hx)
  · exact exec_unnamed .clearFull hs.1 rfl (admissible_fromStations hs rfl rfl)
      (handleClearFull_eq q [x]) (inRange?_of_le hx)

/-! ### RELEASE (R105, R175) -/

/-- The checks of a RELEASE in their order (R105). -/
def releaseRule (q : Sender) (s : State) (d : DestId) : Answer :=
  if (s.dest d).owner ≠ some q then recordReply d .notOwner s
  else if (s.dest d).state ≠ .closed then recordReply d .state s
  else if (s.dest d).reserved ≠ 0 then recordReply d .busy s
  else recordReply d .done (completeRelease d s)

theorem handleRelease_eq (q : Sender) (pl : List Byte) (s : State) :
    handleRelease q pl s = withDest pl s (releaseRule q s) := by
  unfold handleRelease releaseRule
  congr 1
  funext d
  cases (s.dest d).state <;> simp

theorem mem_addLastNotice (d : DestId) (payload : List Byte) (l : List DestItem) :
    .lastNotice d payload ∈ addLastNotice d payload l := by
  by_cases h : .mark d ∈ l
  · rw [addLastNotice_of_mem payload h]
    exact List.mem_map.mpr ⟨.mark d, mark_mem_withoutLast.mpr h, if_pos rfl⟩
  · rw [addLastNotice_of_not_mem payload h]
    simp

/-- Settles O38: the refusals of R105 in their order, and the release with its final notice. -/
theorem releaseGivesUpDestination : Obligations.ReleaseGivesUpDestination := by
  intro s q tag d hs law
  refine ⟨
    ⟨_, exec_named .release hs.1 rfl (admissible_fromStations hs rfl rfl) (handleRelease_eq q _)
      (inRange?_byteOf d), ?_⟩,
    fun x hx => exec_unnamed .release hs.1 rfl (admissible_fromStations hs rfl rfl)
      (handleRelease_eq q [x]) (inRange?_of_le hx)⟩
  have unchanged := recordReply_unchanged (q := q) (s := s) tag .release d
  simp only [releaseRule, greeted_dest]
  by_cases owner : (s.dest d).owner ≠ some q
  · simp only [if_pos owner]; exact unchanged _
  by_cases state : (s.dest d).state ≠ .closed
  · simp only [if_neg owner, if_pos state]; exact unchanged _
  by_cases reserved : (s.dest d).reserved ≠ 0
  · simp only [if_neg owner, if_neg state, if_pos reserved]; exact unchanged _
  simp only [if_neg owner, if_neg state, if_neg reserved]
  obtain ⟨took, others, notices, dest, replied⟩ := recordReply_changed tag .release
    (tells_completeRelease d (greeted q s)) (completeRelease_untold d _)
  rw [completeRelease_dest, if_pos rfl, greeted_dest, greeted_rackSensor] at dest
  refine ⟨took, others, notices, dest, ?_, replied⟩
  rintro st rfl
  have gone : (releasedRecord (s.rackSensor d) (s.dest d)).owner ≠ some (.station st) := nofun
  rw [notices.asker others (took.hears hs.1), destNotice, dest, if_neg gone, if_pos (not_not.mp owner)]
  exact mem_addLastNotice d _ _

end Sys2Proof.Machine
end

section
/-! SUPPORT. QUERY-DEST, and the refresh that offers every owned destination to its station (R99, R114, R115, R174, R179). -/

namespace Sys2Proof.Machine

/-! ### QUERY-DEST (R115) -/

/-- QUERY-DEST meets no check of a station's after COMMISSION, and none of the site's in any belt state (R173, R179). -/
theorem query_admissible {s : State} {q : Sender} (x : Byte) (hs : Served s q)
    (when : q = .site ∨ s.belt.state ≠ .unconfigured) : Admissible .queryDest q [x] s := by
  obtain rfl | commissioned := when
  · exact admissible_site .queryDest [x] s hs rfl rfl rfl
  · exact admissible_fromStations ⟨hs, commissioned⟩ rfl rfl

theorem query_outcome {s : State} {q : Sender} (tag x : Byte) (hs : Served s q)
    (when : q = .site ∨ s.belt.state ≠ .unconfigured) :
    ∃ t, exec (.queryDest (.sender q) tag [x]) s = .next t ∧ Took q [] s t
      ∧ match inRange? 24 x.toNat with
        | none => Replied s t q tag .queryDest .argument []
        | some d => Replied s t q tag .queryDest .done (queryBytes (s.dest d)) := by
  have admissible := query_admissible x hs when
  have rule : ∀ u, handlerOf .queryDest q [x] u = withDest [x] u fun d => ⟨u, .done, queryBytes (u.dest d)⟩ :=
    fun _ => rfl
  cases hx : inRange? 24 x.toNat with
  | none => exact exec_unnamed .queryDest hs rfl admissible rule hx
  | some d =>
    obtain ⟨took, -, -, replied⟩ := unchanged_settled q tag .queryDest s .done (queryBytes (s.dest d))
    refine ⟨_, exec_named .queryDest hs rfl admissible rule hx, ?_⟩
    rw [greeted_dest]
    exact ⟨took, replied⟩

/-! ### The refresh (R115) -/

/-- Every destination of a list is offered to its owner: a station that hears has the marks of its own, each once. -/
theorem offerAll_noticeQueue (st : Station) (l : List DestId) : ∀ s : State, (forEach l offerDest s).noticeQueue st
    = { s.noticeQueue st with
        dests := if hears s st = true then
            (l.filter fun d => decide ((s.dest d).owner = some (.station st))).foldl (fun l d => addMark d l)
              (s.noticeQueue st).dests
          else (s.noticeQueue st).dests } := by
  induction l with
  | nil => intro s; rw [List.filter_nil, List.foldl_nil, ite_self]; rfl
  | cons d l ih =>
    intro s
    have first : forEach (d :: l) offerDest s = forEach l offerDest (offerDest d s) := rfl
    have links : (offerDest d s).links = s.links := links_of_kept (kept_of_untold (offerDest_untold d s))
    have dest : ∀ x, (offerDest d s).dest x = s.dest x := fun x => by simp only [State.dest, offerDest_dests]
    rw [first, ih, hears_of_links links, offerDest_noticeQueue]
    simp only [dest]
    by_cases hearing : hears s st = true <;> by_cases owner : (s.dest d).owner = some (.station st) <;>
      simp [hearing, owner]

theorem refreshMs_of_kept {s t : State} (h : t.kept = s.kept) : t.refreshMs = s.refreshMs := congrArg Kept.refreshMs h

/-- The refresh grid starts afresh. -/
def newGrid (s : State) : State := { s with refreshMs := 0 }

theorem newGrid_frame (s : State) : SameExcept [.refresh] s (newGrid s) := fun b hb => by
  have same := b.same_refl s
  cases b
  case refresh => simp at hb
  all_goals exact same

/-- Every destination is offered on a fresh grid. -/
def refreshed (s : State) : State := forEach allDests offerDest (newGrid s)

section
variable (s : State)

theorem refreshed_untold : (refreshed s).untold = (newGrid s).untold :=
  forEach_keeps State.untold _ offerDest_untold allDests _

theorem refreshed_dests : (refreshed s).dests = (newGrid s).dests :=
  forEach_keeps State.dests _ offerDest_dests allDests _

theorem refreshed_links : (refreshed s).links = (newGrid s).links :=
  links_of_kept (kept_of_untold (refreshed_untold s))

theorem refreshed_refreshMs : (refreshed s).refreshMs = (newGrid s).refreshMs :=
  refreshMs_of_kept (kept_of_untold (refreshed_untold s))

theorem refreshed_noticeQueue (st : Station) : (refreshed s).noticeQueue st = { s.noticeQueue st with
    dests := if hears s st = true then
        (allDests.filter fun d => decide ((s.dest d).owner = some (.station st))).foldl (fun l d => addMark d l)
          (s.noticeQueue st).dests
      else (s.noticeQueue st).dests } := offerAll_noticeQueue st allDests (newGrid s)

theorem refreshed_frame : SameExcept [.refresh, .notices] s (refreshed s) := by
  have untold := refreshed_untold s
  have bank := bank_of_untold untold
  exact ((newGrid_frame s).mono (by simp)).trans (sameExcept_of_kept (kept_of_untold untold)
    (fun _ => map_of_untold untold) (fun _ => refreshed_dests s) (fun _ => gates_of_untold untold)
    (fun _ => test_of_untold untold) (by simp) (fun _ => by rw [bank]) fun _ => by rw [bank]; exact ⟨rfl, rfl, rfl⟩)

/-- What the end of the event leaves of the marks (R164, R174). -/
theorem refreshed_leaves (st : Station) : LeavesWaiting none st
    (if hears s st = true then
      (allDests.filter fun d => decide ((s.dest d).owner = some (.station st))).foldl (fun l d => addMark d l)
        (s.noticeQueue st).dests
    else (s.noticeQueue st).dests)
    (s.noticeQueue st).places s (settle (refreshed s)) := by
  have leaves := settle_leaves st (refreshed s)
  rw [refreshed_noticeQueue] at leaves
  exact leaves.since (by simp only [freeForNotice, State.link, refreshed_links]; rfl)
    fun _ => by rw [refreshed_noticeQueue]

end

/-- Settles O40: QUERY-DEST, and the refresh with its marks. -/
theorem queryAndRefresh : Obligations.QueryAndRefresh := by
  refine ⟨fun s q tag x hs when => query_outcome tag x hs when, fun s hr due => ?_⟩
  refine ⟨_, exec_due (act := refreshed) rfl hr due, (refreshed_frame s).settled, ?_, fun st d owner hearing busy => ?_,
    allDests, .refl _, refreshed_leaves s⟩
  · rw [settle_refreshMs, refreshed_refreshMs]; rfl
  · have taken : freeForNotice none s st = false := by simp [freeForNotice, busy]
    obtain ⟨dests, -⟩ := (refreshed_leaves s st).2 (.inr taken)
    rw [dests, if_pos hearing, List.foldl_filter]
    simp only [decide_eq_true_eq]
    exact mem_foldl_addMark (own := fun x => (s.dest x).owner = some (.station st)) owner allDests _
      (.inl (mem_allDests d))

end Sys2Proof.Machine
end

section
/-! SUPPORT. Requests and events that move a link's state, the notices where a link is lost or comes back, and one change over all destinations of an owner (R111, R112, R114, R166 to R171). -/

namespace Sys2Proof.Machine

/-! ### Links -/

theorem sameLink_of_link {s t : State} {q : Sender} (h : t.link q = s.link q) : SameLink s t q := by
  unfold SameLink
  rw [h]
  exact ⟨rfl, rfl, rfl, rfl⟩

theorem sameExcept_modLink (q : Sender) (f : Link → Link) (s : State) : SameExcept [.links] s (s.modLink q f) :=
  fun b hb => by
    have same := b.same_refl s
    cases b
    case links => simp at hb
    all_goals exact same

/-- A HELLO and a GOODBYE meet no admission check on any port (R173). -/
theorem exec_training {k : Kind} (hk : k.isTraining = true) {q : Sender} (tag : Byte) (pl : List Byte) {s : State}
    (hr : s.inReset = false) (room : (s.link q).replies.length < 8) : exec (k.command (.sender q) tag pl) s
      = .next (settle (queueReply q tag k.code (handlerOf k q pl (greeted q s)))) := by
  have taken : k.takenFrom q = true := takenFrom_of_fromStations (by cases k <;> first | rfl | cases hk) q
  have unchecked : admission k q pl (greeted q s) = none := if_pos hk
  rw [exec_answered k tag pl hr room, serveKind, if_pos taken, unchecked]

/-- What a request whose block moves its own link's state leaves as the event ends: the frame is counted, and the reply is owed (R162, R163). -/
theorem linkRequest_settled {q : Sender} (tag : Byte) (k : Kind) {l : List Block} {s : State} {a : Answer}
    (frame : SameExcept (.links :: l) (greeted q s) a.state)
    (others : ∀ x, x ≠ q → a.state.link x = (greeted q s).link x) (owed : (a.state.link q).owed = (s.link q).owed)
    (uncounted : Block.counters ∉ l := by simp) :
    let t := settle (queueReply q tag k.code a)
    SameExcept ([.receivers, .links, .counters] ++ l) s t ∧ Raised [.ofPort (.sender q) .framesGood] s t
      ∧ (∀ x, x ≠ q → SameLink s t x) ∧ (t.link q).state = (a.state.link q).state
      ∧ (t.link q).hellos = (a.state.link q).hellos ∧ (t.link q).silenceMs = (a.state.link q).silenceMs
      ∧ Replied s t q tag k a.status a.result := by
  have link : (queueReply q tag k.code a).link q
      = { a.state.link q with replies := (a.state.link q).replies ++ [⟨tag, k.code, a.status, a.result⟩] } :=
    modLink_link_self _ _ _
  refine ⟨?_, ?_, fun x hx => ?_, ?_, ?_, ?_, replied_of q tag k a s owed⟩
  · have heard : SameExcept ([.receivers, .links, .counters] ++ l) s a.state :=
      ((greeted_frame q s).mono fun b hb => List.mem_append_left l hb).trans (frame.mono (by simp +contextual))
    exact (heard.trans ((sameExcept_modLink q _ _).mono (by simp))).settled
  · refine Raised.settled fun c => ?_
    rw [queueReply_counter, counter_of_live (frame .counters (by simp [uncounted]))]
    exact greeted_raised q s c
  · refine (sameLink_of_link ?_).trans (settle_sameLink x _)
    rw [queueReply, modLink_link_ne _ _ _ _ hx, others x hx, greeted_link_ne q x s hx]
  · rw [settle_link_state, link]
  · rw [settle_link_hellos, link]
  · rw [settle_link_silenceMs, link]

/-- The port of the sender that asks is not free for a notice, and each other port is as free as before (R164). -/
theorem freeForNotice_answer {q : Sender} (tag kind : Byte) {a : Answer} {s : State}
    (others : ∀ x, x ≠ q → a.state.link x = s.link x) (st : Station) :
    freeForNotice none (queueReply q tag kind a) st = freeForNotice (some q) s st := by
  by_cases asker : q = .station st
  · subst asker; simp [freeForNotice, queueReply]
  · have other : Sender.station st ≠ q := Ne.symm asker
    have unasked : (some q != some (Sender.station st)) = true := by simpa using asker
    have link : (queueReply q tag kind a).link (.station st) = s.link (.station st) := by
      rw [queueReply, modLink_link_ne _ _ _ _ other, others _ other]
    simp only [freeForNotice, link, unasked]
    rfl

theorem hears_queueReply (q : Sender) (tag kind : Byte) (a : Answer) (st : Station) :
    hears (queueReply q tag kind a) st = hears a.state st := by
  unfold hears queueReply
  rw [modLink_link]
  split
  · next h => rw [h]
  · rfl

theorem queueReply_noticeQueue (q : Sender) (tag kind : Byte) (a : Answer) (st : Station) :
    (queueReply q tag kind a).noticeQueue st = a.state.noticeQueue st := by
  simp only [State.noticeQueue, queueReply_notices]

/-! ### One change over all destinations of an owner -/

/-- Each destination of a sender is changed, and its owner told (R114). -/
def changeOwned (q : Sender) (f : Dest → Dest) (s : State) : State := forEach (ownedBy q s) (fun d => changeDest d f) s

theorem mem_ownedBy {q : Sender} {s : State} {d : DestId} : d ∈ ownedBy q s ↔ (s.dest d).owner = some q := by
  simp [ownedBy, mem_allDests]

theorem nodup_ownedBy (q : Sender) (s : State) : (ownedBy q s).Nodup := nodup_allDests.filter _

section
variable (q : Sender) (f : Dest → Dest) (s : State)

theorem changeOwned_untold : (changeOwned q f s).untold = s.untold :=
  forEach_keeps State.untold _ (fun d u => changeDest_untold d f u) _ s

theorem changeOwned_links : (changeOwned q f s).links = s.links :=
  links_of_kept (kept_of_untold (changeOwned_untold q f s))

theorem changeEach_dest {l : List DestId} (nodup : l.Nodup) (x : DestId) : ∀ u : State,
    (forEach l (fun d => changeDest d f) u).dest x = if x ∈ l then f (u.dest x) else u.dest x := by
  induction l with
  | nil => exact fun _ => rfl
  | cons d l ih =>
    intro u
    obtain ⟨fresh, nodup⟩ := List.nodup_cons.mp nodup
    have first : forEach (d :: l) (fun d => changeDest d f) u = forEach l (fun d => changeDest d f) (changeDest d f u) :=
      rfl
    rw [first, ih nodup, changeDest_dest]
    by_cases hx : x = d
    · subst hx; simp [fresh]
    · simp [hx]

theorem changeOwned_dest (x : DestId) :
    (changeOwned q f s).dest x = if (s.dest x).owner = some q then f (s.dest x) else s.dest x := by
  rw [changeOwned, changeEach_dest f (nodup_ownedBy q s)]
  simp only [mem_ownedBy]

variable {f}

/-- Each is told to its owner, where the owner stands. -/
theorem changeOwned_offered (owner : ∀ r, (f r).owner = r.owner) :
    Offered s (changeOwned q f s) (ownedBy q s) :=
  (offered_nil rfl rfl fun _ => sameVisible_refl _).forEach (fun d u => tells_changeDest d f u (owner _)) _
    (nodup_ownedBy q s)

/-- Nothing is told to a station that does not hear, or that is not the owner. -/
theorem changeOwned_noticeQueue (owner : ∀ r, (f r).owner = r.owner) {st : Station}
    (h : q = .station st → hears s st = false) : (changeOwned q f s).noticeQueue st = s.noticeQueue st := by
  rw [(changeOwned_offered q s owner).queue]
  by_cases own : q = .station st
  · simp [h own]
  · have quiet : ∀ d l, destNotice s (changeOwned q f s) st d l = l := fun d l => by
      by_cases hd : (s.dest d).owner = some q
      · have other : some q ≠ some (.station st) := fun e => own (Option.some.inj e)
        have kept : ((changeOwned q f s).dest d).owner = some q := by rw [changeOwned_dest, if_pos hd, owner, hd]
        rw [destNotice, kept, hd, if_neg other, if_neg other]
      · exact destNotice_same (by rw [changeOwned_dest, if_neg hd]) st l
    simp only [quiet, List.foldl_fixed, ite_self]

end

end Sys2Proof.Machine
end

section
/-! SUPPORT. A link that is lost: GOODBYE, the lapse, and the 1000 ms of silence (R111, R114, R167 to R170, R174). -/

namespace Sys2Proof.Machine

/-! ### The notices of a lost link (R169, R170) -/

theorem emptyNotices_noticeQueue (q : Sender) (s : State) (st : Station) : (emptyNotices q s).noticeQueue st
    = if q = .station st then { s.noticeQueue st with dests := [], places := [] } else s.noticeQueue st := by
  cases q with
  | station x =>
    simp only [emptyNotices, modNotices_noticeQueue, Sender.station.injEq, eq_comm (a := st)]
    split
    · next h => rw [h]
    · rfl
  | site => rfl

theorem emptyNotices_untold (q : Sender) (s : State) : (emptyNotices q s).untold = s.untold := by cases q <;> rfl

theorem emptyNotices_dests (q : Sender) (s : State) : (emptyNotices q s).dests = s.dests := by cases q <;> rfl

/-- The link as it is lost, with its notices emptied. -/
def linkLost (after : LinkState) (q : Sender) (s : State) : State :=
  emptyNotices q (s.modLink q fun k => { k with state := after, hellos := 0 })

theorem loseLink_eq (after : LinkState) (q : Sender) (s : State) :
    loseLink after q s = changeOwned q orphaned (linkLost after q s) := rfl

section
variable (after : LinkState) (q : Sender) (s : State)

theorem linkLost_untold :
    (linkLost after q s).untold = (s.modLink q fun k => { k with state := after, hellos := 0 }).untold :=
  emptyNotices_untold q _

theorem linkLost_dest (d : DestId) : (linkLost after q s).dest d = s.dest d := by
  simp only [State.dest, linkLost, emptyNotices_dests, modLink_dests]

theorem loseLink_link (x : Sender) : (loseLink after q s).link x
    = if x = q then { s.link q with state := after, hellos := 0 } else s.link x := by
  have links : (loseLink after q s).links = (s.modLink q fun k => { k with state := after, hellos := 0 }).links :=
    (changeOwned_links q orphaned _).trans (links_of_kept (kept_of_untold (linkLost_untold after q s)))
  have link : (loseLink after q s).link x = (s.modLink q fun k => { k with state := after, hellos := 0 }).link x := by
    simp only [State.link, links]
  rw [link, modLink_link]

/-- ORPHANED is gained by the destinations of the sender (R111). -/
theorem loseLink_dest (d : DestId) : (loseLink after q s).dest d = if (s.dest d).owner = some q then
      { s.dest d with holds := { (s.dest d).holds with orphaned := true } }
    else s.dest d := by
  rw [loseLink_eq, changeOwned_dest, linkLost_dest]
  rfl

theorem loseLink_frame : SameExcept [.links, .dests, .notices] s (loseLink after q s) := by
  have untold : (loseLink after q s).untold = (s.modLink q fun k => { k with state := after, hellos := 0 }).untold :=
    (changeOwned_untold q orphaned _).trans (linkLost_untold after q s)
  exact ((sameExcept_modLink q _ s).mono (by simp)).trans ((sameExcept_of_untold untold).mono (by simp))

variable {after}

/-- The lists of the sender are emptied, and what the loss offers it is dropped; no other station is offered anything (R111, R174). -/
theorem loseLink_noticeQueue (lost : after ≠ .active ∧ after ≠ .quiet) (st : Station) :
    (loseLink after q s).noticeQueue st
      = if q = .station st then { s.noticeQueue st with dests := [], places := [] } else s.noticeQueue st := by
  have deaf : q = .station st → hears (linkLost after q s) st = false := by
    rintro rfl
    have links := links_of_kept (kept_of_untold (linkLost_untold after (.station st) s))
    rw [hears_of_links links, hears, modLink_link_self]
    simpa using lost
  rw [loseLink_eq, changeOwned_noticeQueue (f := orphaned) q _ (fun _ => rfl) deaf, linkLost, emptyNotices_noticeQueue]
  rfl

end

/-- The notices of a lost link, where each other port is as free as before. -/
theorem noticesLost_settle {asker : Option Sender} {q : Sender} {s v : State}
    (queue : ∀ st, v.noticeQueue st
      = if q = .station st then { s.noticeQueue st with dests := [], places := [] } else s.noticeQueue st)
    (free : ∀ st, q ≠ .station st → freeForNotice none v st = freeForNotice asker s st) :
    NoticesLost asker q s (settle v) := fun st => by
  split
  · next own =>
    obtain ⟨dests, places⟩ := settle_sameNotices st v
    rw [queue, if_pos own] at dests places
    exact ⟨List.suffix_nil.mp dests, List.suffix_nil.mp places⟩
  · next other =>
    have leaves := settle_leaves st v
    rw [queue, if_neg other] at leaves
    exact leaves.since (free st other) fun _ => by rw [queue, if_neg other]

/-! ### GOODBYE (R170) -/

/-- A GOODBYE by the link's state: a link that is up is lost, and one that is not goes DOWN. -/
theorem takeGoodbye_up {q : Sender} {s : State} (up : (s.link q).state = .active ∨ (s.link q).state = .quiet) :
    takeGoodbye q s = loseLink .down q s := by
  unfold takeGoodbye
  obtain up | up := up <;> rw [up]

theorem takeGoodbye_unlinked {q : Sender} {s : State}
    (down : ¬((s.link q).state = .active ∨ (s.link q).state = .quiet)) :
    SameExcept [.links] s (takeGoodbye q s) ∧ (∀ x, x ≠ q → (takeGoodbye q s).link x = s.link x)
      ∧ ((takeGoodbye q s).link q).state = .down ∧ ((takeGoodbye q s).link q).owed = (s.link q).owed := by
  unfold takeGoodbye
  split
  case h_1 h | h_2 h => simp [h] at down
  case h_3 | h_4 =>
    refine ⟨sameExcept_modLink q _ s, fun x hx => modLink_link_ne _ _ _ _ hx, ?_⟩
    rw [modLink_link_self]
    exact ⟨rfl, rfl⟩
  case h_5 h => exact ⟨sameExcept_refl _ s, fun _ _ => rfl, h, rfl⟩

/-- A link that hears a frame is up exactly if it was (R168). -/
theorem greeted_up (q : Sender) (s : State) :
    (((greeted q s).link q).state = .active ∨ ((greeted q s).link q).state = .quiet)
      ↔ ((s.link q).state = .active ∨ (s.link q).state = .quiet) := by
  rw [greeted_link]
  cases (s.link q).state <;> simp

theorem goodbye_outcome (s : State) (q : Sender) (tag : Byte) (hr : s.inReset = false)
    (room : (s.link q).replies.length < 8) :
    ∃ t, exec (.goodbye (.sender q) tag []) s = .next t ∧ (t.link q).state = .down
      ∧ Raised [.ofPort (.sender q) .framesGood] s t ∧ (∀ x, x ≠ q → SameLink s t x)
      ∧ SameExcept [.receivers, .links, .counters, .dests, .notices] s t
      ∧ Replied s t q tag .goodbye .done []
      ∧ (if (s.link q).state = .active ∨ (s.link q).state = .quiet then
          (∀ d, t.dest d = if (s.dest d).owner = some q then
            { s.dest d with holds := { (s.dest d).holds with orphaned := true } } else s.dest d)
          ∧ NoticesLost (some q) q s t
        else SameExcept [.receivers, .links, .counters] s t) := by
  refine ⟨_, exec_training (k := .goodbye) rfl tag [] hr room, ?_⟩
  rw [show handlerOf .goodbye q [] (greeted q s) = ⟨takeGoodbye q (greeted q s), .done, []⟩ from rfl]
  by_cases up : (s.link q).state = .active ∨ (s.link q).state = .quiet
  · rw [if_pos up, takeGoodbye_up ((greeted_up q s).mpr up)]
    have others : ∀ x, x ≠ q → (loseLink .down q (greeted q s)).link x = (greeted q s).link x := fun x hx => by
      rw [loseLink_link, if_neg hx]
    obtain ⟨frame, raised, links, state, -, -, replied⟩ := linkRequest_settled tag .goodbye (l := [.dests, .notices])
      (a := ⟨loseLink .down q (greeted q s), .done, []⟩) (loseLink_frame .down q _) others
      (by rw [loseLink_link, if_pos rfl, ← greeted_owed q s]; rfl)
    rw [loseLink_link, if_pos rfl] at state
    refine ⟨state, raised, links, frame, replied, fun d => ?_, noticesLost_settle (fun st => ?_) ?_⟩
    · rw [settle_dest, queueReply_dest, loseLink_dest, greeted_dest]
    · rw [queueReply_noticeQueue, loseLink_noticeQueue q _ (by simp), greeted_noticeQueue]
    · exact fun st _ => freeForNotice_answer tag _ (fun x hx => (others x hx).trans (greeted_link_ne q x s hx)) st
  · rw [if_neg up]
    obtain ⟨moved, others, down, owed⟩ := takeGoodbye_unlinked (q := q) (s := greeted q s) (mt (greeted_up q s).mp up)
    obtain ⟨frame, raised, links, state, -, -, replied⟩ := linkRequest_settled tag .goodbye (l := [])
      (a := ⟨takeGoodbye q (greeted q s), .done, []⟩) moved others (owed.trans (greeted_owed q s))
    exact ⟨state.trans down, raised, links, frame.mono (by simp), replied, frame⟩

/-! ### The lapse and the silence (R167 to R169) -/

/-- LINK_LAPSED is set while any link is LAPSED (R169). -/
theorem settle_level_lapsed (s : State) : (settle s).bank.levels.getLsbD 10 = levelLinkLapsed s := by
  rw [settle_levels, condLevels, BitVec.getLsbD_ofNat, testBit_packBits]; rfl

theorem linkLapse_outcome (s : State) (q : Sender) (hr : s.inReset = false) (quiet : (s.link q).state = .quiet)
    (silent : 4000 ≤ (s.link q).silenceMs) :
    ∃ t, exec (.linkLapse q) s = .next t ∧ (t.link q).state = .lapsed
      ∧ SameExcept [.links, .dests, .notices] s t ∧ (∀ x, x ≠ q → SameLink s t x)
      ∧ t.bank.levels.getLsbD 10 = true
      ∧ NoticesLost none q s t
      ∧ ∀ d, t.dest d = if (s.dest d).owner = some q then
          { s.dest d with holds := { (s.dest d).holds with orphaned := true } } else s.dest d := by
  have due : lapseDue s q = true := by simp [lapseDue, quiet, silent]
  have others : ∀ x, x ≠ q → (loseLink .lapsed q s).link x = s.link x := fun x hx => by
    rw [loseLink_link, if_neg hx]
  have lapsed : ((loseLink .lapsed q s).link q).state = .lapsed := by rw [loseLink_link, if_pos rfl]
  refine ⟨_, exec_due (due := fun s => lapseDue s q = true) (act := loseLink .lapsed q) rfl hr due, ?_,
    (loseLink_frame .lapsed q s).settled, fun x hx => (sameLink_of_link (others x hx)).trans (settle_sameLink x _), ?_,
    noticesLost_settle (loseLink_noticeQueue q s (by simp)) fun st other => ?_, fun d => ?_⟩
  · rw [settle_link_state, lapsed]
  · rw [settle_level_lapsed, levelLinkLapsed, List.any_eq_true]
    exact ⟨q, mem_allSenders q, by simp [lapsed]⟩
  · simp only [freeForNotice, others _ (Ne.symm other)]
  · rw [settle_dest, loseLink_dest]

/-- 1000 ms of silence by the link's state. -/
theorem takeSilence_link {q : Sender} (s : State) :
    SameExcept [.links] s (takeSilence q s) ∧ (∀ x, x ≠ q → SameLink s (takeSilence q s) x)
      ∧ ((s.link q).state = .active → ((takeSilence q s).link q).state = .quiet)
      ∧ ((s.link q).state = .align →
          ((takeSilence q s).link q).state = .down ∧ ((takeSilence q s).link q).hellos = 0)
      ∧ ((s.link q).state = .down ∨ (s.link q).state = .quiet ∨ (s.link q).state = .lapsed →
          SameLink s (takeSilence q s) q) := by
  have others : ∀ (f : Link → Link) x, x ≠ q → SameLink s (s.modLink q f) x := fun f x hx =>
    sameLink_of_link (modLink_link_ne _ _ _ _ hx)
  unfold takeSilence
  split
  case h_1 h => exact ⟨sameExcept_modLink q _ s, others _, by simp, by simp [h], by simp [h]⟩
  case h_2 h => exact ⟨sameExcept_modLink q _ s, others _, by simp [h], by simp, by simp [h]⟩
  all_goals
    next h =>
      exact ⟨sameExcept_refl _ s, fun x _ => sameLink_refl s x, by simp [h], by simp [h], fun _ => sameLink_refl s q⟩

/-- Settles O44: the GOODBYE, the lapse and the silence. -/
theorem linkLossOrphansDestinations : Obligations.LinkLossOrphansDestinations := by
  refine fun s q tag hr => ⟨goodbye_outcome s q tag hr, linkLapse_outcome s q hr, fun silent => ?_⟩
  obtain ⟨frame, others, active, align, stays⟩ := takeSilence_link (q := q) s
  refine ⟨_, exec_due (act := takeSilence q) rfl hr silent, frame.settled,
    fun x hx => (others x hx).trans (settle_sameLink x _), fun h => ?_, fun h => ?_,
    fun h => (stays h).trans (settle_sameLink q _)⟩
  · rw [settle_link_state, active h]
  · rw [settle_link_state, settle_link_hellos]
    exact align h

end Sys2Proof.Machine
end

section
/-! SUPPORT. HELLO: the training of a link, and the destinations that its owner has back at the third (R112, R114, R166 to R168, R171, R174). -/

namespace Sys2Proof.Machine

/-! ### The third HELLO (R112, R171) -/

theorem restartSequence_noticeQueue (q : Sender) (s : State) (st : Station) : (restartSequence q s).noticeQueue st
    = if q = .station st then { s.noticeQueue st with seq := 0 } else s.noticeQueue st := by
  cases q with
  | station x =>
    simp only [restartSequence, modNotices_noticeQueue, Sender.station.injEq, eq_comm (a := st)]
    split
    · next h => rw [h]
    · rfl
  | site => rfl

theorem restartSequence_untold (q : Sender) (s : State) : (restartSequence q s).untold = s.untold := by cases q <;> rfl

theorem restartSequence_dests (q : Sender) (s : State) : (restartSequence q s).dests = s.dests := by cases q <;> rfl

/-- The link as it becomes ACTIVE, with its notice sequence at 0. -/
def linkBack (q : Sender) (s : State) : State :=
  restartSequence q (s.modLink q fun k => { k with state := .active, hellos := 0, silenceMs := 0 })

theorem enterActive_eq (q : Sender) (s : State) : enterActive q s = changeOwned q unorphaned (linkBack q s) := rfl

section
variable (q : Sender) (s : State)

theorem linkBack_untold : (linkBack q s).untold
    = (s.modLink q fun k => { k with state := .active, hellos := 0, silenceMs := 0 }).untold :=
  restartSequence_untold q _

theorem linkBack_dest (d : DestId) : (linkBack q s).dest d = s.dest d := by
  simp only [State.dest, linkBack, restartSequence_dests, modLink_dests]

theorem linkBack_noticeQueue (st : Station) : (linkBack q s).noticeQueue st
    = if q = .station st then { s.noticeQueue st with seq := 0 } else s.noticeQueue st :=
  restartSequence_noticeQueue q _ st

theorem linkBack_link (x : Sender) : (linkBack q s).link x
    = if x = q then { s.link q with state := .active, hellos := 0, silenceMs := 0 } else s.link x := by
  have links := links_of_kept (kept_of_untold (linkBack_untold q s))
  have link : (linkBack q s).link x
      = (s.modLink q fun k => { k with state := .active, hellos := 0, silenceMs := 0 }).link x := by
    simp only [State.link, links]
  rw [link, modLink_link]

theorem enterActive_link (x : Sender) : (enterActive q s).link x
    = if x = q then { s.link q with state := .active, hellos := 0, silenceMs := 0 } else s.link x := by
  have link : (enterActive q s).link x = (linkBack q s).link x := by
    simp only [enterActive_eq, State.link, changeOwned_links]
  rw [link, linkBack_link]

theorem enterActive_dest (d : DestId) :
    (enterActive q s).dest d = if (s.dest d).owner = some q then unorphaned (s.dest d) else s.dest d := by
  rw [enterActive_eq, changeOwned_dest, linkBack_dest]

theorem enterActive_frame : SameExcept [.links, .dests, .notices] s (enterActive q s) := by
  have untold : (enterActive q s).untold
      = (s.modLink q fun k => { k with state := .active, hellos := 0, silenceMs := 0 }).untold :=
    (changeOwned_untold q unorphaned _).trans (linkBack_untold q s)
  exact ((sameExcept_modLink q _ s).mono (by simp)).trans ((sameExcept_of_untold untold).mono (by simp))

/-- Each destination of the sender is told to it as the link hears again (R112, R114). -/
theorem enterActive_offered : Offered (linkBack q s) (enterActive q s) (ownedBy q (linkBack q s)) :=
  changeOwned_offered q _ fun _ => rfl

end

/-- ORPHANED is cleared, and OPEN and DRAINING are closed (R112). -/
theorem unorphaned_eq (r : Dest) : unorphaned r = { r with
    holds := { r.holds with orphaned := false }
    state := if r.state = .opened ∨ r.state = .draining then .closed else r.state } := by
  unfold unorphaned
  cases r.state <;> rfl

/-- The notices of a request whose block has first moved the sender's own link and its notice sequence, and then told of destinations. -/
theorem Offered.destNotices_answer {q : Sender} {s u : State} {a : Answer} {order : List DestId}
    (h : Offered u a.state order) (tag kind : Byte) (others : ∀ x, x ≠ q → u.link x = s.link x)
    (dest : ∀ d, u.dest d = s.dest d)
    (queue : ∀ st, u.noticeQueue st
      = if q = .station st then { s.noticeQueue st with seq := 0 } else s.noticeQueue st) :
    DestNotices (some q) s (settle (queueReply q tag kind a)) := by
  have lists : ∀ st, (u.noticeQueue st).dests = (s.noticeQueue st).dests ∧ (u.noticeQueue st).places
      = (s.noticeQueue st).places := fun st => by rw [queue]; split <;> exact ⟨rfl, rfl⟩
  have told : ∀ st d l, destNotice u a.state st d l = destNotice s (queueReply q tag kind a) st d l :=
    fun st d l => by rw [destNotice, destNotice, queueReply_dest, dest]
  have answered : ∀ x, x ≠ q → a.state.link x = s.link x := fun x hx => by
    rw [← others x hx]
    simp only [State.link, h.links]
  refine noticesOffered_settle h.perm (fun st => ?_) (fun st => ?_) (freeForNotice_answer tag kind answered)
    fun st free => ?_
  · have all := h.foldl_all st
    simp only [told] at all
    rw [all, queueReply_noticeQueue, h.queue, hears_queueReply, hears_of_links h.links, (lists st).1]
    simp only [told]
  · rw [queueReply_noticeQueue, h.queue, (lists st).2]
  · have other : q ≠ .station st := by
      rintro rfl
      simp [freeForNotice] at free
    rw [queueReply_noticeQueue, h.queue, queue, if_neg other]

/-- A port owes a reply or is sending, so it takes no notice (R164). -/
def owing (st : Station) (s : State) : Prop :=
  (s.link (.station st)).sending = none → (s.link (.station st)).replies ≠ []

theorem fillTransmitter_owing {st : Station} {s : State} (h : owing st s) (x : Sender) :
    owing st (fillTransmitter x s) ∧ (fillTransmitter x s).noticeQueue st = s.noticeQueue st := by
  refine ⟨(fillTransmitter_owed (.station st) x s _ ⟨rfl, h⟩).2, ?_⟩
  by_cases own : x = .station st
  · subst own
    unfold fillTransmitter
    split
    · rfl
    · next free =>
      split
      · rfl
      · next none => exact absurd none (h free)
  · exact congrArg (fun v => v.2.1) (fillTransmitter_portView st x own s)

/-- The notices of a port that owes a reply stand as the event ends, their sequence too. -/
theorem settle_noticeQueue_owing {st : Station} {s : State} (h : (s.link (.station st)).replies ≠ []) :
    (settle s).noticeQueue st = s.noticeQueue st := by
  have before : portView st (settleIdle (syncConditions s)) = portView st s := by
    unfold settleIdle; split <;> simp [portView, syncConditions]
  simp only [portView, Prod.mk.injEq] at before
  obtain ⟨link, queue, -⟩ := before
  have kept := forEach_invariant (fun t => owing st t ∧ t.noticeQueue st = s.noticeQueue st) fillTransmitter allSenders
    (fun x _ t ht => by
      obtain ⟨owes, same⟩ := fillTransmitter_owing ht.1 x
      exact ⟨owes, same.trans ht.2⟩)
    (settleIdle (syncConditions s)) ⟨fun _ => by rw [link]; exact h, queue⟩
  exact kept.2

/-! ### HELLO by the link's state (R166 to R168) -/

/-- The link after a HELLO. -/
def helloLink (k : Link) : Link :=
  match k.state with
  | .down | .lapsed => { k with state := .align, hellos := 1 }
  | .align =>
    if 2 ≤ k.hellos then { k with state := .active, hellos := 0, silenceMs := 0 } else { k with hellos := k.hellos + 1 }
  | .active | .quiet => k

theorem helloLink_owed (k : Link) : (helloLink k).owed = k.owed := by
  unfold helloLink
  split <;> [rfl; rfl; (split <;> rfl); rfl; rfl]

theorem helloLink_silenceMs {k : Link} (h : k.silenceMs = 0) : (helloLink k).silenceMs = 0 := by
  unfold helloLink
  split <;> [exact h; exact h; (split <;> [rfl; exact h]); exact h; exact h]

section
variable {q : Sender} {s : State}

/-- The third HELLO in ALIGN. -/
def trained (q : Sender) (s : State) : Prop := (s.link q).state = .align ∧ 2 ≤ (s.link q).hellos

theorem takeHello_trained (h : trained q s) : takeHello q s = enterActive q s := by
  obtain ⟨align, third⟩ := h
  simp only [takeHello, align, third, if_true]

/-- Any other HELLO moves the link alone. -/
theorem takeHello_untrained (h : ¬trained q s) :
    SameExcept [.links] s (takeHello q s)
      ∧ ∀ x, (takeHello q s).link x = if x = q then helloLink (s.link q) else s.link x := by
  have moves : ∀ f : Link → Link, helloLink (s.link q) = f (s.link q) →
      SameExcept [.links] s (s.modLink q f)
        ∧ ∀ x, (s.modLink q f).link x = if x = q then helloLink (s.link q) else s.link x :=
    fun f hf => ⟨sameExcept_modLink q f s, fun x => by rw [modLink_link, hf]⟩
  have stays : helloLink (s.link q) = s.link q →
      SameExcept [.links] s s ∧ ∀ x, s.link x = if x = q then helloLink (s.link q) else s.link x := fun hk =>
    ⟨sameExcept_refl _ s, fun x => by
      rw [hk]
      split
      · next e => rw [e]
      · rfl⟩
  unfold takeHello
  split
  case h_1 k | h_2 k => exact moves _ (by simp only [helloLink, k])
  case h_3 k =>
    have early : ¬2 ≤ (s.link q).hellos := fun third => h ⟨k, third⟩
    rw [if_neg early]
    exact moves _ (by simp only [helloLink, k, if_neg early])
  case h_4 k | h_5 k => exact stays (by simp only [helloLink, k])

theorem takeHello_link (q : Sender) (s : State) (x : Sender) :
    (takeHello q s).link x = if x = q then helloLink (s.link q) else s.link x := by
  by_cases h : trained q s
  · obtain ⟨align, third⟩ := h
    rw [takeHello_trained ⟨align, third⟩, enterActive_link]
    simp only [helloLink, align, if_pos third]
  · exact (takeHello_untrained h).2 x

theorem takeHello_frame (q : Sender) (s : State) : SameExcept [.links, .dests, .notices] s (takeHello q s) := by
  by_cases h : trained q s
  · rw [takeHello_trained h]
    exact enterActive_frame q s
  · exact (takeHello_untrained h).1.mono (by simp)

end

theorem greeted_trained (q : Sender) (s : State) : trained q (greeted q s) ↔ trained q s := by
  unfold trained
  rw [greeted_link]
  cases (s.link q).state <;> simp

/-- A HELLO by the link's state as it arrives, a QUIET link being ACTIVE again. -/
theorem helloLink_greeted (q : Sender) (s : State) : helloLink ((greeted q s).link q)
    = { s.link q with
        silenceMs := 0
        state := match (s.link q).state with
          | .down | .lapsed => .align
          | .align => if 2 ≤ (s.link q).hellos then .active else .align
          | .active | .quiet => .active
        hellos := match (s.link q).state with
          | .down | .lapsed => 1
          | .align => if 2 ≤ (s.link q).hellos then 0 else (s.link q).hellos + 1
          | .active | .quiet => (s.link q).hellos } := by
  rw [greeted_link]
  cases (s.link q).state <;> simp [helloLink]
  split <;> simp

/-- Settles O43: the reply and the link by its state, and the destinations that are back at the third HELLO. -/
theorem helloTrainsLink : Obligations.HelloTrainsLink := by
  intro s q tag hr room
  obtain ⟨a, ha⟩ : ∃ a, a = handleHello q [] (greeted q s) := ⟨_, rfl⟩
  have after : a.state = takeHello q (greeted q s) := ha ▸ rfl
  have link : a.state.link q = helloLink ((greeted q s).link q) := by rw [after, takeHello_link, if_pos rfl]
  have others : ∀ x, x ≠ q → a.state.link x = (greeted q s).link x := fun x hx => by
    rw [after, takeHello_link, if_neg hx]
  have owed : (a.state.link q).owed = (s.link q).owed := by rw [link, helloLink_owed, greeted_owed]
  obtain ⟨frame, raised, links, state, hellos, silence, replied⟩ :=
    linkRequest_settled tag .hello (l := [.dests, .notices]) (after ▸ takeHello_frame q _) others owed
  have alone : ¬trained q s →
      SameExcept [.receivers, .links, .counters] s (settle (queueReply q tag Kind.hello.code a)) := fun h => by
    obtain ⟨moved, -⟩ := takeHello_untrained (mt (greeted_trained q s).mp h)
    exact (linkRequest_settled tag .hello (l := []) (after ▸ moved) others owed).1
  rw [link, helloLink_greeted] at state hellos silence
  have result : a.status = .done ∧ a.result = helloBytes q a.state := ha ▸ ⟨rfl, rfl⟩
  have bytes : helloBytes q a.state = [byteOf (Sender.index q).val, 0x02#8, 0x64#8, 0x01#8,
      byteOf ((settle (queueReply q tag Kind.hello.code a)).link q).state.number] := by
    rw [state, helloBytes, link, helloLink_greeted]
  rw [result.1, result.2, bytes] at replied
  refine ⟨_, ha ▸ exec_training (k := .hello) rfl tag [] hr room, frame, raised, links, silence, replied,
    fun fresh => ?_, fun align early => ?_, fun align third => ?_, fun up => ?_⟩
  · obtain fresh | fresh := fresh <;> simp only [fresh] at state hellos <;>
      exact ⟨state, hellos, alone fun h => by simp [trained, fresh] at h⟩
  · have first : ¬2 ≤ (s.link q).hellos := by omega
    simp only [align, if_neg first] at state hellos
    exact ⟨state, hellos, alone fun h => first h.2⟩
  · simp only [align, if_pos third] at state hellos
    have active : a.state = enterActive q (greeted q s) := by
      rw [after, takeHello_trained ((greeted_trained q s).mpr ⟨align, third⟩)]
    refine ⟨state, hellos, ?_, ?_, fun d => ?_⟩
    · rintro st rfl
      rw [settle_noticeQueue_owing (by simp [queueReply]), queueReply_noticeQueue, active,
        (enterActive_offered _ _).queue, linkBack_noticeQueue, if_pos rfl]
    · refine (active ▸ enterActive_offered q (greeted q s) : Offered _ a.state _).destNotices_answer tag _
        (fun x hx => ?_) (fun d => ?_) fun st => ?_
      · rw [linkBack_link, if_neg hx, greeted_link_ne q x s hx]
      · rw [linkBack_dest, greeted_dest]
      · rw [linkBack_noticeQueue, greeted_noticeQueue]
    · rw [settle_dest, queueReply_dest, active, enterActive_dest, greeted_dest, unorphaned_eq]
  · obtain up | up := up <;> simp only [up] at state <;>
      exact ⟨state, alone fun h => by simp [trained, up] at h⟩

end Sys2Proof.Machine
end

section
/-! SUPPORT. A gate that goes OUT_OF_SERVICE, the watch that begins, and SET-GATE (R110, R114, R118, R119, R129, R151, R153, R181). -/

namespace Sys2Proof.Machine

/-! ### A gate that goes out is told of (R110, R114, R129) -/

theorem Told.modGate {s u : State} (h : Told s u) (g : GateId) (f : Gate → Gate) : Told s (u.modGate g f) :=
  h.elsewhere rfl rfl rfl

theorem Told.endToken {s u : State} (h : Told s u) (x : TestResult) : Told s (endToken x u) :=
  h.elsewhere (by rw [endToken_eq]) (by rw [endToken_eq]) (by rw [endToken_eq])

theorem Told.gateOut {s u : State} (h : Told s u) (g : GateId) : Told s (gateOut g u) := by
  have rerouted := (h.modGate g fun x => { x with service := .outOfService }).gainRerouting Holds.gateOut
    within_setGateOut [gateDest g .left, gateDest g .right]
  unfold Machine.gateOut
  dsimp only
  split
  · exact (rerouted.endToken _).modGate g _
  · exact rerouted.modGate g _

theorem Told.uncommanded {s u : State} (h : Told s u) (g : GateId) (side : Side) : Told s (uncommanded g side u) := by
  have recorded : Told s (recordFault g .extendUncommanded (some side) u) := h.modGate g _
  unfold Machine.uncommanded handFault
  split
  · exact recorded.gateOut g
  · exact recorded

/-! ### The watch (R151) -/

theorem watched_iff {g : GateId} {s : State} : watched g s = true
    ↔ s.belt.state ≠ .unconfigured ∧ (s.gate g).configured = true ∧ (s.gate g).service = .inService
      ∧ (s.gate g).cycle = none ∧ (s.gate g).checks = [] := by
  simp [watched, State.commissioned, and_assoc]

/-- A gate is watched, and one of its switches reads extended. -/
def findsExtended (g : GateId) (s : State) : Prop :=
  watched g s = true ∧ (s.switchExtended g .left = true ∨ s.switchExtended g .right = true)

/-- As a watch begins, an extension that it finds is recorded, of a free side where both read extended (log 20). -/
theorem beginWatch_cases (g : GateId) (s : State) :
    (¬findsExtended g s ∧ beginWatch g s = s)
      ∨ (findsExtended g s ∧ ∃ side n, beginWatch g s = uncommanded g side (s.drew n)) := by
  unfold beginWatch findsExtended
  by_cases on : watched g s = true
  · rw [if_pos on]
    cases s.switchExtended g .left <;> cases s.switchExtended g .right
    · exact .inl ⟨by simp, rfl⟩
    · exact .inr ⟨⟨on, by simp⟩, .right, 0, rfl⟩
    · exact .inr ⟨⟨on, by simp⟩, .left, 0, rfl⟩
    · exact .inr ⟨⟨on, by simp⟩, _, 1, rfl⟩
  · rw [if_neg on]
    exact .inl ⟨fun h => on h.1, rfl⟩

theorem Told.beginWatch {s u : State} (h : Told s u) (g : GateId) : Told s (beginWatch g u) := by
  obtain ⟨-, same⟩ | ⟨-, side, n, out⟩ := beginWatch_cases g u
  · rw [same]; exact h
  · rw [out]
    exact (h.elsewhere (v := u.drew n) rfl rfl rfl).uncommanded g side

/-! ### A gate that goes out while the map is empty -/

theorem sameExcept_modGate (g : GateId) (f : Gate → Gate) (s : State) : SameExcept [.gates] s (s.modGate g f) :=
  sameExcept_of_kept rfl (fun _ => rfl) (fun _ => rfl) (by simp) (fun _ => rfl) (fun _ => rfl) (fun _ => rfl)
    fun _ => ⟨rfl, rfl, rfl⟩

theorem cascade_of_empty (ds : List DestId) {s : State} (h : s.map = []) : cascade ds s = s := by
  rw [cascade, h]
  rfl

/-- The gate is OUT_OF_SERVICE, and both its destinations carry GATE_OUT (R110, R129). -/
def heldOut (g : GateId) (s : State) : State :=
  forEach ([gateDest g .left, gateDest g .right].filter fun d => !(s.dest d).holds.gateOut) (gainHold setGateOut)
    (s.modGate g fun x => { x with service := .outOfService })

section
variable (g : GateId) (s : State)

theorem heldOut_untold : (heldOut g s).untold = (s.modGate g fun x => { x with service := .outOfService }).untold :=
  forEach_keeps State.untold _ (fun d u => changeDest_untold d _ u) _ _

theorem heldOut_gateOut (y : Side) : ((heldOut g s).dest (gateDest g y)).holds.gateOut = true := by
  have at_gate : gateDest g y ∈ [gateDest g .left, gateDest g .right] := by cases y <;> simp
  rw [heldOut, gainAll_gateOut, modGate_dest]
  cases h : (s.dest (gateDest g y)).holds.gateOut <;> simp [at_gate, h]

variable {s}

/-- With no entry in the map nothing is rerouted and no token ends. -/
theorem gateOut_of_empty (empty : s.map = []) :
    gateOut g s = (syncConditions (heldOut g s)).modGate g fun x => { x with queue := [] } := by
  have unfired : tokenUnfired g s = false := by simp [tokenUnfired, State.find, empty]
  have map : (syncConditions (heldOut g s)).map = [] := by
    rw [syncConditions, modBank_map, map_of_untold (heldOut_untold g s), modGate_map, empty]
  unfold gateOut gainRerouting
  rw [unfired]
  exact congrArg (fun u => State.modGate u g fun x => { x with queue := [] }) (cascade_of_empty _ map)

theorem gateOut_of_empty_gate (empty : s.map = []) (x : GateId) : (gateOut g s).gate x
    = if x = g then { s.gate g with service := .outOfService, queue := [] } else s.gate x := by
  have held : ∀ x, (syncConditions (heldOut g s)).gate x
      = (s.modGate g fun x => { x with service := .outOfService }).gate x := fun x => by
    have gates := gates_of_untold (heldOut_untold g s)
    rw [syncConditions, modBank_gate]
    simp only [State.gate, gates]
  rw [gateOut_of_empty g empty, modGate_gate, held, held, modGate_gate_self]
  split
  · rfl
  · next other => rw [modGate_gate_ne _ _ _ _ other]

theorem gateOut_of_empty_gateOut (empty : s.map = []) (y : Side) :
    ((gateOut g s).dest (gateDest g y)).holds.gateOut = true := by
  rw [gateOut_of_empty g empty, modGate_dest, syncConditions_dest]
  exact heldOut_gateOut g s y

theorem gateOut_of_empty_frame (empty : s.map = []) : SameExcept [.gates, .dests, .notices] s (gateOut g s) := by
  have service := sameExcept_modGate g (fun x => { x with service := .outOfService }) s
  rw [gateOut_of_empty g empty]
  exact (((service.mono (by simp)).trans ((sameExcept_of_untold (heldOut_untold g s)).mono (by simp))).trans
    (syncConditions_frame _)).trans ((sameExcept_modGate g _ _).mono (by simp))

/-- An extension that no fire asked for, at a gate IN_SERVICE (R129, R131, R151, R153). -/
theorem uncommanded_of_empty (side : Side) (empty : s.map = []) (service : (s.gate g).service = .inService) :
    SameExcept [.gates, .dests, .notices] s (uncommanded g side s)
      ∧ (∀ x, (uncommanded g side s).gate x = if x = g then { s.gate g with
            service := .outOfService, queue := []
            fault := (s.gate g).fault.next .extendUncommanded (some side) s.belt.p }
          else s.gate x)
      ∧ ∀ y, ((uncommanded g side s).dest (gateDest g y)).holds.gateOut = true := by
  obtain ⟨u, hu⟩ : ∃ u, u = recordFault g .extendUncommanded (some side) s := ⟨_, rfl⟩
  have gate : ∀ x, u.gate x = if x = g then
      { s.gate g with fault := (s.gate g).fault.next .extendUncommanded (some side) s.belt.p } else s.gate x :=
    fun x => by rw [hu, recordFault, modGate_gate]
  have empty' : u.map = [] := by rw [hu, recordFault, modGate_map, empty]
  have out : uncommanded g side s = gateOut g u := by
    rw [uncommanded, ← hu, handFault, gate, if_pos rfl]
    exact if_pos service
  rw [out]
  refine ⟨?_, fun x => ?_, gateOut_of_empty_gateOut g empty'⟩
  · have recorded : SameExcept [.gates] s u := hu ▸ sameExcept_modGate g _ s
    exact (recorded.mono (by simp)).trans (gateOut_of_empty_frame g empty')
  · rw [gateOut_of_empty_gate g empty', gate, gate, if_pos rfl]
    split <;> rfl

end

/-! ### The fields of a gate are stored (R118, R151) -/

/-- The service state, the cycle and the checks are those of the gate before: a SET-GATE does not carry them (9.2). -/
def SameMotion (a b : Gate) : Prop := b.service = a.service ∧ b.cycle = a.cycle ∧ b.checks = a.checks

theorem clampGate_sameMotion (pl : List Byte) (r : Gate) : SameMotion r (clampGate (readGate pl r)) :=
  ⟨rfl, rfl, rfl⟩

/-- A gate that becomes watched with a switch extended (R151). -/
def goesOut (g : GateId) (h : Gate) (s : State) : Prop :=
  s.belt.state ≠ .unconfigured ∧ (s.gate g).configured = false ∧ h.configured = true
    ∧ (s.gate g).service = .inService ∧ (s.gate g).cycle = none ∧ (s.gate g).checks = []
    ∧ (s.switchExtended g .left = true ∨ s.switchExtended g .right = true)

section
variable {g : GateId} {h : Gate} {s : State}

theorem findsExtended_stored (same : SameMotion (s.gate g) h) (fresh : (s.gate g).configured = false) :
    findsExtended g (s.modGate g fun _ => h) ↔ goesOut g h s := by
  obtain ⟨service, cycle, checks⟩ := same
  simp only [findsExtended, watched_iff, modGate_gate_self, modGate_belt, modGate_switchExtended, service, cycle, checks,
    goesOut, fresh, true_and, and_assoc]

theorem storeGate_kept (same : SameMotion (s.gate g) h) (stays : ¬goesOut g h s) :
    storeGate g h s = s.modGate g fun _ => h := by
  unfold storeGate
  dsimp only
  split
  · next becomes =>
    obtain ⟨-, fresh⟩ : h.configured = true ∧ (s.gate g).configured = false := by simpa using becomes
    obtain ⟨-, quiet⟩ | ⟨found, -⟩ := beginWatch_cases g (s.modGate g fun _ => h)
    · exact quiet
    · exact absurd ((findsExtended_stored same fresh).mp found) stays
  · rfl

theorem storeGate_out (same : SameMotion (s.gate g) h) (out : goesOut g h s) :
    ∃ side n, storeGate g h s = uncommanded g side ((s.modGate g fun _ => h).drew n) := by
  have found := fun fresh => (findsExtended_stored same fresh).mpr out
  obtain ⟨-, fresh, becomes, -⟩ := out
  obtain ⟨quiet, -⟩ | ⟨-, side, n, taken⟩ := beginWatch_cases g (s.modGate g fun _ => h)
  · exact absurd (found fresh) quiet
  · refine ⟨side, n, ?_⟩
    rw [← taken, storeGate, becomes, fresh]
    rfl

theorem told_storeGate (g : GateId) (h : Gate) (s : State) : Told s (storeGate g h s) := by
  have stored := (told_refl s).modGate g fun _ => h
  unfold storeGate
  dsimp only
  split
  · exact stored.beginWatch g
  · exact stored

theorem storeGate_links (g : GateId) (h : Gate) (s : State) : (storeGate g h s).links = s.links := by
  obtain ⟨_, told⟩ := told_storeGate g h s
  exact told.links

/-- What storing the fields of a gate leaves where the gate goes out: the map is empty, so no entry moves (R119, R151). -/
theorem storeGate_out_settled (same : SameMotion (s.gate g) h) (out : goesOut g h s) (empty : s.map = []) :
    SameExcept [.gates, .dests, .notices] s (storeGate g h s)
      ∧ (∃ r : FaultRecord, r.cause = .extendUncommanded ∧ (storeGate g h s).gate g
          = { h with service := .outOfService, queue := [], fault := r })
      ∧ SameOtherGates s (storeGate g h s) g
      ∧ ∀ y, ((storeGate g h s).dest (gateDest g y)).holds.gateOut = true := by
  obtain ⟨side, n, taken⟩ := storeGate_out same out
  obtain ⟨-, -, -, service, -⟩ := out
  obtain ⟨w, hw⟩ : ∃ w, w = (s.modGate g fun _ => h).drew n := ⟨_, rfl⟩
  have gate : ∀ x, w.gate x = if x = g then h else s.gate x := fun x => by rw [hw, drew_gate, modGate_gate]
  have stored : SameExcept [.gates] s w :=
    hw ▸ sameExcept_of_kept rfl (fun _ => rfl) (fun _ => rfl) (by simp) (fun _ => rfl) (fun _ => rfl) (fun _ => rfl)
      fun _ => ⟨rfl, rfl, rfl⟩
  obtain ⟨frame, gates, held⟩ := uncommanded_of_empty g side (s := w) (by rw [hw, drew_map, modGate_map, empty])
    (by rw [gate, if_pos rfl, same.1, service])
  rw [taken, ← hw]
  refine ⟨(stored.mono (by simp)).trans frame,
    ⟨(w.gate g).fault.next .extendUncommanded (some side) w.belt.p, rfl, ?_⟩, fun x hx => ?_, held⟩
  · rw [gates, if_pos rfl, gate, if_pos rfl]
  · rw [gates, if_neg hx, gate, if_neg hx]

end

/-! ### SET-GATE (R181) -/

theorem clampStatus_bne {α : Type} [DecidableEq α] (v asked : α) :
    clampStatus (v != asked) = if v = asked then .done else .doneClamped := by
  by_cases h : v = asked <;> simp [clampStatus, h]

/-- The geometry check that a SET-GATE fails on a commissioned belt, if any. -/
def failedGateCheck (g : GateId) (h : Gate) (s : State) : Option Nat :=
  if gateGeometryDiffers (s.gate g) h = true ∧ s.belt.state ≠ .unconfigured then
    firstFailed (geometryChecks (s.gates.set g h) s.settings s.routes)
  else none

theorem failedGateCheck_eq (g : GateId) (h : Gate) (s : State) :
    (if gateGeometryDiffers (s.gate g) h && s.commissioned then
        firstFailed (geometryChecks (s.gates.set g h) s.settings s.routes) else none) = failedGateCheck g h s := by
  simp only [failedGateCheck, Bool.and_eq_true, commissioned_iff]

/-- The steps of a SET-GATE in their order (R181). -/
theorem setGateOf_eq (g : GateId) (pl : List Byte) (s : State) : setGateOf g pl s =
    let asked := readGate pl (s.gate g)
    let h := clampGate asked
    if gateGeometryDiffers (s.gate g) h = true ∧ (s.belt.state = .running ∨ s.map ≠ []) then gateReply g .busy s
    else if (s.gate g).configured = true ∧ h.configured = false
        ∧ ((s.dest (gateDest g .left)).owner ≠ none ∨ (s.dest (gateDest g .right)).owner ≠ none) then
      gateReply g .state s
    else (failedGateCheck g h s).elim (gateReply g (if h = asked then .done else .doneClamped) (storeGate g h s))
      fun n => ⟨s, .badConfig, setGateBytes g (s.gate g) ++ [byteOf n]⟩ := by
  unfold setGateOf
  simp only [failedGateCheck_eq]
  simp only [Bool.and_eq_true, geometryBusy_iff, gateClaimed, Bool.or_eq_true, Bool.not_eq_true',
    Option.isSome_iff_ne_none, clampStatus_bne, and_assoc]
  cases failedGateCheck g (clampGate (readGate pl (s.gate g))) s <;> rfl

/-- GATE_FAULT is set while any gate is OUT_OF_SERVICE (R129). -/
theorem settle_level_gateFault (s : State) : (settle s).bank.levels.getLsbD 7 = levelGateFault s := by
  rw [settle_levels, condLevels, BitVec.getLsbD_ofNat, testBit_packBits]; rfl

section
variable {g : GateId} {h : Gate} {s : State}

theorem goesOut_greeted (q : Sender) : goesOut g h (greeted q s) ↔ goesOut g h s := by
  simp only [goesOut, greeted_belt, greeted_gate, greeted_switchExtended]

/-- SET-GATE where the gate stays in service as its fields are stored. -/
theorem setGate_kept_settled (tag : Byte) (status : Status) (same : SameMotion (s.gate g) h) (stays : ¬goesOut g h s) :
    let t := settle (queueReply .site tag Kind.setGate.code (gateReply g status (storeGate g h (greeted .site s))))
    Took .site [.gates] s t ∧ t.gate g = h ∧ SameOtherGates s t g
      ∧ Replied s t .site tag .setGate status (setGateBytes g h) := by
  obtain ⟨u, hu⟩ : ∃ u, u = storeGate g h (greeted .site s) := ⟨_, rfl⟩
  have links : u.links = (greeted .site s).links := hu ▸ storeGate_links g h _
  have stored : u = (greeted .site s).modGate g fun _ => h := by
    rw [hu, storeGate_kept (by rwa [greeted_gate]) (by rwa [goesOut_greeted])]
  have frame : SameExcept [.gates] (greeted .site s) u := stored ▸ sameExcept_modGate g _ _
  have gate : ∀ x, u.gate x = if x = g then h else s.gate x := fun x => by
    rw [stored, modGate_gate, greeted_gate]
  rw [← hu]
  obtain ⟨took, -, -, replied⟩ := answer_settled tag .setGate (a := gateReply g status u) frame links
  rw [show (gateReply g status u).result = setGateBytes g (u.gate g) from rfl, gate, if_pos rfl] at replied
  refine ⟨took, ?_, fun x hx => ?_, replied⟩
  · rw [settle_gate, queueReply_gate, gateReply, gate, if_pos rfl]
  · rw [settle_gate, queueReply_gate, gateReply, gate, if_neg hx]

/-- SET-GATE where the gate goes out as its watch begins (R151). -/
theorem setGate_out_settled (tag : Byte) (status : Status) (same : SameMotion (s.gate g) h) (out : goesOut g h s)
    (empty : s.map = []) :
    let t := settle (queueReply .site tag Kind.setGate.code (gateReply g status (storeGate g h (greeted .site s))))
    Took .site [.gates, .dests, .notices] s t ∧ DestNotices (some .site) s t
      ∧ t.gate g = { h with service := .outOfService, queue := [], fault := (t.gate g).fault }
      ∧ (t.gate g).fault.cause = .extendUncommanded ∧ SameOtherGates s t g
      ∧ (∀ y : Side, (t.dest (gateDest g y)).holds.gateOut = true) ∧ t.bank.levels.getLsbD 7 = true
      ∧ Replied s t .site tag .setGate status (setGateBytes g (t.gate g)) := by
  obtain ⟨u, hu⟩ : ∃ u, u = storeGate g h (greeted .site s) := ⟨_, rfl⟩
  obtain ⟨frame, ⟨fault, cause, self⟩, others, held⟩ := storeGate_out_settled (s := greeted .site s)
    (by rwa [greeted_gate]) ((goesOut_greeted .site).mpr out) (by rw [greeted_map, empty])
  have told := told_storeGate g h (greeted .site s)
  have links := storeGate_links g h (greeted .site s)
  rw [← hu] at frame self others held told links ⊢
  intro t
  have gate : ∀ x, t.gate x = u.gate x := fun x => by rw [settle_gate, queueReply_gate]; rfl
  have dest : ∀ x, t.dest x = u.dest x := fun x => by rw [settle_dest, queueReply_dest]; rfl
  obtain ⟨took, -, -, replied⟩ := answer_settled tag .setGate (a := gateReply g status u) frame links
  refine ⟨took, told.destNotices tag _ _ _, ?_, ?_, fun x hx => ?_, fun y => ?_, ?_, ?_⟩
  · rw [gate, self]
  · rw [gate, self, cause]
  · rw [gate, others x hx, greeted_gate]
  · rw [dest, held]
  · rw [settle_level_gateFault, levelGateFault, List.any_eq_true]
    refine ⟨g, mem_allGates g, ?_⟩
    rw [queueReply_gate, gateReply, self]
    rfl
  · rw [gate]
    exact replied

end

/-- A change of the configured flag is a change of the geometry (R119). -/
theorem gateGeometryDiffers_of_configured {r h : Gate} (off : r.configured = false) (on : h.configured = true) :
    gateGeometryDiffers r h = true := by
  simp [gateGeometryDiffers, off, on]

/-- Settles O50: the number, the steps of R181 in their order, and the fields as stored with the watch that may begin. -/
theorem setGateClampsAndStores : Obligations.SetGateClampsAndStores := by
  intro s tag x pl hs length
  have admissible : Admissible .setGate .site (x :: pl) s :=
    admissible_site .setGate (x :: pl) s hs rfl (by simp [Kind.payloadFits, length]) rfl
  refine ⟨_, exec_served (k := .setGate) (tag := tag) hs admissible (by simp), ?_⟩
  have number : byteAt (x :: pl) 0 = x.toNat := rfl
  rw [show handlerOf .setGate = handleSetGate from rfl, handleSetGate, number]
  cases hx : inRange? 12 x.toNat with
  | none =>
    obtain ⟨took, -, -, replied⟩ := unchanged_settled .site tag .setGate s .argument []
    exact ⟨took, replied⟩
  | some g =>
    have same := clampGate_sameMotion (x :: pl) (s.gate g)
    have unchanged := fun status result => unchanged_settled .site tag .setGate s status result
    dsimp only
    simp only [setGateOf_eq, greeted_gate, greeted_belt, greeted_map, greeted_dest]
    generalize readGate (x :: pl) (s.gate g) = asked at same ⊢
    generalize clampGate asked = h at same ⊢
    by_cases busy : gateGeometryDiffers (s.gate g) h = true ∧ (s.belt.state = .running ∨ s.map ≠ [])
    · obtain ⟨took, -, -, replied⟩ := unchanged .busy (setGateBytes g (s.gate g))
      simp only [if_pos busy, gateReply, greeted_gate]
      exact ⟨took, replied⟩
    simp only [if_neg busy]
    by_cases claimed : (s.gate g).configured = true ∧ h.configured = false
        ∧ ((s.dest (gateDest g .left)).owner ≠ none ∨ (s.dest (gateDest g .right)).owner ≠ none)
    · obtain ⟨took, -, -, replied⟩ := unchanged .state (setGateBytes g (s.gate g))
      simp only [if_pos claimed, gateReply, greeted_gate]
      exact ⟨took, replied⟩
    simp only [if_neg claimed]
    have check : failedGateCheck g h (greeted .site s) = failedGateCheck g h s := by
      simp only [failedGateCheck, greeted_gate, greeted_belt, greeted_gates, greeted_settings, greeted_routes]
    rw [check]
    cases failed : failedGateCheck g h s with
    | some n =>
      obtain ⟨took, -, -, replied⟩ := unchanged .badConfig (setGateBytes g (s.gate g) ++ [byteOf n])
      unfold failedGateCheck at failed
      rw [failed]
      exact ⟨took, replied⟩
    | none =>
      unfold failedGateCheck at failed
      rw [failed]
      dsimp only [Option.elim_none]
      by_cases out : goesOut g h s
      · have empty : s.map = [] := by
          obtain ⟨-, off, on, -⟩ := out
          by_contra held
          exact busy ⟨gateGeometryDiffers_of_configured off on, .inr held⟩
        obtain ⟨took, notices, rest⟩ :=
          setGate_out_settled tag (if h = asked then .done else .doneClamped) same out empty
        have watch := out
        unfold goesOut at watch
        rw [if_pos watch]
        exact ⟨took, notices, empty, rest⟩
      · have unwatched := out
        unfold goesOut at unwatched
        rw [if_neg unwatched]
        exact setGate_kept_settled tag _ same out

end Sys2Proof.Machine
end

section
/-! SUPPORT. The gates after reset: every gate record at the values of its table, no test result and no gate fault (R129, R135, R137). -/

namespace Sys2Proof.Machine

/-- No gate is OUT_OF_SERVICE after reset, so the GATE_FAULT level that the conditions give is clear (R129). -/
theorem resetPart_levelGateFault (s : State) : levelGateFault (resetPart s) = false := by
  rw [levelGateFault, List.any_eq_false]
  intro g _
  rw [resetPart_gate]
  decide

/-- The stored GATE_FAULT level after reset agrees with the gates (R129, R194). -/
theorem resetPart_level_gateFault (s : State) : (resetPart s).bank.levels.getLsbD 7 = false := by
  obtain ⟨levels, -⟩ := resetPart_conditionLaw s
  rw [levels, condLevels, BitVec.getLsbD_ofNat, testBit_packBits]
  exact resetPart_levelGateFault s

/-- Settles O3: each gate after reset is the record of the table, and the level follows from the gates. -/
theorem resetSetsGates : Obligations.ResetSetsGates := by
  intro c s hc
  refine ⟨resetPart s, exec_reset hc s, fun g => ?_, rfl, rfl, rfl, resetPart_level_gateFault s⟩
  rw [resetPart_gate]
  exact ⟨rfl, rfl, rfl, rfl, rfl, rfl, rfl, rfl, rfl, rfl, rfl, rfl⟩

end Sys2Proof.Machine
end

section
/-! SUPPORT. The confirm eye: how its raw edges and its 20 ms move it between its four states (R141, R148, R149). -/

namespace Sys2Proof.Machine

variable {s : State} {d : DestId}

/-- The record of a destination whose confirm eye has made a raw edge: the eye in its next state, and the three timers from 0 (R141, R148, R149). -/
def eyeEdgeRecord (blocked : Bool) (r : Dest) : Dest :=
  { r with eye := if blocked then eyeOnBlocked r.eye else eyeOnClear r.eye, eyeMs := 0, blockMs := 0, clearMs := 0 }

theorem eyeEdge_eq (d : DestId) (b : Bool) (s : State) : eyeEdge d b s = s.modDest d (eyeEdgeRecord b) := rfl

/-- Until it has been seen, the eye is BLOCKING while blocked and CLEAR while clear (R141). -/
theorem eyeEdgeRecord_eye_unseen {r : Dest} (unseen : r.eye = .clear ∨ r.eye = .blocking) (b : Bool) :
    (eyeEdgeRecord b r).eye = if b = true then .blocking else .clear := by
  rcases unseen with h | h <;> simp only [eyeEdgeRecord, h, eyeOnBlocked, eyeOnClear]

/-- Once seen, it is SEEN while blocked and CLEARING while clear, until it has settled (R141). -/
theorem eyeEdgeRecord_eye_seen {r : Dest} (seen : r.eye = .seen ∨ r.eye = .clearing) (b : Bool) :
    (eyeEdgeRecord b r).eye = if b = true then .seen else .clearing := by
  rcases seen with h | h <;> simp only [eyeEdgeRecord, h, eyeOnBlocked, eyeOnClear]

theorem setConfirmEye_dest (b : Bool) (x : DestId) : (setConfirmEye d b s).dest x = s.dest x := rfl

theorem setConfirmEye_frame (d : DestId) (b : Bool) (s : State) : SameExcept [.pins] s (setConfirmEye d b s) :=
  sameExcept_of_front rfl (by simp [frontBlocks, Block.same, SameDests, setConfirmEye])

theorem exec_confirmEyeChange {b : Bool} (hr : s.inReset = false) (h : s.confirmEye d = !b) :
    exec (.confirmEyeChange d b) s = .next (settle ((setConfirmEye d b s).modDest d (eyeEdgeRecord b))) := by
  have edge : s.confirmEye d ≠ b := by simp [h]
  rw [exec_input (c := .confirmEyeChange d b) rfl hr, if_neg edge, eyeEdge_eq]

theorem exec_confirmEyeClearSettled (hr : s.inReset = false) (eye : (s.dest d).eye = .clearing)
    (ms : 20 ≤ (s.dest d).eyeMs) :
    exec (.confirmEyeClearSettled d) s = .next (settle (s.modDest d fun r => { r with eye := .clear })) := by
  have due : clearSettledDue s d = true := by simp [clearSettledDue, eye, ms]
  exact exec_due (c := .confirmEyeClearSettled d) rfl hr due

/-- Settles O32: a raw edge by whether the eye has been seen, and the end of the 20 ms of CLEARING. -/
theorem confirmEyeStates : Obligations.ConfirmEyeStates := by
  intro s d hr
  refine ⟨fun b h => ?_, fun eye ms => ?_⟩
  · have frame : SameExcept [.pins, .dests] s ((setConfirmEye d b s).modDest d (eyeEdgeRecord b)) :=
      ((setConfirmEye_frame d b s).mono (by simp)).trans ((modDest_frame d _ _).mono (by simp))
    have self : (settle ((setConfirmEye d b s).modDest d (eyeEdgeRecord b))).dest d = eyeEdgeRecord b (s.dest d) := by
      rw [settle_dest, modDest_dest_self, setConfirmEye_dest]
    refine ⟨_, exec_confirmEyeChange hr h, frame.settled, fun x hx => ?_, ?_, ?_, ?_⟩
    · rw [settle_dest, modDest_dest_ne _ _ _ _ hx, setConfirmEye_dest]
    · rw [settle_pins]; rfl
    · rw [self]; rfl
    · rw [self]
      exact ⟨fun h => eyeEdgeRecord_eye_unseen (.inl h) b, fun h => eyeEdgeRecord_eye_unseen (.inr h) b,
        fun h => eyeEdgeRecord_eye_seen (.inl h) b, fun h => eyeEdgeRecord_eye_seen (.inr h) b⟩
  · refine ⟨_, exec_confirmEyeClearSettled hr eye ms, (modDest_frame d s _).settled, ?_, fun x hx => ?_⟩
    · rw [settle_dest, modDest_dest_self]
    · rw [settle_dest, modDest_dest_ne _ _ _ _ hx]

end Sys2Proof.Machine
end

section
/-! SUPPORT. What a port has on its line as an event ends: the oldest reply, or else a notice, or nothing (R164, R175, R176). -/

namespace Sys2Proof.Machine

/-! ### One transmitter -/

/-- Filling another port leaves a port's link alone. -/
theorem fillTransmitter_link_ne {x q : Sender} (h : q ≠ x) (s : State) :
    (fillTransmitter x s).link q = s.link q := by
  unfold fillTransmitter
  split
  · rfl
  · split
    · exact modLink_link_ne _ _ _ _ h
    · split
      · unfold takeNotice
        split
        · dsimp only
          split
          case h_1 | h_2 => rw [modNotices_link, modLink_link_ne _ _ _ _ h]
          case h_3 => rfl
        · rfl
      · rfl

section
variable {q : Sender} {s : State}

/-- A free transmitter takes the oldest reply (R164). -/
theorem fillTransmitter_reply (free : (s.link q).sending = none) {r : Reply} {rest : List Reply}
    (h : (s.link q).replies = r :: rest) :
    fillTransmitter q s = s.modLink q fun k => sendFrame r.frame { k with replies := rest } := by
  simp only [fillTransmitter, free, h]

/-- No notice is there for a port to send: it is the site's, or a station's that does not hear or has none waiting. -/
def noNotice (q : Sender) (s : State) : Prop :=
  ∀ st : Station, q = .station st →
    hears s st = false ∨ (s.noticeQueue st).dests = [] ∧ (s.noticeQueue st).places = []

/-- A transmitter with nothing to take takes nothing. -/
theorem fillTransmitter_idle (noReply : (s.link q).replies = []) (h : noNotice q s) : fillTransmitter q s = s := by
  unfold fillTransmitter
  split
  · rfl
  · rw [noReply]
    cases q with
    | site => rfl
    | station st =>
      dsimp only
      obtain deaf | ⟨dests, places⟩ := h st rfl
      · rw [takeNotice, if_neg (by simp [deaf])]
      · simp only [takeNotice, dests, places, ite_self]

end

/-! ### All transmitters -/

/-- Each port is filled once as an event ends. -/
theorem allSenders_split (q : Sender) : ∃ a b : List Sender, allSenders = a ++ q :: b ∧ q ∉ a ∧ q ∉ b := by
  cases q with
  | station st => exact allSenders_station st
  | site => exact ⟨allStations.map .station, [], rfl, by decide, by decide⟩

theorem forEach_fillTransmitter_link {q : Sender} {l : List Sender} (h : q ∉ l) (s : State) :
    (forEach l fillTransmitter s).link q = s.link q :=
  forEach_invariant (fun t => t.link q = s.link q) fillTransmitter l
    (fun _ hx t ht => (fillTransmitter_link_ne (ne_of_mem_of_not_mem hx h).symm t).trans ht) s rfl

/-- As an event ends, a port's link is that of its transmitter filled in a state that shows it the same link and the same notices. -/
theorem settle_link_filled (q : Sender) (s : State) : ∃ u : State, u.link q = s.link q
    ∧ (noNotice q s → noNotice q u) ∧ (settle s).link q = (fillTransmitter q u).link q := by
  obtain ⟨a, b, split, before, behind⟩ := allSenders_split q
  have start : ∀ x, (settleIdle (syncConditions s)).link x = s.link x := fun x => by
    unfold settleIdle; split <;> simp [syncConditions]
  refine ⟨forEach a fillTransmitter (settleIdle (syncConditions s)), ?_, fun silent st hq => ?_, ?_⟩
  · rw [forEach_fillTransmitter_link before, start]
  · subst hq
    have view : portView st (forEach a fillTransmitter (settleIdle (syncConditions s))) = portView st s := by
      rw [forEach_portView st a before]
      unfold settleIdle; split <;> simp [portView, syncConditions]
    simp only [portView, Prod.mk.injEq] at view
    obtain ⟨link, queue, -⟩ := view
    simpa only [hears, link, queue] using silent st rfl
  · have last : settle s = forEach b fillTransmitter (fillTransmitter q
        (forEach a fillTransmitter (settleIdle (syncConditions s)))) := by
      simp only [settle, forEach, split, List.foldl_append, List.foldl_cons]
    rw [last, forEach_fillTransmitter_link behind]

section
variable {q : Sender} {s : State}

/-- As an event ends, a free port has its oldest reply on the line, before any notice (R164). -/
theorem settle_link_reply (free : (s.link q).sending = none) {r : Reply} {rest : List Reply}
    (h : (s.link q).replies = r :: rest) :
    (settle s).link q = sendFrame r.frame { s.link q with replies := rest } := by
  obtain ⟨u, link, -, filled⟩ := settle_link_filled q s
  rw [← link] at free h ⊢
  rw [filled, fillTransmitter_reply free h, modLink_link_self]

/-- As an event ends, a port with nothing to take has taken nothing. -/
theorem settle_link_idle (noReply : (s.link q).replies = []) (h : noNotice q s) : (settle s).link q = s.link q := by
  obtain ⟨u, link, silent, filled⟩ := settle_link_filled q s
  rw [filled, fillTransmitter_idle (link ▸ noReply) (silent h), link]

end

/-! ### The end of a frame (R164, R176) -/

/-- The port's frame has left its line. -/
def lineFree (q : Sender) (s : State) : State := s.modLink q fun k => { k with sending := none }

theorem lineFree_link (q : Sender) (s : State) : (lineFree q s).link q = { s.link q with sending := none } :=
  modLink_link_self _ _ _

theorem hears_lineFree (q : Sender) (s : State) (st : Station) : hears (lineFree q s) st = hears s st := by
  unfold hears lineFree
  rw [modLink_link]
  split
  · next h => rw [h]
  · rfl

theorem noNotice_lineFree {q : Sender} {s : State} : noNotice q (lineFree q s) ↔ noNotice q s := by
  simp only [noNotice, hears_lineFree]
  rfl

/-- A frame that is on the line of a port. -/
theorem sending_of_frame {k : Link} {f : Frame} (h : k.sending.map Sending.frame = some f) :
    ∃ x, k.sending = some x ∧ x.frame = f := by simpa using h

/-- The port is free for a notice then, where no reply waits (R164). -/
theorem lineFree_free {st : Station} {s : State} (noReply : (s.link (.station st)).replies = []) :
    freeForNotice none (lineFree (.station st) s) st = true := by simp [freeForNotice, lineFree_link, noReply]

section
variable {st : Station} {s : State} (noReply : (s.link (.station st)).replies = []) (h : hears s st = true)
include noReply h

/-- With no reply waiting, a station that hears sends its oldest DEST-STATE as its frame ends (R164, R176). -/
theorem lineFree_sends_item {i : DestItem} {rest : List DestItem} (dests : (s.noticeQueue st).dests = i :: rest) :
    let t := settle (lineFree (.station st) s)
    t.noticeQueue st = { s.noticeQueue st with dests := rest, seq := (s.noticeQueue st).seq + 1 }
      ∧ (t.link (.station st)).sending.map Sending.frame = some (destItemFrame t (s.noticeQueue st).seq i) := by
  have leaves := (settle_leaves st (lineFree (.station st) s)).1
    (by rw [hears_settle, hears_lineFree, h])
    (lineFree_free noReply)
  have queue : (lineFree (.station st) s).noticeQueue st = s.noticeQueue st := rfl
  rw [queue, dests] at leaves
  exact leaves

/-- With no DEST-STATE waiting either, it sends its oldest notice. -/
theorem lineFree_sends_notice {n : Notice} {rest : List Notice} (dests : (s.noticeQueue st).dests = [])
    (places : (s.noticeQueue st).places = n :: rest) :
    let t := settle (lineFree (.station st) s)
    t.noticeQueue st = { dests := [], places := rest, seq := (s.noticeQueue st).seq + 1 }
      ∧ (t.link (.station st)).sending.map Sending.frame
        = some ⟨(noticeFrame n).1, (s.noticeQueue st).seq, (noticeFrame n).2⟩ := by
  have leaves := (settle_leaves st (lineFree (.station st) s)).1
    (by rw [hears_settle, hears_lineFree, h])
    (lineFree_free noReply)
  have queue : (lineFree (.station st) s).noticeQueue st = s.noticeQueue st := rfl
  rw [queue, dests, places] at leaves
  exact leaves

end

theorem lineFree_frame (q : Sender) (s : State) : SameExcept [.links, .notices] s (lineFree q s) :=
  (sameExcept_modLink q _ s).mono (by simp)

/-- A port with nothing to take is free after its frame. -/
theorem lineFree_stays {q : Sender} {s : State} (noReply : (s.link q).replies = []) (h : noNotice q s) :
    ((settle (lineFree q s)).link q).sending = none := by
  rw [settle_link_idle (by rw [lineFree_link, noReply]) (noNotice_lineFree.mpr h), lineFree_link]

/-- Settles O48: as the line falls free, the oldest reply goes, or else a station's oldest DEST-STATE or notice, or nothing. -/
theorem transmitterPrefersReplies : Obligations.TransmitterPrefersReplies := by
  intro s q hr
  refine ⟨_, exec_event (c := .frameSent q) (f := lineFree q) rfl hr, (lineFree_frame q s).settled,
    fun r rest waiting => ?_, fun noReply site => ?_, ?_⟩
  · rw [settle_link_reply (by rw [lineFree_link]) (by rw [lineFree_link, waiting])]
    exact ⟨⟨_, rfl, rfl⟩, rfl⟩
  · exact lineFree_stays noReply fun st hq => by rw [site] at hq; cases hq
  · rintro st rfl noReply
    refine ⟨fun h => ⟨fun d rest dests => ?_, fun d fixed rest dests => ?_, fun n rest dests places => ?_⟩,
      fun silent => lineFree_stays noReply fun x hx => ?_⟩
    · obtain ⟨queue, sent⟩ := lineFree_sends_item noReply h dests
      rw [destItemFrame, settle_dest] at sent
      exact ⟨sending_of_frame sent, by rw [queue], by rw [queue]⟩
    · obtain ⟨queue, sent⟩ := lineFree_sends_item noReply h dests
      exact ⟨sending_of_frame sent, by rw [queue], by rw [queue]⟩
    · obtain ⟨queue, sent⟩ := lineFree_sends_notice noReply h dests places
      exact ⟨sending_of_frame sent, by rw [queue], by rw [queue]⟩
    · cases hx
      exact silent

end Sys2Proof.Machine
end

section
/-! SUPPORT. The receivers byte by byte: a frame in progress, the frames that re-examination starts, and what a bad frame leaves (R158, R159, R160, R165, R167). -/

namespace Sys2Proof.Machine

/-! ### Frames as they are assembled (R159, R160) -/

/-- A frame whose length byte is out of range is bad at once. -/
theorem assemble_badLength {b : Byte} (h : b.toNat < 2 ∨ 50 < b.toNat) (l : List Byte) : assemble (b :: l) = .bad :=
  if_pos h

section
variable {b : Byte} (least : 2 ≤ b.toNat) (most : b.toNat ≤ 50) {l : List Byte}
include least most

/-- Up to its check byte a frame is incomplete. -/
theorem assemble_short (h : l.length ≤ b.toNat) : assemble (b :: l) = .incomplete := by
  have inRange : ¬(byteAt (b :: l) 0 < 2 ∨ 50 < byteAt (b :: l) 0) := by simp [byteAt]; omega
  exact (if_neg inRange).trans (if_pos (by simp [byteAt]; omega))

/-- With its check byte it is good or bad by the CRC-8 of the bytes before it. -/
theorem assemble_checked (h : l.length = b.toNat) (check : Byte) : assemble (b :: l ++ [check])
    = if check = crc8 (b :: l) then .good (l.getD 0 0) (l.getD 1 0) (l.drop 2) else .bad := by
  have inRange : ¬(byteAt (b :: (l ++ [check])) 0 < 2 ∨ 50 < byteAt (b :: (l ++ [check])) 0) := by
    simp [byteAt]; omega
  have first : (byteAt (b :: (l ++ [check])) 0) = l.length := by simp [byteAt, h]
  have h0 : 0 < l.length := by omega
  have h1 : 1 < l.length := by omega
  rw [List.cons_append, assemble, if_neg inRange, first]
  simp [h0, h1]

end

/-! ### A frame in progress -/

/-- A port's receiver has kept these bytes since the sync. -/
def inFrame (gap : Option Nat) (p : Port) (l : List Byte) (s : State) : State :=
  s.modReceiver p fun _ => ⟨some l, gap⟩

section
variable {gap : Option Nat} {p : Port} {l : List Byte} {s : State}

theorem inFrame_kept : ((inFrame gap p l s).receiver p).kept = some l := by simp [inFrame]

theorem modReceiver_inFrame (r : Receiver) :
    (inFrame gap p l s).modReceiver p (fun _ => r) = s.modReceiver p fun _ => r := by
  simp [inFrame, State.modReceiver]

theorem hunt_inFrame : hunt p (inFrame gap p l s) = hunt p s := modReceiver_inFrame {}

theorem discardFrame_inFrame : discardFrame p (inFrame gap p l s) = discardFrame p s := by
  rw [discardFrame, hunt_inFrame, discardFrame]

theorem stepItem_sync (h : (s.receiver p).kept = none) :
    stepItem gap p s (.byte syncByte) = (inFrame gap p [] s, []) := stepByte_sync gap p s h

theorem stepItem_incomplete {g : Option Nat} {b : Byte} (h : assemble (l ++ [b]) = .incomplete) :
    stepItem g p (inFrame gap p l s) (.byte b) = (inFrame g p (l ++ [b]) s, []) := by
  rw [stepItem, stepByte_inFrame g p b _ l inFrame_kept, h, modReceiver_inFrame]
  rfl

theorem stepItem_good {g : Option Nat} {b kind tag : Byte} {pl : List Byte}
    (h : assemble (l ++ [b]) = .good kind tag pl) :
    stepItem g p (inFrame gap p l s) (.byte b) = (settleIdle (takeGoodFrame p kind tag pl (hunt p s)), []) := by
  rw [stepItem, stepByte_inFrame g p b _ l inFrame_kept, h, hunt_inFrame]

theorem stepItem_bad {g : Option Nat} {b : Byte} (h : assemble (l ++ [b]) = .bad) :
    stepItem g p (inFrame gap p l s) (.byte b) = (discardFrame p s, asItems (l ++ [b])) := by
  rw [stepItem, stepByte_inFrame g p b _ l inFrame_kept, h, discardFrame_inFrame]

theorem stepItem_error {g : Option Nat} :
    stepItem g p (inFrame gap p l s) .lineError = (discardFrame p s, asItems l ++ [.lineError]) := by
  rw [stepItem, stepError_inFrame p _ l inFrame_kept, discardFrame_inFrame]

end

theorem discardFrame_kept (p : Port) (s : State) : ((discardFrame p s).receiver p).kept = none := by
  rw [discardFrame_receiver]

/-! ### What the line delivers -/

section
variable {p : Port} {s : State}

/-- An item that ends no frame as bad leaves nothing to re-examine. -/
theorem putItem_of_step {i : LineItem} {t : State} (h : stepItem (some 0) p s i = (t, [])) : putItem p s i = t := by
  simp only [putItem, h, reexamineAll_nil]

/-- An item that ends a frame without a sync as bad discards it, and nothing more. -/
theorem putItem_of_discard {i : LineItem} {l : List LineItem} {t : State}
    (h : stepItem (some 0) p s i = (discardFrame p t, l)) (noSync : .byte syncByte ∉ l) :
    putItem p s i = discardFrame p t := by
  simp only [putItem, h]
  exact reexamineAll_noSync p l _ (discardFrame_kept p t) noSync

theorem noSync_asItems {l : List Byte} (h : syncByte ∉ l) : LineItem.byte syncByte ∉ asItems l := by
  simpa [asItems] using h

/-- Bytes up to the check byte are kept. -/
theorem foldl_putItem_body {b : Byte} (least : 2 ≤ b.toNat) (most : b.toNat ≤ 50) (s : State) : ∀ (m l : List Byte),
    l.length + m.length ≤ b.toNat →
      (asItems m).foldl (putItem p) (inFrame (some 0) p (b :: l) s) = inFrame (some 0) p (b :: (l ++ m)) s
  | [], l, _ => by rw [List.append_nil]; rfl
  | x :: m, l, h => by
    have short : assemble (b :: l ++ [x]) = .incomplete :=
      assemble_short least most (by simp at h ⊢; omega)
    have rest := foldl_putItem_body least most s m (l ++ [x]) (by simp at h ⊢; omega)
    show (asItems m).foldl (putItem p) (putItem p (inFrame (some 0) p (b :: l) s) (.byte x)) = _
    rw [putItem_of_step (stepItem_incomplete short)]
    simpa using rest

/-- The sync and a length byte in range start a frame. -/
theorem putItem_start (hunting : (s.receiver p).kept = none) {b : Byte} (least : 2 ≤ b.toNat) (most : b.toNat ≤ 50) :
    putItem p (putItem p s (.byte syncByte)) (.byte b) = inFrame (some 0) p [b] s := by
  rw [putItem_of_step (stepItem_sync hunting), putItem_of_step (stepItem_incomplete (assemble_short least most (by simp)))]
  rfl

section
variable (hunting : (s.receiver p).kept = none)
include hunting

/-- A length byte out of range ends the frame that the sync has started. -/
theorem line_badLength {b : Byte} (ne : b ≠ syncByte) (h : b.toNat < 2 ∨ 50 < b.toNat) :
    [LineItem.byte syncByte, .byte b].foldl (putItem p) s = discardFrame p s := by
  show putItem p (putItem p s (.byte syncByte)) (.byte b) = _
  rw [putItem_of_step (stepItem_sync hunting)]
  exact putItem_of_discard (stepItem_bad (assemble_badLength h [])) (noSync_asItems (by simpa using ne.symm))

/-- A line error ends the frame that the sync has started. -/
theorem line_syncError : [LineItem.byte syncByte, .lineError].foldl (putItem p) s = discardFrame p s := by
  show putItem p (putItem p s (.byte syncByte)) .lineError = _
  rw [putItem_of_step (stepItem_sync hunting)]
  exact putItem_of_discard stepItem_error (by simp [asItems])

/-- A whole frame without a second sync whose check byte is not the CRC-8 is discarded (R160). -/
theorem line_badCheck {b check : Byte} {l : List Byte} (least : 2 ≤ b.toNat) (most : b.toNat ≤ 50)
    (length : l.length = b.toNat) (noSync : syncByte ∉ b :: l ++ [check]) (ne : check ≠ crc8 (b :: l)) :
    (asItems (syncByte :: b :: l ++ [check])).foldl (putItem p) s = discardFrame p s := by
  have body := foldl_putItem_body (p := p) least most s l [] (by simp [length])
  have bad : assemble (b :: l ++ [check]) = .bad := (assemble_checked least most length check).trans (if_neg ne)
  have items : asItems (syncByte :: b :: l ++ [check]) = [.byte syncByte, .byte b] ++ asItems l ++ [.byte check] := by
    simp [asItems]
  rw [items, List.foldl_append, List.foldl_append]
  show putItem p ((asItems l).foldl (putItem p) (putItem p (putItem p s (.byte syncByte)) (.byte b))) (.byte check) = _
  rw [putItem_start hunting least most, body]
  exact putItem_of_discard (stepItem_bad bad) (noSync_asItems noSync)

end

end

/-! ### Re-examination (R159) -/

/-- One item of a re-examination. -/
theorem reexamine_cons {n : Nat} {p : Port} {s t : State} {i : LineItem} {rest l : List LineItem}
    (h : stepItem none p s i = (t, l)) : reexamine (n + 1) p (i :: rest) s = reexamine n p (l ++ rest) t := by
  simp only [reexamine, h]

section
variable {p : Port} {s : State} (hunting : (s.receiver p).kept = none)
include hunting

/-- What lies before a sync is passed over, and the sync starts a frame. -/
theorem reexamine_toSync {pre : List Byte} (noSync : syncByte ∉ pre) (n : Nat) (rest : List LineItem) :
    reexamine (n + 1 + pre.length) p (asItems pre ++ .byte syncByte :: rest) s
      = reexamine n p rest (inFrame none p [] s) := by
  have passed := reexamine_hunting p s hunting (.byte syncByte :: rest) (asItems pre) (n + 1 + pre.length)
    (by simp [asItems]) (noSync_asItems noSync)
  have left : n + 1 + pre.length - (asItems pre).length = n + 1 := by simp [asItems]
  rw [passed, left, reexamine_cons (stepItem_sync hunting), List.nil_append]

/-- What holds no sync is passed over. -/
theorem reexamine_noSync {l : List LineItem} {n : Nat} (h : l.length ≤ n) (noSync : .byte syncByte ∉ l) :
    reexamine n p l s = s := by
  simpa using reexamine_hunting p s hunting [] l n h noSync

/-- A length byte in range behind the sync leaves a frame in progress, to which the gap rule does not apply. -/
theorem reexamine_started {pre : List Byte} (noSync : syncByte ∉ pre) {b : Byte} (least : 2 ≤ b.toNat)
    (most : b.toNat ≤ 50) (n : Nat) (rest : List LineItem) :
    reexamine (n + 2 + pre.length) p (asItems (pre ++ [syncByte, b]) ++ rest) s
      = reexamine n p rest (inFrame none p [b] s) := by
  have items : asItems (pre ++ [syncByte, b]) ++ rest = asItems pre ++ .byte syncByte :: .byte b :: rest := by
    simp [asItems]
  have short : assemble ([] ++ [b]) = .incomplete := assemble_short least most (by simp)
  rw [items, reexamine_toSync hunting noSync (n + 1), reexamine_cons (stepItem_incomplete short)]
  rfl

end

/-- The steps allowed outnumber the items by four at least. -/
theorem reexamineSteps_enough {k n : Nat} (h : k ≤ n + 4) : ∃ m, reexamineSteps n = m + k := by
  have square : n + 4 ≤ (n + 2) * (n + 2) := by nlinarith
  exact ⟨(n + 2) * (n + 2) - k, by rw [reexamineSteps, Nat.sub_add_cancel (h.trans square)]⟩

end Sys2Proof.Machine
end

section
/-! SUPPORT. A good frame by its kind code, as a command brings it and as re-examination finds it (R159, R162). -/

namespace Sys2Proof.Machine

/-- No two kinds share a code (9.2, Kinds). -/
theorem ofCode_code (k : Kind) : Kind.ofCode k.code = some k := by cases k <;> rfl

theorem ofCode_eq_some {b : Byte} {k : Kind} (h : Kind.ofCode b = some k) : k.code = b := by
  simpa using List.find?_some h

/-- The command of a request or a report is its good frame (log 8). -/
theorem exec_goodFrame (k : Kind) (p : Port) (tag : Byte) (pl : List Byte) :
    exec (k.command p tag pl) = event fun s => takeGoodFrame p k.code tag pl (hunt p s) := by
  cases k <;> rfl

section
variable {q : Sender} {s : State}

/-- Where a port has room for one more reply as a frame is taken, one joins, and the frame is counted good (R162, R163). -/
theorem takeOnPort_room (room : (s.link q).replies.length < 8) (tag kind : Byte) (serve : State → Answer) :
    takeOnPort q tag kind serve (hunt (.sender q) s) = queueReply q tag kind (serve (greeted q s)) := by
  have waiting : ¬8 ≤ ((hunt (.sender q) s).link q).replies.length := by simp only [hunt, modReceiver_link]; omega
  rw [takeOnPort, if_neg waiting, greeted]

/-- A frame that finds 8 replies waiting is dropped as a bad one is (R163). -/
theorem takeOnPort_full (full : 8 ≤ (s.link q).replies.length) (tag kind : Byte) (serve : State → Answer) :
    takeOnPort q tag kind serve (hunt (.sender q) s) = discardFrame (.sender q) s :=
  if_pos (by simpa only [hunt, modReceiver_link] using full)

/-- What a sender's port makes of a good frame, by its kind: the block of a kind that the port takes serves it, and any other is refused (R162). -/
def serveFrame (kind : Byte) (q : Sender) (pl : List Byte) : State → Answer :=
  match Kind.ofCode kind with
  | some k => serveKind k (handlerOf k) q pl
  | none => refuse .unknownKind

/-- A good frame on a sender's port is classified, and its answer takes its place in the reply queue. -/
theorem takeGoodFrame_sender (q : Sender) (kind tag : Byte) (pl : List Byte) :
    takeGoodFrame (.sender q) kind tag pl = takeOnPort q tag kind (serveFrame kind q pl) := by
  unfold takeGoodFrame serveFrame
  funext s
  cases h : Kind.ofCode kind with
  | none => rfl
  | some k =>
    have code := ofCode_eq_some h
    by_cases report : k = .itemReport
    · subst report
      have foreign : Kind.itemReport.takenFrom q = false := by cases q <;> rfl
      have refused : serveKind .itemReport (handlerOf .itemReport) q pl = refuse .unknownKind := by
        funext s; exact serveKind_foreign _ pl s foreign
      simp only [refused]
      rw [← code]
      rfl
    · rw [← code]
      cases k with
      | itemReport => exact absurd rfl report
      | _ => rfl

end

/-- The identifier port drops every frame but an ITEM-REPORT of 6 bytes (R162). -/
theorem takeGoodFrame_identifier {kind : Byte} {pl : List Byte} (h : kind ≠ Kind.itemReport.code ∨ pl.length ≠ 6)
    (tag : Byte) (s : State) : takeGoodFrame .identifier kind tag pl (hunt .identifier s) = discardFrame .identifier s := by
  unfold takeGoodFrame
  split
  · next report =>
    have code := ofCode_eq_some report
    exact if_neg (h.resolve_left fun ne => ne code.symm)
  · rfl
  · rfl

end Sys2Proof.Machine
end

section
/-! SUPPORT. Bad frames as events: what they leave of their port, and the frames that their re-examination finds (R159, R165, R167). -/

namespace Sys2Proof.Machine

/-! ### A discarded frame -/

theorem discardFrame_link (q x : Sender) (s : State) : (discardFrame (.sender q) s).link x
    = if x = q then (if (s.link q).state = .align then { s.link q with hellos := 0 } else s.link q) else s.link x :=
  modLink_link _ q x _

theorem discardFrame_receiver_ne {p x : Port} (h : x ≠ p) (s : State) :
    (discardFrame p s).receiver x = s.receiver x := by
  have hunted : (discardFrame p s).receiver x = (hunt p s).receiver x := by cases p <;> rfl
  rw [hunted, hunt, modReceiver_receiver_ne _ _ _ _ h]

theorem discardFrame_inReset (p : Port) (s : State) : (discardFrame p s).inReset = s.inReset := by cases p <;> rfl

/-- On the identifier port, which has no link, it touches the receivers and the counters alone. -/
theorem discardFrame_identifier_frame (s : State) :
    SameExcept [.receivers, .counters] s (discardFrame .identifier s) :=
  ((discardFrame_frame .identifier s).mono (m := [.links, .receivers, .counters]) (by simp)).without
    fun q => sameLink_refl s q

/-- One discarded frame, as the event ends (R159, R165, R167). -/
theorem endedBad_discardFrame (q : Sender) (s : State) : EndedBad s (settle (discardFrame (.sender q) s)) q := by
  have own := discardFrame_link q q s
  rw [if_pos rfl] at own
  refine ⟨(discardFrame_frame _ s).settled, (discardFrame_raised _ s).settled, ?_, fun p hp => ?_, fun x hx => ?_, ?_⟩
  · rw [settle_receiver, discardFrame_kept]
  · rw [settle_receiver, discardFrame_receiver_ne hp]
  · exact (sameLink_of_link (by rw [discardFrame_link, if_neg hx])).trans (settle_sameLink x _)
  · rw [settle_link_state, settle_link_silenceMs, settle_answers, settle_link_hellos, own]
    by_cases align : (s.link q).state = .align
    · rw [if_pos align]
      exact ⟨rfl, rfl, rfl, (if_pos align).symm⟩
    · rw [if_neg align]
      exact ⟨rfl, rfl, rfl, (if_neg align).symm⟩

/-! ### The two commands that end a frame (R158, R159) -/

theorem exec_badFrame {s : State} (hr : s.inReset = false) (p : Port) (line : List LineItem) :
    exec (.badFrame p line) s = .next (settle (line.foldl (putItem p) s)) :=
  exec_event (c := .badFrame p line) rfl hr

section
variable {p : Port} {s : State} {l : List Byte} (hr : s.inReset = false) (kept : (s.receiver p).kept = some l)
include hr kept

/-- A line error ends the frame in progress, and is itself re-examined last. -/
theorem exec_lineError : exec (.badFrame p [.lineError]) s
    = .next (settle (reexamineAll p (asItems l ++ [.lineError]) (discardFrame p s))) := by
  have step : stepItem (some 0) p s .lineError = (discardFrame p s, asItems l ++ [.lineError]) :=
    stepError_inFrame p s l kept
  rw [exec_badFrame hr, List.foldl_cons, List.foldl_nil, putItem, step]

/-- A gap of more than 5 ms ends it with no byte. -/
theorem exec_gap {ms : Nat} (gap : (s.receiver p).gapMs = some ms) (late : 5 < ms) :
    exec (.frameGapTimeout p) s = .next (settle (reexamineAll p (asItems l) (discardFrame p s))) := by
  have due : gapDue (s.receiver p) = true := by simp [gapDue, gap, kept, late]
  rw [exec_due (c := .frameGapTimeout p) rfl hr due, endBad, kept]

end

/-! ### A good HELLO behind a bad frame -/

section
variable {q : Sender} {s : State}

theorem serveFrame_hello (q : Sender) (s : State) : serveFrame Kind.hello.code q [] s = handleHello q [] s := by
  cases q <;> rfl

/-- The HELLO of a port with room is taken, and leaves the receiver in HUNT. -/
theorem takeGoodFrame_hello (room : (s.link q).replies.length < 8) (tag : Byte) :
    takeGoodFrame (.sender q) Kind.hello.code tag [] (hunt (.sender q) s)
      = queueReply q tag Kind.hello.code (handleHello q [] (greeted q s)) := by
  rw [takeGoodFrame_sender, takeOnPort_room room, serveFrame_hello]

theorem queueReply_hello_receiver (tag : Byte) :
    (queueReply q tag Kind.hello.code (handleHello q [] (greeted q s))).receiver (.sender q) = {} := by
  have same : (takeHello q (greeted q s)).receivers = (greeted q s).receivers :=
    takeHello_frame q _ .receivers (by simp)
  show (takeHello q (greeted q s)).receiver (.sender q) = {}
  rw [State.receiver, same]
  exact (greeted_receiver q (.sender q) s).trans (if_pos rfl)

theorem settleIdle_receiver (p : Port) (s : State) : (settleIdle s).receiver p = s.receiver p := by
  obtain ⟨b, belt, -⟩ := settleIdle_eq s
  rw [belt]
  rfl

/-- The four bytes of a HELLO behind the sync, in the receiver of a port. -/
theorem assemble_hello (tag : Byte) : assemble [2, 1, tag, crc8 [2, 1, tag]] = .good Kind.hello.code tag [] :=
  (assemble_checked (b := 2) (by decide) (by decide) (l := [1, tag]) rfl _).trans (if_pos rfl)

/-- Re-examination that finds a good HELLO behind what holds no sync takes it, and passes over a line error behind it. -/
theorem reexamine_hello (hunting : (s.receiver (.sender q)).kept = none) (room : (s.link q).replies.length < 8)
    {pre : List Byte} (noSync : syncByte ∉ pre) (tag : Byte) {tail : List LineItem}
    (ignored : tail = [] ∨ tail = [.lineError]) :
    reexamineAll (.sender q) (asItems (pre ++ [syncByte, 2, 1, tag, crc8 [2, 1, tag]]) ++ tail) s
      = settleIdle (takeGoodFrame (.sender q) Kind.hello.code tag [] (hunt (.sender q) s)) := by
  obtain ⟨m, steps⟩ := reexamineSteps_enough (k := 4 + 2 + pre.length)
    (n := (asItems (pre ++ [syncByte, 2, 1, tag, crc8 [2, 1, tag]]) ++ tail).length) (by simp [asItems]; omega)
  have items : asItems (pre ++ [syncByte, 2, 1, tag, crc8 [2, 1, tag]]) ++ tail
      = asItems (pre ++ [syncByte, 2]) ++ (.byte 1 :: .byte tag :: .byte (crc8 [2, 1, tag]) :: tail) := by
    simp [asItems]
  have kind : assemble ([2] ++ [1]) = .incomplete := assemble_short (b := 2) (by decide) (by decide) (by simp)
  have tagged : assemble ([2] ++ [1] ++ [tag]) = .incomplete := assemble_short (b := 2) (by decide) (by decide) (by simp)
  have good : assemble ([2] ++ [1] ++ [tag] ++ [crc8 [2, 1, tag]]) = .good Kind.hello.code tag [] := assemble_hello tag
  rw [reexamineAll, steps, items, ← Nat.add_assoc, ← Nat.add_assoc,
    reexamine_started hunting noSync (b := 2) (by decide) (by decide),
    reexamine_cons (stepItem_incomplete kind), List.nil_append,
    reexamine_cons (stepItem_incomplete tagged), List.nil_append,
    reexamine_cons (stepItem_good good), List.nil_append]
  refine reexamine_noSync ?_ (by rcases ignored with rfl | rfl <;> simp) (by rcases ignored with rfl | rfl <;> simp)
  rw [settleIdle_receiver, takeGoodFrame_hello room, queueReply_hello_receiver]

/-- A bad frame with a good HELLO in it is that bad frame discarded, and then the HELLO's own command. -/
theorem exec_badFrame_hello (hr : s.inReset = false) (room : (s.link q).replies.length < 8) {pre : List Byte}
    {tag : Byte} (kept : (s.receiver (.sender q)).kept = some (pre ++ [syncByte, 2, 1, tag, crc8 [2, 1, tag]]))
    (noSync : syncByte ∉ pre) {i : Instr} (h : i = .badFrame (.sender q) [.lineError]
      ∨ i = .frameGapTimeout (.sender q) ∧ ∃ ms, (s.receiver (.sender q)).gapMs = some ms ∧ 5 < ms) :
    exec i s = exec (.hello (.sender q) tag []) (discardFrame (.sender q) s) := by
  have hunting := discardFrame_kept (.sender q) s
  have room' : ((discardFrame (.sender q) s).link q).replies.length < 8 := by
    rw [discardFrame_link, if_pos rfl]; split <;> exact room
  have command : exec (.hello (.sender q) tag []) (discardFrame (.sender q) s) = .next (settle
      (settleIdle (takeGoodFrame (.sender q) Kind.hello.code tag [] (hunt (.sender q) (discardFrame (.sender q) s))))) := by
    rw [settle_settleIdle]
    exact exec_event (exec_goodFrame .hello (.sender q) tag []) ((discardFrame_inReset _ s).trans hr)
  rw [command]
  obtain rfl | ⟨rfl, ms, gap, late⟩ := h
  · rw [exec_lineError hr kept, reexamine_hello hunting room' noSync tag (.inr rfl)]
  · rw [exec_gap hr kept gap late, ← reexamine_hello hunting room' noSync tag (.inl rfl), List.append_nil]

end

/-! ### A frame in progress behind a bad one -/

/-- A length byte in range is no sync. -/
theorem syncByte_ne {b : Byte} (h : b.toNat ≤ 50) : syncByte ≠ b := by
  rintro rfl
  exact absurd h (by decide)

theorem inFrame_frame {gap : Option Nat} {p : Port} {l : List Byte} (s : State) :
    SameExcept [.receivers, .links, .counters] s (inFrame gap p l s) :=
  sameExcept_of_front rfl (by simp [frontBlocks, Block.same, SameDests, inFrame])

section
variable {p : Port} {s : State} (hunting : (s.receiver p).kept = none) {pre : List Byte} (noSync : syncByte ∉ pre)
  {b : Byte} (least : 2 ≤ b.toNat) (most : b.toNat ≤ 50)
include hunting noSync least most

/-- Re-examination that finds a sync and a length byte leaves the frame that they start in progress. -/
theorem reexamineAll_started : reexamineAll p (asItems (pre ++ [syncByte, b])) s = inFrame none p [b] s := by
  obtain ⟨m, steps⟩ := reexamineSteps_enough (k := 2 + pre.length) (n := (asItems (pre ++ [syncByte, b])).length)
    (by simp [asItems]; omega)
  have started := reexamine_started hunting noSync least most m []
  rw [List.append_nil, reexamine_nil] at started
  rw [reexamineAll, steps, ← Nat.add_assoc, started]

/-- With a line error behind it that frame ends as bad too. -/
theorem reexamineAll_startedError :
    reexamineAll p (asItems (pre ++ [syncByte, b]) ++ [.lineError]) s = discardFrame p s := by
  obtain ⟨m, steps⟩ := reexamineSteps_enough (k := 3 + 2 + pre.length)
    (n := (asItems (pre ++ [syncByte, b]) ++ [LineItem.lineError]).length) (by simp [asItems]; omega)
  rw [reexamineAll, steps, ← Nat.add_assoc, ← Nat.add_assoc, reexamine_started hunting noSync least most,
    reexamine_cons stepItem_error, List.append_nil]
  exact reexamine_noSync (discardFrame_kept p s) (by simp [asItems]) (by simpa [asItems] using syncByte_ne most)

end

/-- FRAMES_BAD after two frames that end as bad (R159, R188). -/
theorem discardFrame_twice_counter (p : Port) (s : State) :
    (discardFrame p (discardFrame p s)).counter (.ofPort p .framesBad)
      = min (s.counter (.ofPort p .framesBad) + 2) 65535 := by
  rw [discardFrame_raised, discardFrame_raised]
  simp only [List.mem_singleton, if_true]
  omega

/-- Two counters that rise one after the other. -/
theorem Raised.andThen {a b : Counter} {s u t : State} (h : Raised [a] s u) (k : Raised [b] u t) (ne : a ≠ b) :
    Raised [a, b] s t := fun c => by
  rw [k c, h c]
  by_cases first : c = a
  · simp [first, ne]
  · simp [first]

/-! ### The statement -/

/-- A line on which a frame ends as bad, and nothing more. -/
theorem exec_badFrame_endedBad {q : Sender} {s : State} (hr : s.inReset = false) {line : List LineItem}
    (h : line.foldl (putItem (.sender q)) s = discardFrame (.sender q) s) :
    ∃ t, exec (.badFrame (.sender q) line) s = .next t ∧ EndedBad s t q :=
  ⟨_, by rw [exec_badFrame hr, h], endedBad_discardFrame q s⟩

/-- A frame in progress without a sync in it, ended by a line error. -/
theorem exec_lineError_endedBad {q : Sender} {s : State} (hr : s.inReset = false) {l : List Byte}
    (kept : (s.receiver (.sender q)).kept = some l) (noSync : syncByte ∉ l) :
    ∃ t, exec (.badFrame (.sender q) [.lineError]) s = .next t ∧ EndedBad s t q :=
  exec_badFrame_endedBad hr (putItem_lineError_noSync (.sender q) s l kept noSync)

/-- The same, ended by a gap of more than 5 ms. -/
theorem exec_gap_endedBad {q : Sender} {s : State} (hr : s.inReset = false) {l : List Byte}
    (kept : (s.receiver (.sender q)).kept = some l) (noSync : syncByte ∉ l) {ms : Nat}
    (gap : (s.receiver (.sender q)).gapMs = some ms) (late : 5 < ms) :
    ∃ t, exec (.frameGapTimeout (.sender q)) s = .next t ∧ EndedBad s t q := by
  have alone := reexamineAll_noSync (.sender q) (asItems l) _ (discardFrame_kept _ s) (noSync_asItems noSync)
  exact ⟨_, by rw [exec_gap hr kept gap late, alone], endedBad_discardFrame q s⟩

/-- A length byte that counts the kind, the tag and a payload of at most 48 bytes (R157). -/
theorem byteOf_length {pl : List Byte} (h : pl.length ≤ 48) : (byteOf (pl.length + 2)).toNat = pl.length + 2 := by
  simp only [byteOf, BitVec.toNat_ofNat]
  omega

/-- A whole frame on the line with a check byte that is not its CRC-8. -/
theorem exec_badCheck_endedBad {q : Sender} {s : State} (hr : s.inReset = false)
    (hunting : (s.receiver (.sender q)).kept = none) {kind tag check : Byte} {pl : List Byte} (short : pl.length ≤ 48)
    (noSync : syncByte ∉ kind :: tag :: check :: pl) (ne : check ≠ crc8 (byteOf (pl.length + 2) :: kind :: tag :: pl)) :
    ∃ t, exec (.badFrame (.sender q) (asItems (syncByte :: byteOf (pl.length + 2) :: (kind :: tag :: pl) ++ [check]))) s
      = .next t ∧ EndedBad s t q := by
  have length := byteOf_length short
  have first : syncByte ≠ byteOf (pl.length + 2) := syncByte_ne (by omega)
  refine exec_badFrame_endedBad hr (line_badCheck hunting (by omega) (by omega) (by simp [length]) ?_ ne)
  simp only [List.mem_cons, List.mem_append, List.not_mem_nil, or_false, not_or] at noSync ⊢
  obtain ⟨kindNe, tagNe, checkNe, plNe⟩ := noSync
  exact ⟨⟨first, kindNe, tagNe, plNe⟩, checkNe⟩

section
variable {q : Sender} {s : State} (hr : s.inReset = false) {pre : List Byte} {b : Byte}
  (kept : (s.receiver (.sender q)).kept = some (pre ++ [syncByte, b])) (noSync : syncByte ∉ pre) (least : 2 ≤ b.toNat)
  (most : b.toNat ≤ 50)
include hr kept noSync least most

/-- A line error behind a second sync and its length byte ends two frames as bad. -/
theorem exec_lineError_started : ∃ t, exec (.badFrame (.sender q) [.lineError]) s = .next t
    ∧ SameExcept [.receivers, .links, .counters] s t ∧ (t.receiver (.sender q)).kept = none
    ∧ t.counter (.ofPort (.sender q) .framesBad) = min (s.counter (.ofPort (.sender q) .framesBad) + 2) 65535 := by
  refine ⟨_, exec_lineError hr kept, ?_⟩
  rw [reexamineAll_startedError (discardFrame_kept _ s) noSync least most]
  refine ⟨((discardFrame_frame _ s).trans (discardFrame_frame _ _)).settled, ?_, ?_⟩
  · rw [settle_receiver, discardFrame_kept]
  · rw [settle_counter, discardFrame_twice_counter]

/-- A gap there ends the first frame alone. -/
theorem exec_gap_started {ms : Nat} (gap : (s.receiver (.sender q)).gapMs = some ms) (late : 5 < ms) :
    ∃ t, exec (.frameGapTimeout (.sender q)) s = .next t ∧ SameExcept [.receivers, .links, .counters] s t
      ∧ t.receiver (.sender q) = { kept := some [b], gapMs := none }
      ∧ Raised [.ofPort (.sender q) .framesBad] s t := by
  refine ⟨_, exec_gap hr kept gap late, ?_⟩
  rw [reexamineAll_started (discardFrame_kept _ s) noSync least most]
  refine ⟨((discardFrame_frame _ s).trans (inFrame_frame _)).settled, ?_,
    Raised.settled (discardFrame_raised (.sender q) s)⟩
  rw [settle_receiver, inFrame, modReceiver_receiver_self]

end

/-- A bad frame on the identifier port, which has no link. -/
theorem exec_badLength_identifier {s : State} (hr : s.inReset = false) (hunting : (s.receiver .identifier).kept = none)
    {b : Byte} (ne : b ≠ syncByte) (range : b.toNat < 2 ∨ 50 < b.toNat) :
    ∃ t, exec (.badFrame .identifier [.byte syncByte, .byte b]) s = .next t ∧ SameExcept [.receivers, .counters] s t
      ∧ Raised [.ofPort .identifier .framesBad] s t ∧ (t.receiver .identifier).kept = none := by
  refine ⟨_, exec_badFrame hr _ _, ?_⟩
  rw [line_badLength hunting ne range]
  refine ⟨(discardFrame_identifier_frame s).settled, (discardFrame_raised _ s).settled, ?_⟩
  rw [settle_receiver, discardFrame_kept]

/-- What a HELLO found behind a bad frame brings, whichever way that frame ended: the two frames counted, and the HELLO of a link whose count the bad frame has returned to 0 (R159, R166, R167). -/
theorem badFrame_hello_outcome {q : Sender} {s : State} (hr : s.inReset = false) (room : (s.link q).replies.length < 8)
    (tag : Byte) : ∃ t, exec (.hello (.sender q) tag []) (discardFrame (.sender q) s) = .next t
      ∧ Raised [.ofPort (.sender q) .framesBad, .ofPort (.sender q) .framesGood] s t
      ∧ t.receiver (.sender q) = {} ∧ (t.link q).silenceMs = 0
      ∧ Replied s t q tag .hello .done
          [byteOf (Sender.index q).val, 0x02#8, 0x64#8, 0x01#8, byteOf (t.link q).state.number]
      ∧ ((s.link q).state = .down ∨ (s.link q).state = .lapsed ∨ (s.link q).state = .align →
          (t.link q).state = .align ∧ (t.link q).hellos = 1)
      ∧ ((s.link q).state = .active ∨ (s.link q).state = .quiet → (t.link q).state = .active) := by
  have own := discardFrame_link q q s
  rw [if_pos rfl] at own
  have state : ((discardFrame (.sender q) s).link q).state = (s.link q).state := by rw [own]; split <;> rfl
  have owed : ((discardFrame (.sender q) s).link q).owed = (s.link q).owed := by rw [own]; split <;> rfl
  have room' : ((discardFrame (.sender q) s).link q).replies.length < 8 := by rw [own]; split <;> exact room
  have hr' := (discardFrame_inReset (.sender q) s).trans hr
  obtain ⟨t, next, -, good, -, silence, replied, fresh, early, -, up⟩ :=
    helloTrainsLink (discardFrame (.sender q) s) q tag hr' room'
  rw [state] at fresh early up
  have receiver : t.receiver (.sender q) = {} := by
    have answered := exec_training (k := .hello) rfl tag [] hr' room'
    rw [Kind.command, next, Host.Outcome.next.injEq] at answered
    rw [answered, settle_receiver]
    exact queueReply_hello_receiver tag
  refine ⟨t, next, (discardFrame_raised _ s).andThen good (by simp), receiver, silence, by rwa [Replied, ← owed],
    fun training => ?_, fun h => (up h).1⟩
  by_cases align : (s.link q).state = .align
  · have restarted : ((discardFrame (.sender q) s).link q).hellos = 0 := by rw [own, if_pos align]
    rw [restarted] at early
    obtain ⟨aligned, first, -⟩ := early align (by omega)
    exact ⟨aligned, first⟩
  · obtain ⟨aligned, first, -⟩ := fresh (by simpa [align] using training)
    exact ⟨aligned, first⟩

/-- Settles O47: each way a frame ends as bad discards it once, and what stands behind a sync in it is taken as a frame of its own. -/
theorem badFrameIsCounted : Obligations.BadFrameIsCounted := by
  intro s q hr
  refine ⟨fun hunting => ⟨?_, fun b ne range => ?_, fun kind tag check pl short noSync ne => ?_, ?_⟩,
    fun l kept noSync => ⟨exec_lineError_endedBad hr kept noSync, fun ms => exec_gap_endedBad hr kept noSync⟩,
    fun pre tag kept noSync room i h => ?_, fun pre b kept noSync least most => ⟨?_, fun ms gap late => ?_⟩,
    fun hunting b ne range => ?_⟩
  · have ignored : stepItem (some 0) (.sender q) s .lineError = (s, []) := stepError_hunting _ s hunting
    refine ⟨_, exec_badFrame hr _ _, ?_⟩
    rw [List.foldl_cons, List.foldl_nil, putItem_of_step ignored]
    exact (sameExcept_refl [] s).settled
  · exact exec_badFrame_endedBad hr (line_badLength hunting ne range)
  · exact exec_badCheck_endedBad hr hunting short noSync ne
  · exact exec_badFrame_endedBad hr (line_syncError hunting)
  · rw [exec_badFrame_hello hr room kept noSync h]
    exact badFrame_hello_outcome hr room tag
  · exact exec_lineError_started hr kept noSync least most
  · exact exec_gap_started hr kept noSync least most gap late
  · exact exec_badLength_identifier hr hunting ne range

end Sys2Proof.Machine
end

section
/-! SUPPORT. No owning block touches what a port owes: the requests leave every link alone, and HELLO and GOODBYE move their own link's state (R163, R166 to R171). -/

namespace Sys2Proof.Machine

/-! ### Destinations -/

theorem changeDest_links (d : DestId) (f : Dest → Dest) (s : State) : (changeDest d f s).links = s.links :=
  links_of_kept (changeDest_kept d f s)

/-- A request on a destination number leaves the links as its own rule does, or refuses (R99 check 1). -/
theorem withDest_links {pl : List Byte} {s : State} {f : DestId → Answer} (h : ∀ d, (f d).state.links = s.links) :
    (withDest pl s f).state.links = s.links := by
  unfold withDest
  split
  · rfl
  · exact h _

section
variable (q : Sender) (pl : List Byte) (s : State)

theorem handleClaim_links : (handleClaim q pl s).state.links = s.links :=
  withDest_links fun d => by
    dsimp only
    split_ifs
    case neg => exact changeDest_links d _ s
    all_goals rfl

theorem handleOpen_links : (handleOpen q pl s).state.links = s.links :=
  withDest_links fun d => by
    split
    · rfl
    · split
      case h_1 | h_2 => exact changeDest_links d _ s
      all_goals rfl

theorem handleClose_links : (handleClose q pl s).state.links = s.links :=
  withDest_links fun d => by
    split
    · rfl
    · split
      case h_1 => exact changeDest_links d _ s
      all_goals rfl

theorem handleSetSlots_links : (handleSetSlots q pl s).state.links = s.links :=
  withDest_links fun d => by
    split
    · rfl
    · split
      case h_1 | h_2 | h_3 => exact changeDest_links d _ s
      all_goals rfl

theorem handleClearFull_links : (handleClearFull q pl s).state.links = s.links :=
  withDest_links fun d => by
    split
    · rfl
    · split
      case h_1 => rfl
      all_goals exact changeDest_links d _ s

theorem handleRelease_links : (handleRelease q pl s).state.links = s.links :=
  withDest_links fun d => by
    split
    · rfl
    · split
      case h_1 => split <;> [exact links_of_kept (completeRelease_kept d s); rfl]
      all_goals rfl

theorem handleForceRelease_links : (handleForceRelease q pl s).state.links = s.links :=
  withDest_links fun d => by
    split
    case h_1 | h_2 | h_3 => exact links_of_kept (beginRelease_kept d s)
    all_goals rfl

/-! ### Routes and patterns -/

theorem writeList_links (t : Option RouteTarget) (m : List Byte) : (writeList q t m s).state.links = s.links := by
  unfold writeList
  dsimp only
  split
  · rfl
  · split
    · rfl
    · split
      · rfl
      · split
        · rfl
        · exact storeList_links _ _ s

theorem handleWriteRoute_links : (handleWriteRoute q pl s).state.links = s.links := by
  cases q <;> exact writeList_links _ s _ _

theorem handleReadRoute_links : (handleReadRoute q pl s).state.links = s.links := by
  unfold handleReadRoute
  split <;> rfl

theorem handleRegisterPattern_links : (handleRegisterPattern q pl s).state.links = s.links := by
  unfold handleRegisterPattern
  split
  · rfl
  · dsimp only
    split_ifs
    · rfl
    · split
      · exact makeRoom_links s
      · split <;> rfl

theorem handleDropPattern_links : (handleDropPattern q pl s).state.links = s.links := by
  unfold handleDropPattern
  split
  · rfl
  · dsimp only
    split_ifs
    · rfl
    · split
      · rfl
      · split <;> rfl

theorem handleClearPatterns_links : (handleClearPatterns q pl s).state.links = s.links := by
  unfold handleClearPatterns
  split <;> rfl

/-! ### The site's configuration -/

theorem handleSetBelt_links : (handleSetBelt q pl s).state.links = s.links := by
  unfold handleSetBelt
  dsimp only
  split
  · rfl
  · split
    · rfl
    · exact storeSettings_links _ s

theorem handleSetGate_links : (handleSetGate q pl s).state.links = s.links := by
  unfold handleSetGate
  split
  · rfl
  · unfold setGateOf
    dsimp only
    split_ifs
    case pos | pos => rfl
    all_goals
      split
      · rfl
      · exact storeGate_links _ _ s

theorem handleSetDest_links : (handleSetDest q pl s).state.links = s.links := by
  unfold handleSetDest
  split
  · rfl
  · split
    · rfl
    · exact links_of_kept (storeDest_kept _ pl s)

theorem handleCommission_links : (handleCommission q pl s).state.links = s.links := by
  unfold handleCommission
  split
  · rfl
  · split
    · rfl
    · dsimp only [commissionBelt]
      rw [forEach_keeps State.links beginWatch (fun g u => links_of_kept (beginWatch_kept g u))]
      rfl

/-! ### The belt's and the gates' requests, and the reads -/

theorem handleStart_links : (handleStart q pl s).state.links = s.links := by
  unfold handleStart
  split
  case h_1 | h_2 => split <;> rfl
  all_goals rfl

theorem handleStop_links : (handleStop q pl s).state.links = s.links := by
  unfold handleStop
  split <;> rfl

theorem handleResume_links : (handleResume q pl s).state.links = s.links := by
  unfold handleResume
  split
  case h_1 => split <;> [exact resumeHalted_links s; rfl]
  all_goals rfl

theorem handleTestFire_links : (handleTestFire q pl s).state.links = s.links := by
  unfold handleTestFire
  split
  · split_ifs <;> rfl
  all_goals rfl

theorem handleReadTest_links : (handleReadTest q pl s).state.links = s.links := by
  unfold handleReadTest
  dsimp only
  split <;> rfl

theorem handleTakeGateOut_links : (handleTakeGateOut q pl s).state.links = s.links := by
  unfold handleTakeGateOut
  split
  · rfl
  · split_ifs
    case pos => rfl
    case pos => exact links_of_kept (gateOut_kept _ _)
    case neg => rfl

theorem gateBack_links (g : GateId) : (gateBack g s).links = s.links := by
  simp only [gateBack, changeDest_links, modGate_links]

theorem handleReturnGate_links : (handleReturnGate q pl s).state.links = s.links := by
  unfold handleReturnGate
  split
  · rfl
  · split_ifs
    case neg => exact gateBack_links s _
    all_goals rfl

theorem handleReadFault_links : (handleReadFault q pl s).state.links = s.links := by
  unfold handleReadFault
  split
  · rfl
  · dsimp only
    split <;> rfl

theorem handleReadMap_links : (handleReadMap q pl s).state.links = s.links := by
  unfold handleReadMap
  split <;> rfl

theorem handleReadSnapshot_links : (handleReadSnapshot q pl s).state.links = s.links := by
  unfold handleReadSnapshot
  split <;> rfl

end

/-- Every block but that of HELLO and GOODBYE leaves the links alone. -/
theorem handlerOf_links {k : Kind} (h : k.isTraining = false) (q : Sender) (pl : List Byte) (s : State) :
    (handlerOf k q pl s).state.links = s.links := by
  cases k with
  | hello | goodbye => cases h
  | claim => exact handleClaim_links q pl s
  | release => exact handleRelease_links q pl s
  | openDest => exact handleOpen_links q pl s
  | closeDest => exact handleClose_links q pl s
  | setSlots => exact handleSetSlots_links q pl s
  | clearFull => exact handleClearFull_links q pl s
  | queryDest => exact withDest_links fun _ => rfl
  | forceRelease => exact handleForceRelease_links q pl s
  | writeRoute => exact handleWriteRoute_links q pl s
  | readRoute => exact handleReadRoute_links q pl s
  | setList => exact writeList_links q s _ _
  | registerPattern => exact handleRegisterPattern_links q pl s
  | dropPattern => exact handleDropPattern_links q pl s
  | clearPatterns => exact handleClearPatterns_links q pl s
  | setBelt => exact handleSetBelt_links q pl s
  | setGate => exact handleSetGate_links q pl s
  | setDest => exact handleSetDest_links q pl s
  | commission => exact handleCommission_links q pl s
  | start => exact handleStart_links q pl s
  | stop => exact handleStop_links q pl s
  | resume => exact handleResume_links q pl s
  | restart => exact restartPart_links s
  | testFire => exact handleTestFire_links q pl s
  | readTest => exact handleReadTest_links q pl s
  | takeGateOut => exact handleTakeGateOut_links q pl s
  | returnGate => exact handleReturnGate_links q pl s
  | readFault => exact handleReadFault_links q pl s
  | readMap => exact handleReadMap_links q pl s
  | readSnapshot => exact handleReadSnapshot_links q pl s
  | snapshot | snapshotClear | readConditions | setEnables | itemReport => rfl

/-! ### What a port owes -/

theorem takeGoodbye_owed (q : Sender) (s : State) : ((takeGoodbye q s).link q).owed = (s.link q).owed := by
  by_cases up : (s.link q).state = .active ∨ (s.link q).state = .quiet
  · rw [takeGoodbye_up up, loseLink_link, if_pos rfl]
    rfl
  · obtain ⟨-, -, -, owed⟩ := takeGoodbye_unlinked up
    exact owed

/-- The owning block of any kind adds nothing to what the port of its request owes, and takes nothing from it. -/
theorem handlerOf_owed (k : Kind) (q : Sender) (pl : List Byte) (s : State) :
    ((handlerOf k q pl s).state.link q).owed = (s.link q).owed := by
  cases training : k.isTraining with
  | false => exact owed_of_links (handlerOf_links training q pl s) q
  | true =>
    cases k with
    | hello =>
      show ((takeHello q s).link q).owed = _
      rw [takeHello_link, if_pos rfl, helloLink_owed]
    | goodbye => exact takeGoodbye_owed q s
    | _ => cases training

/-- So does a request that the port does not take, or that an admission check turns away. -/
theorem serveKind_owed (k : Kind) (q : Sender) (pl : List Byte) (s : State) :
    ((serveKind k (handlerOf k) q pl s).state.link q).owed = (s.link q).owed := by
  unfold serveKind
  split
  · split
    · rfl
    · exact handlerOf_owed k q pl s
  · rfl

end Sys2Proof.Machine
end

section
/-! SUPPORT. Good frames on the ports: one reply each, none where 8 wait, and none on the identifier port (R162, R163, R165). -/

namespace Sys2Proof.Machine

section
variable {s : State} (hr : s.inReset = false)
include hr

/-- The event of a frame that is dropped leaves the frames its sender is owed, and is a bad frame to the rest of the part. -/
theorem event_dropped {q : Sender} {c : Instr} {kind tag : Byte} {pl : List Byte}
    (e : exec c = event fun s => takeGoodFrame (.sender q) kind tag pl (hunt (.sender q) s))
    (full : 8 ≤ (s.link q).replies.length) :
    ∃ t, exec c s = .next t ∧ EndedBad s t q ∧ (t.link q).owed = (s.link q).owed := by
  have own := discardFrame_link q q s
  rw [if_pos rfl] at own
  have waiting : ((discardFrame (.sender q) s).link q).replies ≠ [] := by
    have same : ((discardFrame (.sender q) s).link q).replies = (s.link q).replies := by rw [own]; split <;> rfl
    rw [same]
    exact List.ne_nil_of_length_pos (by omega)
  refine ⟨_, by rw [exec_event e hr, takeGoodFrame_sender, takeOnPort_full full], endedBad_discardFrame q s, ?_⟩
  rw [settle_owed q _ waiting, own]
  split <;> rfl

/-- A frame that is no ITEM-REPORT of 6 bytes is a bad frame to the identifier port, which answers nothing (R162). -/
theorem event_unreported {c : Instr} {kind tag : Byte} {pl : List Byte}
    (e : exec c = event fun s => takeGoodFrame .identifier kind tag pl (hunt .identifier s))
    (h : kind ≠ Kind.itemReport.code ∨ pl.length ≠ 6) :
    ∃ t, exec c s = .next t ∧ SameExcept [.receivers, .counters] s t ∧ Raised [.ofPort .identifier .framesBad] s t
      ∧ t.receiver .identifier = {} := by
  refine ⟨_, by rw [exec_event e hr, takeGoodFrame_identifier h], (discardFrame_identifier_frame s).settled,
    (discardFrame_raised _ s).settled, ?_⟩
  rw [settle_receiver, discardFrame_receiver]

/-- A frame of a kind that its port does not take is refused with no result, and nothing else happens (R162). -/
theorem exec_unknownKind {q : Sender} {kind : Byte} (untaken : kindTakenOn kind (.sender q) = false)
    (room : (s.link q).replies.length < 8) (tag : Byte) (pl : List Byte) :
    ∃ t, exec (.unknownKind (.sender q) kind tag pl) s = .next t ∧ Took q [] s t
      ∧ (t.link q).owed = (s.link q).owed ++ [Reply.frame ⟨tag, kind, .unknownKind, []⟩] := by
  have refused : serveFrame kind q pl (greeted q s) = ⟨greeted q s, .unknownKind, []⟩ := by
    cases known : Kind.ofCode kind with
    | some k =>
      simp only [kindTakenOn, known] at untaken
      simpa only [serveFrame, known] using serveKind_foreign _ pl (greeted q s) untaken
    | none => simp only [serveFrame, known, refuse]
  have answered : exec (.unknownKind (.sender q) kind tag pl) s
      = .next (settle (queueReply q tag kind ⟨greeted q s, .unknownKind, []⟩)) := by
    rw [exec_event (c := .unknownKind (.sender q) kind tag pl) rfl hr, takeGoodFrame_sender, takeOnPort_room room, refused]
  refine ⟨_, answered, took_of_unchanged q tag kind s .unknownKind [], ?_⟩
  rw [settle_queueReply_owed, greeted_owed]

end

theorem code_eq_itemReport {k : Kind} (h : k.code = Kind.itemReport.code) : k = .itemReport := by
  have same := congrArg Kind.ofCode h
  rw [ofCode_code, ofCode_code] at same
  exact Option.some.inj same

/-- Settles O45: every block leaves what its port owes alone, so that the one reply joins it; and the frames that are refused or dropped. -/
theorem eachRequestHasOneReply : Obligations.EachRequestHasOneReply := by
  intro s q tag pl hr
  refine ⟨fun k room => ?_, fun k full => ?_, fun kind untaken room => exec_unknownKind hr untaken room tag pl,
    fun kind untaken => ?_, fun k h => ?_⟩
  · exact ⟨_, _, _, exec_answered k tag pl hr room,
      replied_of q tag k _ s ((serveKind_owed k q pl _).trans (greeted_owed q s))⟩
  · obtain ⟨t, next, ⟨frame, raised, -, -, links, state, silence, -⟩, owed⟩ :=
      event_dropped hr (exec_goodFrame k (.sender q) tag pl) full
    exact ⟨t, next, frame, raised, owed, state, silence, links⟩
  · have other : kind ≠ Kind.itemReport.code := by simpa [kindTakenOn] using untaken
    exact event_unreported hr (c := .unknownKind .identifier kind tag pl) rfl (.inl other)
  · exact event_unreported hr (exec_goodFrame k .identifier tag pl) (h.imp_left (mt code_eq_itemReport))

end Sys2Proof.Machine
end

section
/-! SUPPORT. No owning block touches the queue of waiting commands: what each request leaves of it (R99 to R106, R130 to R133, R166 to R171, R180 to R187). -/

namespace Sys2Proof.Machine

/-! ### The belt and the read point -/

theorem recordCause_pending (add : Causes → Causes) (s : State) : (recordCause add s).pending = s.pending := by
  unfold recordCause
  split <;> rfl

theorem idleStop_pending (s : State) : (idleStop s).pending = s.pending := by
  unfold idleStop
  split <;> rfl

theorem abandonCapture_pending (s : State) : (abandonCapture s).pending = s.pending := by
  unfold abandonCapture
  split <;> rfl

theorem encoderLoss_pending (s : State) : (encoderLoss s).pending = s.pending := by
  have aborted := pending_of_kept (abortUnfired_kept ((recordCause addLoss s).modBelt fun b => { b with zeroWindows := 0 }))
  have recorded := recordCause_pending addLoss s
  exact (abandonCapture_pending _).trans (aborted.trans recorded)

theorem takeWindowEnd_pending (s : State) : (takeWindowEnd s).pending = s.pending := by
  unfold takeWindowEnd
  dsimp only
  split
  · exact encoderLoss_pending _
  · rfl

theorem takePulse_pending (s : State) : (takePulse s).pending = s.pending := by
  unfold takePulse countPulse
  split
  · split <;> rfl
  · rfl

theorem removeTail_pending (s : State) : (removeTail s).pending = s.pending := by
  unfold removeTail
  dsimp only
  split <;> rfl

theorem commitCapture_pending (r : Pos) (s : State) : (commitCapture r s).pending = s.pending := by
  by_cases h : Refused s
  · rw [commitCapture_refused r h]; rfl
  · rw [commitCapture_made r h]
    obtain ⟨room, -⟩ := makePendingRoom_keeps (countCapture s)
    exact (pending_of_kept room).trans rfl

theorem closeCapture_pending (x : Tag) (m : Bool) (n : Nat) (c : Bool) (s : State) :
    (closeCapture x m n c s).pending = s.pending := by
  unfold closeCapture
  split <;> rfl

theorem endCapture_pending (r : Pos) (s : State) : (endCapture r s).pending = s.pending := by
  unfold endCapture
  split
  case h_1 => exact closeCapture_pending _ _ _ _ s
  all_goals rfl

theorem eyeBlocks_pending (s : State) : (eyeBlocks s).pending = s.pending := by
  unfold eyeBlocks
  split <;> rfl

theorem eyeClears_pending (s : State) : (eyeClears s).pending = s.pending := by
  unfold eyeClears
  split
  case h_1 => split <;> [rfl; exact (endCapture_pending _ _).trans (commitCapture_pending _ s)]
  case h_2 => exact endCapture_pending _ s
  all_goals rfl

/-! ### Links -/

theorem pending_of_untold {s t : State} (h : t.untold = s.untold) : t.pending = s.pending :=
  pending_of_kept (kept_of_untold h)

theorem loseLink_pending (after : LinkState) (q : Sender) (s : State) : (loseLink after q s).pending = s.pending :=
  (pending_of_untold ((changeOwned_untold q orphaned _).trans (linkLost_untold after q s))).trans rfl

theorem enterActive_pending (q : Sender) (s : State) : (enterActive q s).pending = s.pending :=
  (pending_of_untold ((changeOwned_untold q unorphaned _).trans (linkBack_untold q s))).trans rfl

theorem takeHello_pending (q : Sender) (s : State) : (takeHello q s).pending = s.pending := by
  unfold takeHello
  split
  case h_3 => split <;> [exact enterActive_pending q s; rfl]
  all_goals rfl

theorem takeGoodbye_pending (q : Sender) (s : State) : (takeGoodbye q s).pending = s.pending := by
  unfold takeGoodbye
  split
  case h_1 | h_2 => exact loseLink_pending _ q s
  all_goals rfl

theorem takeSilence_pending (q : Sender) (s : State) : (takeSilence q s).pending = s.pending := by
  unfold takeSilence
  split <;> rfl

section
variable (q : Sender) (pl : List Byte) (s : State)

/-! ### Requests on destinations -/

/-- A request on a destination number keeps what its own rule keeps, or refuses (R99 check 1). -/
theorem withDest_kept {pl : List Byte} {s : State} {f : DestId → Answer} (h : ∀ d, (f d).state.kept = s.kept) :
    (withDest pl s f).state.kept = s.kept := by
  unfold withDest
  split
  · rfl
  · exact h _

theorem handleClaim_kept : (handleClaim q pl s).state.kept = s.kept :=
  withDest_kept fun d => by
    dsimp only
    split_ifs
    case neg => exact changeDest_kept d _ s
    all_goals rfl

theorem handleOpen_kept : (handleOpen q pl s).state.kept = s.kept :=
  withDest_kept fun d => by
    split
    · rfl
    · split
      case h_1 | h_2 => exact changeDest_kept d _ s
      all_goals rfl

theorem handleClose_kept : (handleClose q pl s).state.kept = s.kept :=
  withDest_kept fun d => by
    split
    · rfl
    · split
      case h_1 => exact changeDest_kept d _ s
      all_goals rfl

theorem handleSetSlots_kept : (handleSetSlots q pl s).state.kept = s.kept :=
  withDest_kept fun d => by
    split
    · rfl
    · split
      case h_1 | h_2 | h_3 => exact changeDest_kept d _ s
      all_goals rfl

theorem handleClearFull_kept : (handleClearFull q pl s).state.kept = s.kept :=
  withDest_kept fun d => by
    split
    · rfl
    · split
      case h_1 => rfl
      all_goals exact changeDest_kept d _ s

theorem handleRelease_kept : (handleRelease q pl s).state.kept = s.kept :=
  withDest_kept fun d => by
    split
    · rfl
    · split
      case h_1 => split <;> [exact completeRelease_kept d s; rfl]
      all_goals rfl

theorem handleForceRelease_kept : (handleForceRelease q pl s).state.kept = s.kept :=
  withDest_kept fun d => by
    split
    case h_1 | h_2 | h_3 => exact beginRelease_kept d s
    all_goals rfl

/-! ### Requests on routes and patterns -/

theorem storeList_pending (t : RouteTarget) (l : List DestId) : (storeList t l s).pending = s.pending := by
  cases t <;> rfl

theorem writeList_pending (t : Option RouteTarget) (m : List Byte) : (writeList q t m s).state.pending = s.pending := by
  unfold writeList
  dsimp only
  split
  · rfl
  · split
    · rfl
    · split
      · rfl
      · split
        · rfl
        · exact storeList_pending s _ _

theorem handleWriteRoute_pending : (handleWriteRoute q pl s).state.pending = s.pending := by
  cases q <;> exact writeList_pending _ s _ _

theorem handleReadRoute_pending : (handleReadRoute q pl s).state.pending = s.pending := by
  unfold handleReadRoute
  split <;> rfl

theorem makeRoom_pending : (makeRoom s).pending = s.pending := by
  unfold makeRoom evict
  split_ifs
  · split
    · rfl
    · exact (pending_of_kept (offerNotice_kept _ _ _)).trans rfl
  · rfl

theorem handleRegisterPattern_pending : (handleRegisterPattern q pl s).state.pending = s.pending := by
  unfold handleRegisterPattern
  split
  · rfl
  · dsimp only
    split_ifs
    · rfl
    · split
      · exact makeRoom_pending s
      · split <;> rfl

theorem handleDropPattern_pending : (handleDropPattern q pl s).state.pending = s.pending := by
  unfold handleDropPattern
  split
  · rfl
  · dsimp only
    split_ifs
    · rfl
    · split
      · rfl
      · split <;> rfl

theorem handleClearPatterns_pending : (handleClearPatterns q pl s).state.pending = s.pending := by
  unfold handleClearPatterns
  split <;> rfl

/-! ### The site's configuration -/

theorem storeSettings_pending (v : Settings) : (storeSettings v s).pending = s.pending :=
  (pending_of_kept (gainRerouting_kept _ _ _ _)).trans (idleStop_pending _)

theorem handleSetBelt_pending : (handleSetBelt q pl s).state.pending = s.pending := by
  unfold handleSetBelt
  dsimp only
  split
  · rfl
  · split
    · rfl
    · exact storeSettings_pending s _

theorem storeGate_pending (g : GateId) (h : Gate) : (storeGate g h s).pending = s.pending := by
  unfold storeGate
  dsimp only
  split
  · exact pending_of_kept (beginWatch_kept g _)
  · rfl

theorem handleSetGate_pending : (handleSetGate q pl s).state.pending = s.pending := by
  unfold handleSetGate
  split
  · rfl
  · unfold setGateOf
    dsimp only
    split_ifs
    case pos | pos => rfl
    all_goals
      split
      · rfl
      · exact storeGate_pending s _ _

theorem handleSetDest_kept : (handleSetDest q pl s).state.kept = s.kept := by
  unfold handleSetDest
  split
  · rfl
  · split
    · rfl
    · exact storeDest_kept _ pl s

theorem handleCommission_pending : (handleCommission q pl s).state.pending = s.pending := by
  unfold handleCommission
  split
  · rfl
  · split
    · rfl
    · dsimp only [commissionBelt]
      rw [forEach_keeps State.pending beginWatch fun g u => pending_of_kept (beginWatch_kept g u)]
      rfl

theorem restartPart_pending : (restartPart s).pending = s.pending :=
  (pending_of_untold (restartPart_untold s)).trans
    (show (endToken .aborted s).pending = s.pending from pending_of_kept (endToken_kept .aborted s))

/-! ### The belt's and the gates' requests, and the reads -/

theorem handleStart_pending : (handleStart q pl s).state.pending = s.pending := by
  unfold handleStart
  split
  case h_1 | h_2 => split <;> rfl
  all_goals rfl

theorem handleStop_pending : (handleStop q pl s).state.pending = s.pending := by
  unfold handleStop
  split <;> rfl

theorem resumeHalted_pending : (resumeHalted s).pending = s.pending := by
  by_cases h : s.belt.causes.encoderLoss = true
  · rw [resumeHalted_loss h]
    exact (pending_of_kept (discardSuspects_kept (clearCauses s))).trans rfl
  · rw [resumeHalted_noLoss h]
    rfl

theorem handleResume_pending : (handleResume q pl s).state.pending = s.pending := by
  unfold handleResume
  split
  case h_1 => split <;> [exact resumeHalted_pending s; rfl]
  all_goals rfl

theorem handleTestFire_kept : (handleTestFire q pl s).state.kept = s.kept := by
  unfold handleTestFire
  split
  · split_ifs <;> rfl
  all_goals rfl

theorem handleReadTest_kept : (handleReadTest q pl s).state.kept = s.kept := by
  unfold handleReadTest
  dsimp only
  split <;> rfl

theorem handleTakeGateOut_kept : (handleTakeGateOut q pl s).state.kept = s.kept := by
  unfold handleTakeGateOut
  split
  · rfl
  · split_ifs
    case pos => rfl
    case pos => exact gateOut_kept _ _
    case neg => rfl

theorem handleReturnGate_kept : (handleReturnGate q pl s).state.kept = s.kept := by
  unfold handleReturnGate
  split
  · rfl
  · split_ifs
    case neg => simp only [gateBack, changeDest_kept, modGate_kept]
    all_goals rfl

theorem handleReadFault_kept : (handleReadFault q pl s).state.kept = s.kept := by
  unfold handleReadFault
  split
  · rfl
  · dsimp only
    split <;> rfl

theorem handleReadMap_kept : (handleReadMap q pl s).state.kept = s.kept := by
  unfold handleReadMap
  split <;> rfl

theorem handleReadSnapshot_kept : (handleReadSnapshot q pl s).state.kept = s.kept := by
  unfold handleReadSnapshot
  split <;> rfl

end

/-- Whatever a request asks for, its block leaves the queue alone. -/
theorem handlerOf_pending (k : Kind) (q : Sender) (pl : List Byte) (s : State) :
    (handlerOf k q pl s).state.pending = s.pending := by
  cases k with
  | hello => exact takeHello_pending q s
  | goodbye => exact takeGoodbye_pending q s
  | claim => exact pending_of_kept (handleClaim_kept q pl s)
  | release => exact pending_of_kept (handleRelease_kept q pl s)
  | openDest => exact pending_of_kept (handleOpen_kept q pl s)
  | closeDest => exact pending_of_kept (handleClose_kept q pl s)
  | setSlots => exact pending_of_kept (handleSetSlots_kept q pl s)
  | clearFull => exact pending_of_kept (handleClearFull_kept q pl s)
  | queryDest => exact pending_of_kept (withDest_kept fun _ => rfl)
  | forceRelease => exact pending_of_kept (handleForceRelease_kept q pl s)
  | writeRoute => exact handleWriteRoute_pending q pl s
  | readRoute => exact handleReadRoute_pending q pl s
  | setList => exact writeList_pending q s _ _
  | registerPattern => exact handleRegisterPattern_pending q pl s
  | dropPattern => exact handleDropPattern_pending q pl s
  | clearPatterns => exact handleClearPatterns_pending q pl s
  | setBelt => exact handleSetBelt_pending q pl s
  | setGate => exact handleSetGate_pending q pl s
  | setDest => exact pending_of_kept (handleSetDest_kept q pl s)
  | commission => exact handleCommission_pending q pl s
  | start => exact handleStart_pending q pl s
  | stop => exact handleStop_pending q pl s
  | resume => exact handleResume_pending q pl s
  | restart => exact restartPart_pending s
  | testFire => exact pending_of_kept (handleTestFire_kept q pl s)
  | readTest => exact pending_of_kept (handleReadTest_kept q pl s)
  | takeGateOut => exact pending_of_kept (handleTakeGateOut_kept q pl s)
  | returnGate => exact pending_of_kept (handleReturnGate_kept q pl s)
  | readFault => exact pending_of_kept (handleReadFault_kept q pl s)
  | readMap => exact pending_of_kept (handleReadMap_kept q pl s)
  | readSnapshot => exact pending_of_kept (handleReadSnapshot_kept q pl s)
  | snapshot | snapshotClear | readConditions | setEnables | itemReport => rfl

end Sys2Proof.Machine
end

section
/-! SUPPORT. Every command answers a next state with the queue of waiting commands as it was, and in reset no event acts (R158 to R165, R178; log 6). -/

namespace Sys2Proof.Machine

/-! ### Frames -/

theorem badOnPort_pending (p : Port) (s : State) : (badOnPort p s).pending = s.pending := by
  cases p <;> rfl

theorem goodOnPort_pending (q : Sender) (s : State) : (goodOnPort q s).pending = s.pending := rfl

theorem settleIdle_pending (s : State) : (settleIdle s).pending = s.pending := by
  obtain ⟨b, eq, -⟩ := settleIdle_eq s
  rw [eq]

theorem giveUp_kept (r : EntryRef) (s : State) : (giveUp r s).kept = s.kept := by simp [giveUp]

theorem takeReport_pending (ref : EntryRef) (r : ItemReport) (s : State) : (takeReport ref r s).pending = s.pending := by
  unfold takeReport
  dsimp only
  rw [pending_of_kept (decideRoute_kept _ _ _), raisePart_eq, raise_pending]
  split <;> rfl

theorem matchReport_pending (r : ItemReport) (s : State) : (matchReport r s).pending = s.pending := by
  unfold matchReport
  split
  · rfl
  · exact (takeReport_pending _ r _).trans (pending_of_kept (forEach_keeps State.kept giveUp giveUp_kept _ s))

section
variable {l : List Instr} {s : State} (h : s.pending = l)
include h

theorem takeOnPort_pending (q : Sender) (tag kind : Byte) {serve : State → Answer}
    (hv : ∀ u, u.pending = l → (serve u).state.pending = l) : (takeOnPort q tag kind serve s).pending = l :=
  takeOnPort_keeps (fun u => u.pending = l) (fun p u => (badOnPort_pending p u).trans)
    (fun q u => (goodOnPort_pending q u).trans) (fun _ _ _ => id) q tag kind serve hv s h

theorem takeRequest_pending (k : Kind) (p : Port) (tag : Byte) (pl : List Byte) :
    (takeRequest k (handlerOf k) p tag pl s).pending = l := by
  cases p with
  | identifier => exact (badOnPort_pending _ s).trans h
  | sender q =>
    exact takeOnPort_pending h q tag k.code <| serveKind_keeps (fun u => u.pending = l) k (handlerOf k)
      (fun q pl u => (handlerOf_pending k q pl u).trans) q pl

theorem takeUnknown_pending (p : Port) (kind tag : Byte) : (takeUnknown p kind tag s).pending = l := by
  cases p with
  | identifier => exact (badOnPort_pending _ s).trans h
  | sender q => exact takeOnPort_pending h q tag kind fun _ => id

theorem takeItemReport_pending (p : Port) (tag : Byte) (pl : List Byte) : (takeItemReport p tag pl s).pending = l := by
  cases p with
  | sender q => exact takeUnknown_pending h (.sender q) _ tag
  | identifier =>
    unfold takeItemReport
    dsimp only
    split
    · exact (matchReport_pending _ _).trans h
    · exact (badOnPort_pending _ s).trans h

end

/-- Whatever a line delivers leaves the queue alone. -/
theorem pending_lineInvariant (l : List Instr) : LineInvariant fun u => u.pending = l where
  receiver _ _ _ := id
  bad p u := (badOnPort_pending p u).trans
  request k p tag pl _ h := takeRequest_pending h k p tag pl
  unknown p kind tag _ h := takeUnknown_pending h p kind tag
  report p tag pl _ h := takeItemReport_pending h p tag pl
  idle u := (settleIdle_pending u).trans

/-! ### Events -/

/-- A meaning answers a next state in every state with the queue as it was, and in reset leaves all but the input levels as it is (R178; log 6). -/
def Completes (r : State → Result) : Prop :=
  ∀ s, ∃ t, r s = .next t ∧ t.pending = s.pending ∧ (s.inReset = true → { t with pins := s.pins } = s)

/-- An event completes where its change leaves the queue alone. -/
theorem event_completes {f : State → State} (hf : ∀ s, (f s).pending = s.pending) : Completes (event f) := fun s => by
  cases hr : s.inReset with
  | true => exact ⟨s, event_reset f s hr, rfl, fun _ => rfl⟩
  | false => exact ⟨_, event_next f s hr, (settle_pending _).trans (hf s), fun h => by cases h⟩

/-- An event that is taken only while it is due. -/
theorem event_completes_due {due : State → Prop} [DecidablePred due] {f : State → State}
    (hf : ∀ s, (f s).pending = s.pending) : Completes (event fun s => if due s then f s else s) :=
  event_completes fun s => by
    split
    · exact hf s
    · rfl

/-- An event whose change keeps all that routing keeps. -/
theorem event_completes_kept {f : State → State} (hf : ∀ s, (f s).kept = s.kept) : Completes (event f) :=
  event_completes fun s => pending_of_kept (hf s)

/-- What a line delivers is an event that completes. -/
theorem event_completes_line {f : State → State}
    (hf : ∀ {P : State → Prop}, LineInvariant P → ∀ s, P s → P (f s)) : Completes (event f) :=
  event_completes fun s => hf (pending_lineInvariant s.pending) s rfl

theorem inputEvent_reset (pin act : State → State) (s : State) (h : s.inReset = true) :
    inputEvent pin act s = .next (pin s) := by
  simp [inputEvent, h]

/-- A change of an input completes where it moves the input levels alone and its act leaves the queue alone. -/
theorem inputEvent_completes {pin : State → State} {act : State → State → State}
    (hp : ∀ s, { pin s with pins := s.pins } = s) (ha : ∀ s₀ s, (act s₀ s).pending = s.pending) :
    Completes fun s => inputEvent pin (act s) s := fun s => by
  have followed : ({ pin s with pins := s.pins } : State).pending = s.pending := congrArg State.pending (hp s)
  cases hr : s.inReset with
  | true => exact ⟨_, inputEvent_reset pin (act s) s hr, followed, fun _ => hp s⟩
  | false =>
    exact ⟨_, inputEvent_next pin (act s) s hr, (settle_pending _).trans ((ha s _).trans followed), fun h => by cases h⟩

/-- An edge of an input: a level that is there already does not act. -/
theorem inputEdge_completes {pin act : State → State} {there : State → Prop} [DecidablePred there]
    (hp : ∀ s, { pin s with pins := s.pins } = s) (ha : ∀ s, (act s).pending = s.pending) :
    Completes fun s => inputEvent pin (if there s then id else act) s :=
  inputEvent_completes hp fun s₀ s => by
    split
    · rfl
    · exact ha s

/-! ### The commands -/

theorem execReadEyeClear_completes : Completes execReadEyeClear :=
  inputEvent_completes (fun _ => rfl) fun s₀ s => by
    split
    · exact eyeClears_pending s
    · rfl

theorem execTailFullAsserted_completes : Completes execTailFullAsserted :=
  event_completes_due fun _ => recordCause_pending addTail _

theorem execCaptureCommit_completes : Completes execCaptureCommit :=
  event_completes fun s => by
    split
    · exact commitCapture_pending _ s
    · rfl

theorem execLengthClamp_completes : Completes execLengthClamp :=
  event_completes fun s => by
    split
    · exact closeCapture_pending _ _ _ _ s
    · rfl

theorem execIdWindowExpiry_completes (x : Tag) : Completes (execIdWindowExpiry x) :=
  event_completes_kept fun s => by
    split
    · rfl
    · split <;> [exact decideRoute_kept _ _ _; rfl]

theorem execArming_completes (r : EntryRef) : Completes (execArming r) :=
  event_completes_kept fun s => by
    split
    · rfl
    · split <;> [rfl; exact armEntry_kept _ _ _ _ s]

theorem execFireTarget_completes (g : GateId) : Completes (execFireTarget g) :=
  event_completes_kept fun s => by
    split
    · rfl
    · split <;> [exact fire_kept _ _ _ _ s; exact missedFire_kept _ _ _ s]

theorem execTailArrival_completes (x : Tag) : Completes (execTailArrival x) :=
  event_completes_kept fun s => by
    split
    · rfl
    · split <;> rfl

theorem execExtendedSwitchChange_completes (g : GateId) (side : Side) (b : Bool) :
    Completes (execExtendedSwitchChange g side b) :=
  inputEvent_completes (fun _ => rfl) fun s₀ s => by
    split
    · rfl
    · split <;> [exact pending_of_kept (switchGoesExtended_kept _ _ s); rfl]

theorem execActuatorCheckDeadline_completes (g : GateId) : Completes (execActuatorCheckDeadline g) :=
  event_completes_kept fun s => by
    split
    · exact checkFails_kept _ _ s
    · rfl

theorem execConfirmWindowExpiry_completes (d : DestId) (x : Tag) : Completes (execConfirmWindowExpiry d x) :=
  event_completes_kept fun s => by
    split
    · exact miss_kept d _ s
    · rfl

theorem execFrameGapTimeout_completes (p : Port) : Completes (execFrameGapTimeout p) :=
  event_completes_line fun h s hs => by
    split
    · exact h.ended p hs
    · exact hs

theorem execDestStateRefresh_completes : Completes execDestStateRefresh :=
  event_completes_due fun s => (pending_of_untold (refreshed_untold s)).trans rfl

theorem frameEvent_completes (k : Kind) (p : Port) (tag : Byte) (pl : List Byte) :
    Completes (frameEvent k (handlerOf k) p tag pl) :=
  event_completes_line fun h _ hs => h.request k p tag pl _ (h.hunt p hs)

/-- Every command but the resets and the release completes. -/
theorem exec_completes {c : Instr} (power : c ≠ .powerOnReset) (pin : c ≠ .resetPin) (release : c ≠ .resetRelease) :
    Completes (exec c) := by
  cases c with
  | powerOnReset => exact absurd rfl power
  | resetPin => exact absurd rfl pin
  | resetRelease => exact absurd rfl release
  | encoderPulse => exact event_completes takePulse_pending
  | speedWindowEnd => exact event_completes_due takeWindowEnd_pending
  | idleExpiry => exact event_completes idleStop_pending
  | infeedEyeChange b | tailFullInputChange b | confirmEyeChange d b | rackSensorChange d b =>
    exact inputEdge_completes (fun _ => rfl) fun _ => rfl
  | stopChainOpen => exact inputEdge_completes (fun _ => rfl) (recordCause_pending addChain)
  | stopChainClose => exact inputEvent_completes (act := fun _ => id) (fun _ => rfl) fun _ _ => rfl
  | readEyeBlock => exact inputEdge_completes (fun _ => rfl) eyeBlocks_pending
  | readEyeClear => exact execReadEyeClear_completes
  | tailFullAsserted => exact execTailFullAsserted_completes
  | tailFullCleared => exact event_completes_due removeTail_pending
  | captureCommit => exact execCaptureCommit_completes
  | lengthClamp => exact execLengthClamp_completes
  | itemReport p tag pl => exact event_completes_line fun h _ hs => h.report p tag pl _ (h.hunt p hs)
  | idWindowExpiry x => exact execIdWindowExpiry_completes x
  | arming r => exact execArming_completes r
  | fireTarget g => exact execFireTarget_completes g
  | tailArrival x => exact execTailArrival_completes x
  | runGuardElapsed | infeedWake | clearWaitEnd | identifierSilent | gateDriveOff g | confirmEyeClearSettled d =>
    exact event_completes_due fun _ => rfl
  | gateCycleEnd g => exact event_completes_due fun s => pending_of_kept (beginWatch_kept g (s.modGate g endCycle))
  | extendedSwitchChange g side b => exact execExtendedSwitchChange_completes g side b
  | actuatorCheckDeadline g => exact execActuatorCheckDeadline_completes g
  | confirmEyeSighting d => exact event_completes_due fun _ => pending_of_kept (sighting_kept d _)
  | confirmWindowExpiry d x => exact execConfirmWindowExpiry_completes d x
  | chuteBlock d => exact event_completes_due fun s => pending_of_kept (gainRerouting_kept _ _ [d] s)
  | chuteBlockClear d => exact event_completes_due fun s => pending_of_kept (changeDest_kept d _ s)
  | rackSensorSettled d => exact event_completes_kept fun s => applyRack_kept d _ s
  | badFrame p l => exact event_completes_line fun h => h.line p l
  | frameGapTimeout p => exact execFrameGapTimeout_completes p
  | unknownKind p kind tag pl => exact event_completes_line fun h _ hs => h.goodFrame p kind tag pl (h.hunt p hs)
  | frameSent q => exact event_completes fun _ => rfl
  | linkSilence1000 q => exact event_completes_due (takeSilence_pending q)
  | linkLapse q => exact event_completes_due (loseLink_pending .lapsed q)
  | destStateRefresh => exact execDestStateRefresh_completes
  | hello p tag pl | goodbye p tag pl | claim p tag pl | release p tag pl | openDest p tag pl | closeDest p tag pl
  | setSlots p tag pl | clearFull p tag pl | queryDest p tag pl | forceRelease p tag pl | writeRoute p tag pl
  | readRoute p tag pl | setList p tag pl | registerPattern p tag pl | dropPattern p tag pl
  | clearPatterns p tag pl | setBelt p tag pl | setGate p tag pl | setDest p tag pl | commission p tag pl
  | start p tag pl | stop p tag pl | resume p tag pl | restart p tag pl | testFire p tag pl | readTest p tag pl
  | takeGateOut p tag pl | returnGate p tag pl | readFault p tag pl | readMap p tag pl | snapshot p tag pl
  | snapshotClear p tag pl | readSnapshot p tag pl | readConditions p tag pl | setEnables p tag pl =>
    exact frameEvent_completes _ p tag pl

/-! ### Reset and its release (R178) -/

theorem startEyes_pending (s : State) : (startEyes s).pending = s.pending :=
  forEach_keeps State.pending (fun d u => u.modDest d fun r => { r with eye := eyeAtRelease (u.confirmEye d) })
    (fun _ _ => rfl) allDests s

theorem releasePart_pending (s : State) : (releasePart s).pending = s.pending := by
  rw [releasePart, modReader_pending, startEyes_pending]

theorem execResetRelease_next (s : State) : ∃ t, execResetRelease s = .next t ∧ t.pending = s.pending := by
  refine ⟨_, rfl, ?_⟩
  split
  · exact (settle_pending _).trans (releasePart_pending s)
  · rfl

/-- Settles O2: every event leaves the queue alone and does nothing in reset; the resets and the release keep the queue too. -/
theorem everyCommandCompletes : Obligations.EveryCommandCompletes := by
  intro c s
  by_cases power : c = .powerOnReset
  · subst power
    exact ⟨_, rfl, rfl, fun _ other => absurd rfl other⟩
  by_cases pin : c = .resetPin
  · subst pin
    exact ⟨_, rfl, rfl, fun _ _ other => absurd rfl other⟩
  by_cases release : c = .resetRelease
  · subst release
    obtain ⟨t, next, pending⟩ := execResetRelease_next s
    exact ⟨t, next, pending, fun _ _ _ other => absurd rfl other⟩
  obtain ⟨t, next, pending, held⟩ := exec_completes power pin release s
  exact ⟨t, next, pending, fun reset _ _ _ => held reset⟩

end Sys2Proof.Machine
end

section
/-! SUPPORT. The counter bank behind a request: a change of the bank alone, and what the end of the event makes of the levels, the latches and ATTN (R188, R191, R192). -/

namespace Sys2Proof.Machine

/-! ### A change of the bank -/

/-- A change of the bank leaves every other block alone. -/
theorem sameExcept_modBank {l : List Block} {f : Bank → Bank} (s : State) (hb : Block.bank ∈ l)
    (hc : .counters ∉ l → ∀ b, (f b).live = b.live) : SameExcept l s (s.modBank f) :=
  sameExcept_of_kept (modBank_kept s f) (fun _ => rfl) (fun _ => rfl) (fun _ => rfl) (fun _ => rfl) (fun _ => rfl)
    (fun h => hc h s.bank) fun h => absurd hb h

/-- The levels read nothing of the bank but the live counters (R191). -/
theorem condLevels_modBank {f : Bank → Bank} (hl : ∀ b, (f b).live = b.live) (s : State) :
    condLevels (s.modBank f) = condLevels s :=
  condLevels_congr rfl rfl rfl rfl rfl rfl rfl (fun _ => rfl) (fun _ => rfl) (fun _ => rfl) (hl s.bank)

/-- A reply that waits moves no level. -/
theorem condLevels_queueReply (q : Sender) (tag kind : Byte) (a : Answer) :
    condLevels (queueReply q tag kind a) = condLevels a.state := by
  refine condLevels_congr rfl rfl rfl rfl rfl rfl rfl (fun _ => rfl) (fun _ => rfl) (fun x => ?_) rfl
  rw [queueReply, modLink_link]
  split
  · next same => rw [same]
  · rfl

/-! ### The conditions a request meets -/

theorem syncConditions_levels (s : State) : (syncConditions s).bank.levels = condLevels (syncConditions s) := by
  have levels : condLevels (syncConditions s) = condLevels s := by
    refine condLevels_modBank ?_ s
    exact fun _ => rfl
  rw [levels, syncConditions, modBank_bank]

/-- The conditions are followed before the owning block takes the request. -/
theorem greeted_levels (q : Sender) (s : State) : (greeted q s).bank.levels = condLevels (greeted q s) :=
  syncConditions_levels _

/-- The levels that the request's own frame moves have set their latches (R165, R188, R191). -/
theorem greeted_latches (q : Sender) (s : State) : (greeted q s).bank.latches
    = s.bank.latches ||| (s.bank.levels ^^^ (greeted q s).bank.levels) := rfl

/-- The counters as the owning block finds them: the request's own frame is counted (R162). -/
theorem greeted_counter_eq (q : Sender) (s : State) (c : Counter) : (greeted q s).counter c
    = if c = .ofPort (.sender q) .framesGood then min (s.counter c + 1) 65535 else s.counter c := by
  simpa using greeted_raised q s c

/-! ### The conditions as the event ends -/

theorem settle_levels_follow (s : State) : (settle s).bank.levels = condLevels (settle s) :=
  (settle_conditionLaw s).1

theorem settle_attn (s : State) : (settle s).bank.attn = attnOf (settle s).bank := (settle_conditionLaw s).2

/-- Where the levels are followed already, the end of the event sets no latch. -/
theorem settle_latches_followed {s : State} (h : s.bank.levels = condLevels s) :
    (settle s).bank.latches = s.bank.latches := by
  rw [settle_latches, h, BitVec.xor_self, BitVec.or_zero]

/-- COUNTER_SATURATED is set while a live counter stands at 65,535 (R188). -/
theorem settle_level_saturated (s : State) : (settle s).bank.levels.getLsbD 11 = levelCounterSaturated s := by
  rw [settle_levels, condLevels, BitVec.getLsbD_ofNat, testBit_packBits]; rfl

/-- A bank all of whose live counters are 0 is not saturated. -/
theorem levelCounterSaturated_zeros {s : State} (h : s.bank.live = Vector.replicate 178 0) :
    levelCounterSaturated s = false := by
  rw [levelCounterSaturated, h, Vector.toList_replicate, List.any_replicate]
  rfl

section
variable {f : Bank → Bank} (tag : Byte) (k : Kind) (s : State) (status : Status) (result : List Byte)

/-- A request whose block answers with a change of the bank's latches, snapshot or enables: what it leaves of the other blocks, of the levels, which stand as its block found them, and of the rest of the bank. -/
theorem bank_settled (hl : ∀ b, (f b).live = b.live) (hv : ∀ b, (f b).levels = b.levels) :
    let t := settle (queueReply .site tag k.code ⟨(greeted .site s).modBank f, status, result⟩)
    Took .site [.bank] s t ∧ t.bank.levels = (greeted .site s).bank.levels
      ∧ t.bank.latches = (f (greeted .site s).bank).latches ∧ Replied s t .site tag k status result := by
  have levels : condLevels (queueReply .site tag k.code ⟨(greeted .site s).modBank f, status, result⟩)
      = (greeted .site s).bank.levels := by
    rw [condLevels_queueReply, condLevels_modBank hl, greeted_levels]
  obtain ⟨took, -, -, replied⟩ := answer_settled tag k (l := [.bank])
    (a := ⟨(greeted .site s).modBank f, status, result⟩) (sameExcept_modBank _ (by simp) fun _ => hl)
    (modBank_links _ _)
  refine ⟨took, (settle_levels _).trans levels, ?_, replied⟩
  have followed : (queueReply .site tag k.code ⟨(greeted .site s).modBank f, status, result⟩).bank.levels
      = condLevels (queueReply .site tag k.code ⟨(greeted .site s).modBank f, status, result⟩) := by
    rw [levels, queueReply_bank, modBank_bank, hv]
  rw [settle_latches_followed followed, queueReply_bank, modBank_bank]

end

end Sys2Proof.Machine
end

section
/-! SUPPORT. SNAPSHOT and SNAPSHOT-CLEAR (R162, R188, R189, R191). -/

namespace Sys2Proof.Machine

/-- What SNAPSHOT makes of the bank. -/
def copyLive (b : Bank) : Bank := { b with snapshot := b.live }

/-- What SNAPSHOT-CLEAR makes of the bank. -/
def clearLive (b : Bank) : Bank := { b with snapshot := b.live, live := Vector.replicate 178 0 }

theorem handleSnapshot_eq (q : Sender) (pl : List Byte) (s : State) :
    handleSnapshot q pl s = ⟨s.modBank copyLive, .done, []⟩ := rfl

theorem handleSnapshotClear_eq (q : Sender) (pl : List Byte) (s : State) :
    handleSnapshotClear q pl s = ⟨s.modBank clearLive, .done, []⟩ := rfl

/-- SNAPSHOT: every live counter is in the snapshot, and stands. -/
theorem snapshot_copies (s : State) (tag : Byte) (hs : Served s .site) :
    ∃ t, exec (.snapshot (.sender .site) tag []) s = .next t ∧ Took .site [.bank] s t
      ∧ (∀ c : Counter, t.bank.snapshot[c.index] = t.counter c)
      ∧ t.bank.enables = s.bank.enables ∧ t.bank.globalEnable = s.bank.globalEnable
      ∧ t.bank.levels.getLsbD 11 = levelCounterSaturated t
      ∧ Replied s t .site tag .snapshot .done [] := by
  have served := exec_served (k := .snapshot) (tag := tag) hs
    (admissible_site .snapshot [] s hs rfl rfl rfl) (by decide)
  rw [handlerOf, handleSnapshot_eq] at served
  obtain ⟨took, -, -, replied⟩ := bank_settled (f := copyLive) tag .snapshot s .done [] (fun _ => rfl) fun _ => rfl
  refine ⟨_, served, took, fun c => ?_, ?_, ?_, ?_, replied⟩
  · simp only [State.counter, settle_snapshot, settle_live, queueReply_bank, modBank_bank, copyLive]
  · simp only [settle_enables, queueReply_bank, modBank_bank, copyLive, greeted_enables]
  · simp only [settle_globalEnable, queueReply_bank, modBank_bank, copyLive, greeted_globalEnable]
  · simp only [settle_level_saturated, levelCounterSaturated, settle_live]

section
variable (s : State) (tag : Byte)

/-- The state in which the event of a SNAPSHOT-CLEAR ends. -/
def afterClear : State :=
  settle (queueReply .site tag Kind.snapshotClear.code ⟨(greeted .site s).modBank clearLive, .done, []⟩)

theorem afterClear_snapshot : (afterClear s tag).bank.snapshot = (greeted .site s).bank.live := by
  rw [afterClear, settle_snapshot]
  rfl

theorem afterClear_live : (afterClear s tag).bank.live = Vector.replicate 178 0 := by
  rw [afterClear, settle_live]
  rfl

theorem afterClear_enables : (afterClear s tag).bank.enables = s.bank.enables := by
  simp only [afterClear, settle_enables, queueReply_bank, modBank_bank, clearLive, greeted_enables]

theorem afterClear_globalEnable : (afterClear s tag).bank.globalEnable = s.bank.globalEnable := by
  simp only [afterClear, settle_globalEnable, queueReply_bank, modBank_bank, clearLive, greeted_globalEnable]

/-- COUNTER_SATURATED is clear once every counter is 0 (R188). -/
theorem afterClear_saturated : (afterClear s tag).bank.levels.getLsbD 11 = false := by
  rw [afterClear, settle_level_saturated]
  exact levelCounterSaturated_zeros rfl

/-- The latches gather the levels that the frame moved and then those that the clear moved (R191). -/
theorem afterClear_latches : (afterClear s tag).bank.latches
    = s.bank.latches ||| (s.bank.levels ^^^ (greeted .site s).bank.levels)
      ||| ((greeted .site s).bank.levels ^^^ (afterClear s tag).bank.levels) := by
  rw [afterClear, settle_latches, settle_levels, ← greeted_latches]
  rfl

/-- A COUNTER_SATURATED that was set falls either as the frame is counted or with the clear, and so latches. -/
theorem afterClear_saturated_latch (h : s.bank.levels.getLsbD 11 = true) :
    (afterClear s tag).bank.latches.getLsbD 11 = true := by
  rw [afterClear_latches]
  simp only [BitVec.getLsbD_or, BitVec.getLsbD_xor, h, afterClear_saturated]
  cases (greeted .site s).bank.levels.getLsbD 11 <;> simp

theorem afterClear_heard : Heard s (afterClear s tag) .site :=
  heard_of_answer (a := ⟨(greeted .site s).modBank clearLive, .done, []⟩) tag Kind.snapshotClear.code
    (modBank_receivers _ _) (modBank_links _ _)

theorem afterClear_replied : Replied s (afterClear s tag) .site tag .snapshotClear .done [] :=
  replied_of .site tag .snapshotClear ⟨(greeted .site s).modBank clearLive, .done, []⟩ s
    ((owed_of_links (modBank_links _ _) .site).trans (greeted_owed .site s))

/-- SNAPSHOT-CLEAR leaves every block alone but the port's, the counters and the bank. -/
theorem afterClear_frame : SameExcept [.receivers, .links, .counters, .bank] s (afterClear s tag) := by
  have heard : SameExcept [.receivers, .links, .counters, .bank] s (greeted .site s) :=
    (greeted_frame .site s).mono (by simp)
  have cleared : SameExcept [.receivers, .links, .counters, .bank] (greeted .site s)
      ((greeted .site s).modBank clearLive) := sameExcept_modBank _ (by simp) (by simp)
  have replied : SameExcept [.receivers, .links, .counters, .bank] ((greeted .site s).modBank clearLive)
      (queueReply .site tag Kind.snapshotClear.code ⟨(greeted .site s).modBank clearLive, .done, []⟩) :=
    (sameExcept_modLink .site _ _).mono (by simp)
  exact ((heard.trans cleared).trans replied).settled

end

/-- SNAPSHOT-CLEAR: the same copy, and every live counter at 0. -/
theorem snapshotClear_clears (s : State) (tag : Byte) (hs : Served s .site) :
    ∃ t, exec (.snapshotClear (.sender .site) tag []) s = .next t ∧ Heard s t .site
      ∧ SameExcept [.receivers, .links, .counters, .bank] s t
      ∧ (∀ c : Counter, t.bank.snapshot[c.index]
          = if c = .ofPort (.sender .site) .framesGood then min (s.counter c + 1) 65535 else s.counter c)
      ∧ (∀ c : Counter, t.counter c = 0) ∧ t.bank.levels.getLsbD 11 = false
      ∧ (s.bank.levels.getLsbD 11 = true → t.bank.latches.getLsbD 11 = true)
      ∧ t.bank.enables = s.bank.enables ∧ t.bank.globalEnable = s.bank.globalEnable
      ∧ Replied s t .site tag .snapshotClear .done [] := by
  have served := exec_served (k := .snapshotClear) (tag := tag) hs
    (admissible_site .snapshotClear [] s hs rfl rfl rfl) (by decide)
  rw [handlerOf, handleSnapshotClear_eq] at served
  refine ⟨afterClear s tag, served, afterClear_heard s tag, afterClear_frame s tag, fun c => ?_, fun c => ?_,
    afterClear_saturated s tag, afterClear_saturated_latch s tag, afterClear_enables s tag,
    afterClear_globalEnable s tag, afterClear_replied s tag⟩
  · rw [← greeted_counter_eq, State.counter]
    simp only [afterClear_snapshot]
  · rw [State.counter]
    simp only [afterClear_live, Fin.getElem_fin, Vector.getElem_replicate]

/-- Settles O54: the copy, and the copy with the clear behind it. -/
theorem snapshotCopiesCounters : Obligations.SnapshotCopiesCounters := fun s tag hs =>
  ⟨snapshot_copies s tag hs, snapshotClear_clears s tag hs⟩

end Sys2Proof.Machine
end

section
/-! SUPPORT. READ-SNAPSHOT: the groups of the snapshot set and the counters of each (R190). -/

namespace Sys2Proof.Machine

/-- Counters whose places follow one another are read by one span of the bank. -/
theorem take_drop_counters {α : Type} (v : Vector Nat 178) (f : α → Counter) (l : List α) (start : Nat)
    (h : l.map (fun x => (f x).index.val) = List.range' start l.length) :
    (v.toList.drop start).take l.length = l.map fun x => v[(f x).index] := by
  induction l generalizing start with
  | nil => rfl
  | cons x l ih =>
    rw [List.map_cons, List.length_cons, List.range'_succ, List.cons.injEq] at h
    obtain ⟨place, places⟩ := h
    subst place
    have inside : (f x).index.val < v.toList.length := by simp
    rw [List.drop_eq_getElem_cons inside, List.length_cons, List.take_succ_cons, ih _ places]
    simp

theorem handleReadSnapshot_state (q : Sender) (pl : List Byte) (s : State) : (handleReadSnapshot q pl s).state = s := by
  unfold handleReadSnapshot
  split <;> rfl

/-- A group that has no span is refused. -/
theorem handleReadSnapshot_refused {n : Byte} (h : groupSpan n.toNat = none) (q : Sender) (s : State) :
    handleReadSnapshot q [n] s = ⟨s, .argument, []⟩ := by
  have group : byteAt [n] 0 = n.toNat := rfl
  rw [handleReadSnapshot, group, h]
  rfl

/-- A group is answered with its number and its counters, in the order of their places. -/
theorem handleReadSnapshot_group {α : Type} {n : Byte} {start : Nat} (f : α → Counter) (l : List α)
    (span : groupSpan n.toNat = some (start, l.length))
    (places : l.map (fun x => (f x).index.val) = List.range' start l.length) (q : Sender) (s : State) :
    handleReadSnapshot q [n] s
      = ⟨s, .done, n :: (l.map fun x => wordBytes s.bank.snapshot[(f x).index]).flatten⟩ := by
  have group : byteAt [n] 0 = n.toNat := rfl
  have number : byteOf n.toNat = n := by simp [byteOf]
  rw [handleReadSnapshot, group, span]
  simp only [number, take_drop_counters _ f l start places, List.map_map, Function.comp_def]

/-! ### The spans of the groups (9.2) -/

theorem groupSpan_above {n : Nat} (h : 44 < n) : groupSpan n = none := by
  rw [groupSpan, if_neg (by omega), if_neg (by omega), if_neg (by omega), if_neg (by omega)]

theorem groupSpan_gate (g : GateId) : groupSpan (g.val + 1) = some (10 + 4 * g.val, 4) := by
  rw [groupSpan, if_neg (by omega), if_pos (by omega), Nat.add_sub_cancel]

theorem groupSpan_dest (d : DestId) : groupSpan (d.val + 13) = some (58 + 4 * d.val, 4) := by
  rw [groupSpan, if_neg (by omega), if_neg (by omega), if_pos (by omega), Nat.add_sub_cancel]

theorem groupSpan_port (p : Port) : groupSpan ((Port.index p).val + 37) = some (154 + 3 * (Port.index p).val, 3) := by
  rw [groupSpan, if_neg (by omega), if_neg (by omega), if_neg (by omega), if_pos (by omega), Nat.add_sub_cancel]

/-- Settles O55: each group by its span, and none above 44. -/
theorem readSnapshotGroups : Obligations.ReadSnapshotGroups := by
  intro s tag n hs
  have served := exec_served (k := .readSnapshot) (tag := tag) hs
    (admissible_site .readSnapshot [n] s hs rfl rfl rfl) (by decide)
  have unchanged := handleReadSnapshot_state .site [n] (greeted .site s)
  obtain ⟨took, -, -, replied⟩ := answer_settled tag .readSnapshot (l := [])
    (a := handleReadSnapshot .site [n] (greeted .site s)) (by rw [unchanged]; exact sameExcept_refl _ _)
    (by rw [unchanged])
  have reply : ∀ status result, handleReadSnapshot .site [n] (greeted .site s) = ⟨greeted .site s, status, result⟩ →
      Replied s (settle (queueReply .site tag Kind.readSnapshot.code (handleReadSnapshot .site [n] (greeted .site s))))
        .site tag .readSnapshot status result := by
    intro status result answer
    rw [answer] at replied ⊢
    exact replied
  rw [← greeted_snapshot .site s]
  refine ⟨_, served, took, fun above => reply _ _ ?_, fun zero => reply _ _ ?_, fun g named => reply _ _ ?_,
    fun d named => reply _ _ ?_, fun p named => reply _ _ ?_⟩
  · exact handleReadSnapshot_refused (groupSpan_above above) _ _
  · exact handleReadSnapshot_group (start := 0) .ofPart _ (by rw [zero]; rfl) rfl _ _
  · exact handleReadSnapshot_group (start := 10 + 4 * g.val) (.ofGate g) _ (by rw [named, groupSpan_gate]; rfl) rfl _ _
  · exact handleReadSnapshot_group (start := 58 + 4 * d.val) (.ofDest d) _ (by rw [named, groupSpan_dest]; rfl) rfl _ _
  · exact handleReadSnapshot_group (start := 154 + 3 * (Port.index p).val) (.ofPort p) _
      (by rw [named, groupSpan_port]; rfl) rfl _ _

end Sys2Proof.Machine
end

section
/-! SUPPORT. READ-CONDITIONS and SET-ENABLES (R191, R192, R193). -/

namespace Sys2Proof.Machine

/-- A request that may move the bank, and leaves its snapshot and enables as they were, moves none of it. -/
theorem Took.unbanked {q : Sender} {s t : State} (h : Took q [.bank] s t) (hb : Block.bank.same s t) : Took q [] s t := by
  obtain ⟨heard, raised, frame⟩ := h
  refine ⟨heard, raised, fun b other => ?_⟩
  by_cases bank : b = .bank
  · rw [bank]
    exact hb
  · exact frame b (by simpa [bank] using other)

/-- A bank with no latch asserts no ATTN (R192). -/
theorem attnOf_clear {b : Bank} (h : b.latches = 0) : attnOf b = false := by
  simp [attnOf, h]

/-- READ-CONDITIONS: the levels and latches as its block finds them, and no latch is left. -/
theorem readConditions_clears (s : State) (tag : Byte) (hs : Served s .site) :
    ∃ t, exec (.readConditions (.sender .site) tag []) s = .next t ∧ Took .site [] s t
      ∧ t.bank.levels = condLevels t ∧ t.bank.latches = 0 ∧ t.bank.attn = false
      ∧ Replied s t .site tag .readConditions .done
          (wordBytes t.bank.levels.toNat ++ wordBytes (s.bank.latches ||| (s.bank.levels ^^^ t.bank.levels)).toNat
            ++ [boolByte s.bank.globalEnable]) := by
  have served := exec_served (k := .readConditions) (tag := tag) hs
    (admissible_site .readConditions [] s hs rfl rfl rfl) (by decide)
  rw [handlerOf, handleReadConditions] at served
  obtain ⟨took, levels, latches, replied⟩ := bank_settled (f := clearLatches) tag .readConditions s .done
    (conditionBytes (greeted .site s).bank) (fun _ => rfl) fun _ => rfl
  refine ⟨_, served, took.unbanked ?_, settle_levels_follow _, latches,
    (settle_attn _).trans (attnOf_clear latches), ?_⟩
  · simp only [Block.same, settle_snapshot, settle_enables, settle_globalEnable, queueReply_bank, modBank_bank,
      clearLatches, greeted_snapshot, greeted_enables, greeted_globalEnable, and_self]
  · rw [levels, ← greeted_latches, ← greeted_globalEnable .site s]
    exact replied

/-- The enables are the second and third byte of the payload, their bits 13 to 15 left out (R192; log 14). -/
theorem enables_of_bytes (en hi lo : Byte) :
    BitVec.ofNat 13 (wordAt [en, hi, lo] 1) = BitVec.ofNat 13 (hi ++ lo).toNat := by
  have word : wordAt [en, hi, lo] 1 = wordAt [hi, lo] 0 := rfl
  rw [← code_of_bytes hi lo [], ← word, BitVec.toNat_ofNat, Nat.mod_eq_of_lt (wordAt_lt _ _)]

/-- What SET-ENABLES makes of the bank, by the bytes of its payload. -/
theorem storeEnables_bytes (en hi lo : Byte) (b : Bank) : storeEnables [en, hi, lo] b
    = { b with
        globalEnable := en != 0
        enables := BitVec.ofNat 13 (hi ++ lo).toNat
        attn := (en != 0) && (b.latches &&& BitVec.ofNat 13 (hi ++ lo).toNat) != 0 } := by
  have global : yesAt [en, hi, lo] 0 = (en != 0) := yesAt_one 0 en [hi, lo]
  rw [storeEnables, global, enables_of_bytes]
  rfl

/-- The reply to SET-ENABLES has the global enable and the enables as stored. -/
theorem enableBytes_stored (en hi lo : Byte) (b : Bank) : enableBytes (storeEnables [en, hi, lo] b)
    = boolByte (en != 0) :: wordBytes (BitVec.ofNat 13 (hi ++ lo).toNat).toNat := by
  rw [enableBytes, storeEnables_bytes]

/-- SET-ENABLES: what is stored, with the latches as its block finds them. -/
theorem setEnables_stores (s : State) (tag : Byte) (hs : Served s .site) (en hi lo : Byte) :
    ∃ t, exec (.setEnables (.sender .site) tag [en, hi, lo]) s = .next t
      ∧ Took .site [.bank] s t ∧ t.bank.snapshot = s.bank.snapshot
      ∧ t.bank.globalEnable = (en != 0) ∧ t.bank.enables = BitVec.ofNat 13 (hi ++ lo).toNat
      ∧ t.bank.levels = condLevels t
      ∧ t.bank.latches = s.bank.latches ||| (s.bank.levels ^^^ t.bank.levels)
      ∧ t.bank.attn = ((en != 0) && (t.bank.latches &&& BitVec.ofNat 13 (hi ++ lo).toNat) != 0)
      ∧ Replied s t .site tag .setEnables .done
          (boolByte (en != 0) :: wordBytes (BitVec.ofNat 13 (hi ++ lo).toNat).toNat) := by
  have served := exec_served (k := .setEnables) (tag := tag) hs
    (admissible_site .setEnables [en, hi, lo] s hs rfl rfl rfl) (by decide)
  rw [handlerOf, handleSetEnables, enableBytes_stored] at served
  obtain ⟨took, levels, latches, replied⟩ := bank_settled (f := storeEnables [en, hi, lo]) tag .setEnables s .done
    (boolByte (en != 0) :: wordBytes (BitVec.ofNat 13 (hi ++ lo).toNat).toNat) (fun _ => rfl) fun _ => rfl
  refine ⟨_, served, took, ?_, ?_, ?_, settle_levels_follow _, ?_, ?_, replied⟩
  · rw [settle_snapshot, queueReply_bank, modBank_bank, storeEnables_bytes]
    exact greeted_snapshot .site s
  · rw [settle_globalEnable, queueReply_bank, modBank_bank, storeEnables_bytes]
  · rw [settle_enables, queueReply_bank, modBank_bank, storeEnables_bytes]
  · rw [levels, latches, ← greeted_latches, storeEnables_bytes]
  · rw [settle_attn, attnOf, settle_globalEnable, settle_enables, queueReply_bank, modBank_bank, storeEnables_bytes]

/-- Settles O56: the read that clears the latches, and the enables that touch none. -/
theorem conditionsAreReadAndEnabled : Obligations.ConditionsAreReadAndEnabled := fun s tag hs =>
  ⟨readConditions_clears s tag hs, setEnables_stores s tag hs⟩

end Sys2Proof.Machine
end

section
/-! SUPPORT. A gate that goes OUT_OF_SERVICE with entries bound for it: the gates, the holds, the token, the entries and the notices (R66, R67, R92, R107, R110, R114, R129, R131, R135). -/

namespace Sys2Proof.Machine

/-! ### The gates under a cascade (R58, R92) -/

/-- A cascade leaves the gates as they are, but for their fire queues. -/
theorem cascade_gate (ds : List DestId) (s : State) (x : GateId) :
    (cascade ds s).gate x = { s.gate x with queue := ((cascade ds s).gate x).queue } :=
  forEach_invariant (fun u => u.gate x = { s.gate x with queue := (u.gate x).queue }) _ _
    (fun a _ u hu => by rw [reroute_gate, hu]) s rfl

/-- Only the gates of its destinations lose entries of their queues. -/
theorem cascade_gate_same {ds : List DestId} {x : GateId} (h : ∀ d ∈ ds, destGate d ≠ x) (s : State) :
    (cascade ds s).gate x = s.gate x := by
  refine forEach_invariant (fun u => u.gate x = s.gate x) _ _ (fun a ha u hu => ?_) s rfl
  obtain ⟨e, -, he⟩ := List.mem_filterMap.mp ha
  obtain ⟨d, hd, rfl⟩ := Option.map_eq_some_iff.mp he
  rw [← hu]
  exact reroute_gate_same (.inl (h d (concerned_some.mp hd).2.1).symm)

theorem gainAll_held_gate (ds : List DestId) (set : Holds → Holds) (s : State) (x : GateId) :
    (syncConditions (forEach ds (gainHold set) s)).gate x = s.gate x := by
  rw [syncConditions, modBank_gate, gainAll_gate]

theorem gainRerouting_gate (c : Holds → Bool) (set : Holds → Holds) (ds : List DestId) (s : State) (x : GateId) :
    (gainRerouting c set ds s).gate x
      = { s.gate x with queue := ((gainRerouting c set ds s).gate x).queue } := by
  have moved := cascade_gate (ds.filter fun d => !c (s.dest d).holds)
    (syncConditions (forEach (ds.filter fun d => !c (s.dest d).holds) (gainHold set) s)) x
  rwa [gainAll_held_gate] at moved

theorem gainRerouting_gate_same (c : Holds → Bool) (set : Holds → Holds) {ds : List DestId} {x : GateId}
    (h : ∀ d ∈ ds, destGate d ≠ x) (s : State) : (gainRerouting c set ds s).gate x = s.gate x :=
  (cascade_gate_same (fun d hd => h d (List.mem_of_mem_filter hd)) _).trans (gainAll_held_gate _ set s x)

/-! ### The TEST_DONE latch (R135, R191) -/

/-- TEST_DONE has no level (11.2). -/
theorem condLevels_testDone (s : State) : (condLevels s).getLsbD 12 = false := by
  rw [condLevels, BitVec.getLsbD_ofNat, testBit_packBits]; rfl

/-- The TEST_DONE latch stays set, and where no level stands for TEST_DONE, none comes and the latch is as it was. -/
structure LatchStands (s t : State) : Prop where
  set : s.bank.latches.getLsbD 12 = true → t.bank.latches.getLsbD 12 = true
  clear : s.bank.levels.getLsbD 12 = false →
    t.bank.levels.getLsbD 12 = false ∧ t.bank.latches.getLsbD 12 = s.bank.latches.getLsbD 12

theorem LatchStands.trans {s t u : State} (h : LatchStands s t) (k : LatchStands t u) : LatchStands s u :=
  ⟨k.set ∘ h.set, fun level => by
    obtain ⟨level, latch⟩ := h.clear level
    obtain ⟨level, latch'⟩ := k.clear level
    exact ⟨level, latch'.trans latch⟩⟩

/-- The levels and the latches of the bank. -/
def State.marks (s : State) : BitVec 13 × BitVec 13 := (s.bank.levels, s.bank.latches)

theorem latchStands_of_marks {s t : State} (h : t.marks = s.marks) : LatchStands s t := by
  simp only [State.marks, Prod.mk.injEq] at h
  obtain ⟨levels, latches⟩ := h
  exact ⟨fun k => by rw [latches, k], fun k => ⟨by rw [levels, k], by rw [latches]⟩⟩

theorem latchStands_syncConditions (s : State) : LatchStands s (syncConditions s) := by
  have levels : (syncConditions s).bank.levels = condLevels s := by simp [syncConditions]
  have latches : (syncConditions s).bank.latches = s.bank.latches ||| (s.bank.levels ^^^ condLevels s) := by
    simp [syncConditions]
  refine ⟨fun k => by rw [latches, BitVec.getLsbD_or, k, Bool.true_or], fun k => ?_⟩
  rw [levels, latches, BitVec.getLsbD_or, BitVec.getLsbD_xor, k, condLevels_testDone]
  simp

theorem latchStands_settle (s : State) : LatchStands s (settle s) := by
  have marks : (settle s).marks = (syncConditions s).marks := by rw [State.marks, settle_bank]; rfl
  exact (latchStands_syncConditions s).trans (latchStands_of_marks marks)

theorem marks_of_untold {s t : State} (h : t.untold = s.untold) : t.marks = s.marks := by
  simp only [State.marks, bank_of_untold h]

theorem unreserve_marks (d : DestId) (s : State) : (unreserve d s).marks = s.marks :=
  marks_of_untold (unreserve_untold d s)

theorem decideRoute_marks (r : EntryRef) (o : Option DestId) (s : State) : (decideRoute r o s).marks = s.marks := by
  unfold decideRoute
  split
  · rfl
  · split <;> rfl

theorem reroute_marks (d : DestId) (r : EntryRef) (s : State) : (reroute d r s).marks = s.marks := by
  obtain ⟨_, -, -, -, -, h⟩ | ⟨_, -, -, -, -, h⟩ | ⟨-, h⟩ := reroute_cases d r s
  · have counted : ∀ u, (countReroute r u).marks = u.marks := fun _ => rfl
    rw [h, decideRoute_marks, offered, counted, giveBack, unreserve_marks]
    rfl
  · rw [h, unreserve_marks]
    rfl
  · rw [h]

theorem latchStands_gainRerouting (c : Holds → Bool) (set : Holds → Holds) (ds : List DestId) (s : State) :
    LatchStands s (gainRerouting c set ds s) := by
  have held : (forEach (ds.filter fun d => !c (s.dest d).holds) (gainHold set) s).marks = s.marks :=
    forEach_keeps State.marks _ (fun d u => marks_of_untold (changeDest_untold d _ u)) _ s
  have moved : ∀ l u, (cascade l u).marks = u.marks := fun l u =>
    forEach_keeps State.marks _ (fun _ _ => reroute_marks _ _ _) _ u
  exact ((latchStands_of_marks held).trans (latchStands_syncConditions _)).trans (latchStands_of_marks (moved _ _))

theorem greeted_latchStands (q : Sender) (s : State) : LatchStands s (greeted q s) :=
  (latchStands_of_marks (s := s) (t := ((hunt (.sender q) s).raisePort (.sender q) .framesGood).modLink q fun k =>
    { k with silenceMs := 0, state := if k.state = .quiet then .active else k.state }) rfl).trans
    (latchStands_syncConditions _)

/-! ### A gate that goes out, part by part (R110, R129) -/

/-- The gate is OUT_OF_SERVICE, both its destinations carry GATE_OUT, and the entries bound for them have been moved off. -/
def movedOut (g : GateId) (s : State) : State :=
  gainRerouting Holds.gateOut setGateOut [gateDest g .left, gateDest g .right]
    (s.modGate g fun x => { x with service := .outOfService })

theorem gateOut_eq (g : GateId) (s : State) : gateOut g s
    = (if tokenUnfired g s then endToken .aborted (movedOut g s) else movedOut g s).modGate g
        fun x => { x with queue := [] } := rfl

section
variable (g : GateId) (s : State)

theorem movedOut_tokenView : tokenView (movedOut g s) = tokenView s := gainRerouting_tokenView ..

theorem movedOut_gate_self : (movedOut g s).gate g
    = { s.gate g with service := .outOfService, queue := ((movedOut g s).gate g).queue } := by
  have moved := gainRerouting_gate Holds.gateOut setGateOut [gateDest g .left, gateDest g .right]
    (s.modGate g fun x => { x with service := .outOfService }) g
  rwa [modGate_gate_self] at moved

theorem movedOut_gate_ne {x : GateId} (hx : x ≠ g) : (movedOut g s).gate x = s.gate x := by
  have elsewhere : ∀ d ∈ [gateDest g .left, gateDest g .right], destGate d ≠ x := fun d hd =>
    (mem_gateDests.mp hd) ▸ hx.symm
  rw [movedOut, gainRerouting_gate_same _ _ elsewhere, modGate_gate_ne _ _ _ _ hx]

/-- The token's end moves only the gate that the token is bound for. -/
theorem endToken_gate_same (x : TestResult) {s : State} {y : GateId}
    (h : ∀ e, s.find .token = some e → e.gate? ≠ some y) : (endToken x s).gate y = s.gate y := by
  unfold endToken
  split
  · rfl
  · next e he =>
    dsimp only
    split
    · next g hg =>
      have other : y ≠ g := fun k => h e he (k ▸ hg)
      exact (leaveQueue_gate g y .token s).trans (if_neg other)
    · rfl

/-- A gate that goes out has an empty queue, and no other gate moves (R129). -/
theorem gateOut_gate (x : GateId) : (gateOut g s).gate x
    = if x = g then { s.gate g with service := .outOfService, queue := [] } else s.gate x := by
  rw [gateOut_eq, modGate_gate]
  split
  · have self := movedOut_gate_self g s
    split
    · rw [endToken_gate, self]
    · rw [self]
  · next hx =>
    have same := movedOut_gate_ne g s hx
    split
    · next unfired =>
      obtain ⟨e, he, y, hy, bound, -⟩ := (tokenUnfired_iff g s).mp unfired
      have view := movedOut_tokenView g s
      simp only [tokenView, Prod.mk.injEq] at view
      rw [endToken_gate_same .aborted fun z hz => ?_, same]
      rw [view.1, he] at hz
      cases hz
      rw [bound, hy]
      exact fun k => hx (Option.some.inj k).symm
    · exact same

theorem movedOut_gateOut (y : Side) : ((movedOut g s).dest (gateDest g y)).holds.gateOut = true := by
  have held := holds_of_steady (cascade_steady ([gateDest g .left, gateDest g .right].filter fun d =>
    !((s.modGate g fun x => { x with service := .outOfService }).dest d).holds.gateOut)
    (syncConditions (heldOut g s))) (gateDest g y)
  exact (congrArg Holds.gateOut held).trans ((congrArg (fun r : Dest => r.holds.gateOut)
    (syncConditions_dest _ _)).trans (heldOut_gateOut g s y))

theorem gateOut_dests : (gateOut g s).dests = (movedOut g s).dests := by
  rw [gateOut_eq, modGate_dests]
  split
  · rw [endToken_eq]
  · rfl

/-- Both its destinations carry GATE_OUT (R110). -/
theorem gateOut_gateOut (y : Side) : ((gateOut g s).dest (gateDest g y)).holds.gateOut = true := by
  have held := movedOut_gateOut g s y
  simpa only [State.dest, gateOut_dests] using held

theorem gateOut_frame : SameExcept [.counters, .gates, .dests, .map, .test, .notices] s (gateOut g s) := by
  have moved : SameExcept [.counters, .gates, .dests, .map, .test, .notices] s (movedOut g s) :=
    ((sameExcept_modGate g _ s).mono (by simp)).trans ((gainRerouting_frame _ _ _ _).mono (by simp))
  have emptied := fun u => (sameExcept_modGate g (fun x => { x with queue := [] }) u).mono
    (m := [.counters, .gates, .dests, .map, .test, .notices]) (by simp)
  rw [gateOut_eq]
  split
  · exact (moved.trans ((endToken_frame _ _).mono (by simp))).trans (emptied _)
  · exact moved.trans (emptied _)

/-- It counts nothing of a port. -/
theorem gateOut_frames (p : Port) (c : PortCounter) :
    (gateOut g s).counter (.ofPort p c) = s.counter (.ofPort p c) := by
  have moved : (movedOut g s).counter (.ofPort p c) = s.counter (.ofPort p c) := gainRerouting_frames ..
  rw [gateOut_eq, modGate_counter]
  split
  · rw [endToken_counter, moved]
  · exact moved

end

/-! ### The entries bound for the gate (R58, R62, R91, R92, R107) -/

section
variable {g : GateId} {s : State}

/-- The entries bound for a gate that goes out are moved off its destinations. -/
theorem movedOut_movedOff (names : (s.map.map Entry.ref).Nodup) (shape : ∀ e ∈ s.map, e.shaped)
    (free : ∀ y : Side, (s.dest (gateDest g y)).holds.gateOut = false) :
    MovedOff [gateDest g .left, gateDest g .right] s (movedOut g s) := by
  obtain ⟨u, hu⟩ : ∃ u, u = syncConditions (heldOut g s) := ⟨_, rfl⟩
  have fresh : ([gateDest g .left, gateDest g .right].filter fun d =>
      !((s.modGate g fun x => { x with service := .outOfService }).dest d).holds.gateOut)
      = [gateDest g .left, gateDest g .right] := by
    simp [free]
  have out : movedOut g s = cascade [gateDest g .left, gateDest g .right] u :=
    hu ▸ congrArg (fun ds => cascade ds (syncConditions (heldOut g s))) fresh
  have map : u.map = s.map := by
    rw [hu, syncConditions, modBank_map, map_of_untold (heldOut_untold g s), modGate_map]
  have told : Told s u := hu ▸ (Told.forEach (fun d _ h => h.gainHold within_setGateOut d) _
    ((told_refl s).modGate g fun x => { x with service := .outOfService })).syncConditions
  have shut : ∀ d ∈ [gateDest g .left, gateDest g .right], (u.dest d).shut := fun d hd _ empty => by
    have held : ((heldOut g s).dest d).holds.gateOut = true := by
      rcases List.mem_pair.mp hd with rfl | rfl <;> exact heldOut_gateOut g s _
    rw [hu, syncConditions_dest] at empty
    rw [empty] at held
    cases held
  rw [out]
  exact (cascade_movedOff (by rw [map]; exact names) (by rw [map]; exact shape) shut).since map told.dest_advances

/-- A token that ends is none of the entries moved off (R65). -/
theorem MovedOff.endToken {ds : List DestId} {s u : State} (h : MovedOff ds s u) (x : TestResult) :
    MovedOff ds s (endToken x u) := by
  obtain ⟨empty, each⟩ := h
  refine ⟨fun d hd => ?_, fun e he item => ?_⟩
  · have fewer : (boundFor (Machine.endToken x u) d).Sublist (boundFor u d) := by
      rw [boundFor_eq, boundFor_eq, endToken_map]
      exact (eraseEntry_sublist .token u.map).filter _
    exact List.sublist_nil.mp (empty d hd ▸ fewer)
  · obtain ⟨e', found, moved⟩ := each e he item
    refine ⟨e', ?_, moved⟩
    rw [endToken_others x u e.ref fun k => ?_, found]
    rw [(isTest_iff_token e).mpr k] at item
    cases item

/-- The same as seen from a state with the items and the records before. -/
theorem MovedOff.of_items {ds : List DestId} {s u t : State} (h : MovedOff ds u t)
    (items : ∀ e ∈ s.map, e.isTest = false → e ∈ u.map) (dests : u.dests = s.dests) : MovedOff ds s t := by
  obtain ⟨empty, each⟩ := h
  refine ⟨empty, fun e he item => ?_⟩
  have dest : ∀ d, u.dest d = s.dest d := fun d => by simp only [State.dest, dests]
  simpa only [MovedTo, dest] using each e (items e he item) item

theorem gateOut_movedOff (names : (s.map.map Entry.ref).Nodup) (shape : ∀ e ∈ s.map, e.shaped)
    (free : ∀ y : Side, (s.dest (gateDest g y)).holds.gateOut = false) :
    MovedOff [gateDest g .left, gateDest g .right] s (gateOut g s) := by
  have moved := movedOut_movedOff names shape free
  rw [gateOut_eq]
  split
  · exact (moved.endToken .aborted).map_eq rfl
  · exact moved.map_eq rfl

end

/-! ### The token at gates that go out (R66, R67, R129, R135) -/

/-- What gates that go out do to the token, as seen in the middle of an event. -/
structure TokenEnds (gone : GateId → Prop) (s t : State) : Prop where
  unfired : ∀ e : Entry, s.find .token = some e → UnfiredAt gone s e →
    t.test = { s.test with result := .aborted } ∧ t.bank.latches.getLsbD 12 = true
      ∧ ((s.map.map Entry.ref).Nodup → t.find .token = none ∧ t.map.length + 1 = s.map.length)
  other : (∀ e : Entry, s.find .token = some e → ¬UnfiredAt gone s e) → tokenView t = tokenView s ∧ LatchStands s t

namespace TokenEnds
variable {gone gone' : GateId → Prop} {s t u : State}

/-- As an event ends, the token's end is that of the statements. -/
theorem aborted (h : TokenEnds gone s t) : TokenAborted gone s t := by
  refine ⟨fun e he k => ?_, fun k => ?_⟩
  · obtain ⟨test, latch, left⟩ := h.unfired e he k
    exact ⟨test, latch, fun law => left law.2⟩
  · obtain ⟨view, stands⟩ := h.other k
    simp only [tokenView, Prod.mk.injEq] at view
    obtain ⟨found, length, test, -⟩ := view
    exact ⟨test, found, length, fun law => (stands.clear (by rw [law.1, condLevels_testDone])).2⟩

/-- A latch that is set stays set. -/
theorem latch (h : TokenEnds gone s t) (set : s.bank.latches.getLsbD 12 = true) : t.bank.latches.getLsbD 12 = true := by
  by_cases k : ∃ e, s.find .token = some e ∧ UnfiredAt gone s e
  · obtain ⟨e, he, hu⟩ := k
    exact (h.unfired e he hu).2.1
  · exact (h.other fun e he hu => k ⟨e, he, hu⟩).2.set set

/-- A change behind it that touches neither the token nor its latch. -/
theorem behind (h : TokenEnds gone s u) (view : tokenView t = tokenView u) (stands : LatchStands u t) :
    TokenEnds gone s t := by
  refine ⟨fun e he k => ?_, fun k => ?_⟩
  · obtain ⟨test, latch, left⟩ := h.unfired e he k
    simp only [tokenView, Prod.mk.injEq] at view
    obtain ⟨found, length, same, -⟩ := view
    exact ⟨same.trans test, stands.set latch, fun names => by rw [found, length]; exact left names⟩
  · obtain ⟨view', stands'⟩ := h.other k
    exact ⟨view.trans view', stands'.trans stands⟩

/-- A change before it that touches neither the token, nor its latch, nor a fire queue. -/
theorem since (h : TokenEnds gone u t) (view : tokenView u = tokenView s) (stands : LatchStands s u)
    (queue : ∀ x, (u.gate x).queue = (s.gate x).queue) : TokenEnds gone s t := by
  have at_gate : ∀ e, UnfiredAt gone u e ↔ UnfiredAt gone s e := fun e => by simp only [UnfiredAt, queue]
  have view' := view
  simp only [tokenView, Prod.mk.injEq] at view'
  obtain ⟨found, length, test, names⟩ := view'
  refine ⟨fun e he k => ?_, fun k => ?_⟩
  · have ends := h.unfired e (found.trans he) ((at_gate e).mpr k)
    rwa [test, length, names] at ends
  · obtain ⟨view', stands'⟩ := h.other fun e he hu => k e (found ▸ he) ((at_gate e).mp hu)
    exact ⟨view'.trans view, stands.trans stands'⟩

theorem congr (h : TokenEnds gone s t) (same : ∀ g, gone g ↔ gone' g) : TokenEnds gone' s t := by
  have e : gone = gone' := funext fun g => propext (same g)
  rwa [← e]

/-- No gate goes out. -/
theorem none (view : tokenView t = tokenView s) (stands : LatchStands s t) : TokenEnds (fun _ => False) s t :=
  ⟨fun _ _ ⟨_, k, _⟩ => k.elim, fun _ => ⟨view, stands⟩⟩

/-- Some gates go out, and then others, whose queues the first have left alone. -/
theorem trans (h : TokenEnds gone s u) (k : TokenEnds gone' u t)
    (queue : ∀ x, gone' x → (u.gate x).queue = (s.gate x).queue) :
    TokenEnds (fun x => gone x ∨ gone' x) s t := by
  have later : ∀ e, UnfiredAt gone' u e ↔ UnfiredAt gone' s e := fun e =>
    exists_congr fun x => and_congr_right fun hx => by rw [queue x hx]
  have apart : ∀ e, UnfiredAt (fun x => gone x ∨ gone' x) s e ↔ UnfiredAt gone s e ∨ UnfiredAt gone' s e := fun e => by
    simp only [UnfiredAt, or_and_right, exists_or]
  refine ⟨fun e he unfired => ?_, fun stays => ?_⟩
  · by_cases first : UnfiredAt gone s e
    · obtain ⟨test, latch, left⟩ := h.unfired e he first
      refine ⟨?_, k.latch latch, fun names => ?_⟩
      · by_cases again : ∃ z, u.find .token = some z ∧ UnfiredAt gone' u z
        · obtain ⟨z, hz, hu⟩ := again
          rw [(k.unfired z hz hu).1, test]
        · have view := (k.other fun z hz hu => again ⟨z, hz, hu⟩).1
          simp only [tokenView, Prod.mk.injEq] at view
          rw [view.2.2.1, test]
      · obtain ⟨gone, length⟩ := left names
        have view := (k.other fun z hz => by rw [gone] at hz; cases hz).1
        simp only [tokenView, Prod.mk.injEq] at view
        rw [view.1, view.2.1]
        exact ⟨gone, length⟩
    · have second := ((apart e).mp unfired).resolve_left first
      have view := (h.other fun z hz => by rw [he] at hz; cases hz; exact first).1
      simp only [tokenView, Prod.mk.injEq] at view
      obtain ⟨found, length, test, names⟩ := view
      have ends := k.unfired e (found.trans he) ((later e).mpr second)
      rwa [test, length, names] at ends
  · obtain ⟨view, stands⟩ := h.other fun e he hu => stays e he ((apart e).mpr (.inl hu))
    have found : u.find .token = s.find .token := congrArg Prod.fst view
    obtain ⟨view', stands'⟩ := k.other fun e he hu =>
      stays e (found ▸ he) ((apart e).mpr (.inr ((later e).mp hu)))
    exact ⟨view'.trans view, stands.trans stands'⟩

end TokenEnds

/-- A gate that goes out ends the token bound for it that has not fired, and no other. -/
theorem tokenEnds_gateOut (g : GateId) (s : State) : TokenEnds (fun x => x = g) s (gateOut g s) := by
  obtain ⟨ends, stays⟩ := gateOut_token g s
  refine ⟨fun e he k => ?_, fun k => ?_⟩
  · obtain ⟨test, latch, length, gone⟩ := ends ((tokenUnfired_iff g s).mpr ⟨e, he, k⟩)
    exact ⟨test, latch, fun names => ⟨gone names, length⟩⟩
  · have unfired : tokenUnfired g s = false := eq_false_of_ne_true fun h => by
      obtain ⟨e, he, hu⟩ := (tokenUnfired_iff g s).mp h
      exact k e he hu
    refine ⟨stays unfired, ?_⟩
    rw [gateOut_eq, unfired]
    have service : LatchStands s (s.modGate g fun x => { x with service := .outOfService }) := latchStands_of_marks rfl
    have moved : LatchStands s (movedOut g s) := service.trans (latchStands_gainRerouting _ _ _ _)
    exact moved.trans (latchStands_of_marks rfl)

end Sys2Proof.Machine
end

section
/-! SUPPORT. A fault that takes a gate out, and the end of a cycle with its watch (R66, R67, R92, R107, R110, R114, R126, R129, R131, R135, R151, R153). -/

namespace Sys2Proof.Machine

/-! ### What a gate that goes out brings, over a whole event -/

/-- The holds, the token and the entries once gate g has gone out (R67, R107, R110, R129). -/
structure TakesOut (g : GateId) (s t : State) : Prop where
  held : ∀ y : Side, (t.dest (gateDest g y)).holds.gateOut = true
  token : TokenEnds (fun x => x = g) s t
  moved : (s.map.map Entry.ref).Nodup → (∀ e ∈ s.map, e.shaped) →
    (∀ y : Side, (s.dest (gateDest g y)).holds.gateOut = false) → MovedOff [gateDest g .left, gateDest g .right] s t

theorem takesOut_gateOut (g : GateId) (s : State) : TakesOut g s (gateOut g s) :=
  ⟨gateOut_gateOut g s, tokenEnds_gateOut g s, gateOut_movedOff⟩

namespace TakesOut
variable {g : GateId} {s t u : State}

theorem movedOff (h : TakesOut g s t) (law : RouteLaw s)
    (free : ∀ y : Side, (s.dest (gateDest g y)).holds.gateOut = false) :
    MovedOff [gateDest g .left, gateDest g .right] s t := by
  obtain ⟨⟨-, names⟩, shape, -⟩ := law
  exact h.moved names shape free

/-- The same from before a change that a gate going out does not read. -/
theorem since (h : TakesOut g u t) (map : u.map = s.map) (dests : u.dests = s.dests) (test : u.test = s.test)
    (stands : LatchStands s u) (queue : ∀ x, (u.gate x).queue = (s.gate x).queue) : TakesOut g s t := by
  have view : tokenView u = tokenView s := by simp only [tokenView, State.find, map, test]
  have dest : ∀ d, u.dest d = s.dest d := fun d => by simp only [State.dest, dests]
  refine ⟨h.held, h.token.since view stands queue, fun names shape free => ?_⟩
  exact (h.moved (map ▸ names) (map ▸ shape) (by simpa only [dest] using free)).of_items
    (fun e he _ => map ▸ he) dests

/-- The same behind a change of anything but the entries, the records, the token and its latch. -/
theorem behind (h : TakesOut g s u) (map : t.map = u.map) (dests : t.dests = u.dests) (test : t.test = u.test)
    (stands : LatchStands u t) : TakesOut g s t := by
  have view : tokenView t = tokenView u := by simp only [tokenView, State.find, map, test]
  refine ⟨fun y => ?_, h.token.behind view stands, fun names shape free => (h.moved names shape free).map_eq map⟩
  simpa only [State.dest, dests] using h.held y

theorem settled (h : TakesOut g s u) : TakesOut g s (settle u) :=
  h.behind (settle_map u) (settle_dests u) (settle_test u) (latchStands_settle u)

end TakesOut

/-- A gate that is OUT_OF_SERVICE as an event ends sets the GATE_FAULT level (R129). -/
theorem settle_level_out {s : State} {g : GateId} (out : (s.gate g).service = .outOfService) :
    (settle s).bank.levels.getLsbD 7 = true := by
  rw [settle_level_gateFault, levelGateFault, List.any_eq_true]
  exact ⟨g, mem_allGates g, by rw [out]; rfl⟩

/-! ### A fault that takes its gate out (R131, R153) -/

/-- The fault is recorded, and the gate goes out. -/
def faultOut (g : GateId) (cause : FaultCause) (side : Option Side) (s : State) : State :=
  gateOut g (recordFault g cause side s)

theorem uncommanded_out {g : GateId} {s : State} (side : Side) (service : (s.gate g).service = .inService) :
    uncommanded g side s = faultOut g .extendUncommanded (some side) s := by
  have kept : ((recordFault g .extendUncommanded (some side) s).gate g).service = .inService := by
    rw [recordFault, modGate_gate_self]; exact service
  exact if_pos kept

section
variable (g : GateId) (cause : FaultCause) (side : Option Side) (s : State)

theorem recordFault_gate (x : GateId) : (recordFault g cause side s).gate x
    = if x = g then { s.gate g with fault := (s.gate g).fault.next cause side s.belt.p } else s.gate x := modGate_gate ..

theorem faultOut_gate (x : GateId) : (faultOut g cause side s).gate x = if x = g then { s.gate g with
      service := .outOfService, queue := [], fault := (s.gate g).fault.next cause side s.belt.p }
    else s.gate x := by
  rw [faultOut, gateOut_gate, recordFault_gate, recordFault_gate, if_pos rfl]
  split <;> rfl

theorem faultOut_self : (faultOut g cause side s).gate g = { s.gate g with
    service := .outOfService, queue := [], fault := (s.gate g).fault.next cause side s.belt.p } := by
  rw [faultOut_gate, if_pos rfl]

theorem faultOut_others : SameOtherGates s (faultOut g cause side s) g := fun x hx => by
  rw [faultOut_gate, if_neg hx]

theorem faultOut_frame : SameExcept [.counters, .gates, .dests, .map, .test, .notices] s (faultOut g cause side s) :=
  ((sameExcept_modGate g _ s).mono (by simp)).trans (gateOut_frame g _)

theorem faultOut_takesOut : TakesOut g s (faultOut g cause side s) :=
  (takesOut_gateOut g (recordFault g cause side s)).since rfl rfl rfl (latchStands_of_marks rfl) fun x => by
    rw [recordFault_gate]
    split
    · next h => rw [h]
    · rfl

end

theorem Told.faultOut {s u : State} (h : Told s u) (g : GateId) (cause : FaultCause) (side : Option Side) :
    Told s (faultOut g cause side u) :=
  (h.modGate g _).gateOut g

/-! ### The end of a cycle (R126, R151) -/

/-- As a watch begins with one switch extended, its side is recorded (R151). -/
theorem beginWatch_one {g : GateId} {s : State} {side : Side} (on : watched g s = true)
    (left : s.switchExtended g .left = (side == .left)) (right : s.switchExtended g .right = (side == .right)) :
    beginWatch g s = uncommanded g side s := by
  rw [beginWatch, if_pos on, left, right]
  cases side <;> rfl

/-- With no switch extended, a watch finds nothing (R151). -/
theorem beginWatch_clear {g : GateId} {s : State} (left : s.switchExtended g .left = false)
    (right : s.switchExtended g .right = false) : beginWatch g s = s := by
  obtain ⟨-, same⟩ | ⟨⟨-, found⟩, -⟩ := beginWatch_cases g s
  · exact same
  · simp [left, right] at found

/-- No watch begins at a gate that is not watched (R151). -/
theorem beginWatch_unwatched {g : GateId} {s : State} (off : watched g s = false) : beginWatch g s = s :=
  if_neg (by rw [off]; exact Bool.false_ne_true)

theorem exec_gateCycleEnd {s : State} {g : GateId} {cy : Cycle} (hr : s.inReset = false)
    (cycle : (s.gate g).cycle = some cy) (ends : cy.endIn = 0) :
    exec (.gateCycleEnd g) s = .next (settle (beginWatch g (s.modGate g endCycle))) := by
  have due : cycleEndDue (s.gate g) = true := by simp [cycleEndDue, cycle, ends]
  exact exec_due (c := .gateCycleEnd g) rfl hr due

theorem exec_gateDriveOff {s : State} {g : GateId} {cy : Cycle} (hr : s.inReset = false)
    (cycle : (s.gate g).cycle = some cy) (off : cy.offIn = 0)
    (drive : (s.gate g).driveLeft = true ∨ (s.gate g).driveRight = true) :
    exec (.gateDriveOff g) s = .next (settle (s.modGate g drivesOff)) := by
  have due : driveOffDue (s.gate g) = true := by simpa [driveOffDue, cycle, off] using drive
  exact exec_due (c := .gateDriveOff g) rfl hr due

/-- A change of one gate's record, settled. -/
theorem modGate_settled (g : GateId) (f : Gate → Gate) (s : State) :
    SameExcept [.gates] s (settle (s.modGate g f)) ∧ SameOtherGates s (settle (s.modGate g f)) g
      ∧ (settle (s.modGate g f)).gate g = f (s.gate g) :=
  ⟨(sameExcept_modGate g f s).settled, fun x hx => by rw [settle_gate, modGate_gate_ne _ _ _ _ hx],
    by rw [settle_gate, modGate_gate_self]⟩

/-- Settles O24: the drive that goes off, and the cycle's end with no switch and with one switch extended. -/
theorem cycleRunsOut : Obligations.CycleRunsOut := by
  intro s g cy hr cycle
  refine ⟨fun off drive => ?_, fun ends left right => ?_, fun side ends left right belt on service checks => ?_⟩
  · exact ⟨_, exec_gateDriveOff hr cycle off drive, modGate_settled g drivesOff s⟩
  · have he := exec_gateCycleEnd hr cycle ends
    rw [beginWatch_clear (by rwa [modGate_switchExtended]) (by rwa [modGate_switchExtended])] at he
    exact ⟨_, he, modGate_settled g endCycle s⟩
  · have he := exec_gateCycleEnd hr cycle ends
    obtain ⟨u, hu⟩ : ∃ u, u = s.modGate g endCycle := ⟨_, rfl⟩
    have gate : ∀ x, u.gate x = if x = g then endCycle (s.gate g) else s.gate x := fun x => by rw [hu, modGate_gate]
    have self : u.gate g = endCycle (s.gate g) := by rw [gate, if_pos rfl]
    have watch : watched g u = true := watched_iff.mpr (by rw [self]; exact ⟨hu ▸ belt, on, service, rfl, checks⟩)
    have ended : SameExcept [.gates] s u := hu ▸ sameExcept_modGate g _ s
    rw [← hu, beginWatch_one watch (by rwa [hu, modGate_switchExtended]) (by rwa [hu, modGate_switchExtended]),
      uncommanded_out side (by rw [self]; exact service)] at he
    have out := ((faultOut_takesOut g .extendUncommanded (some side) u).since (s := s) (hu ▸ rfl) (hu ▸ rfl) (hu ▸ rfl)
      (latchStands_of_marks (hu ▸ rfl)) fun x => by
        rw [gate]
        split
        · next h => rw [h]; rfl
        · rfl).settled
    have told : Told s u := hu ▸ (told_refl s).modGate g endCycle
    refine ⟨_, he, (((ended.mono (by simp)).trans (faultOut_frame _ _ _ u)).mono (by simp)).settled, fun x hx => ?_, ?_,
      out.held, settle_level_out (g := g) (by rw [faultOut_self]), out.token.aborted,
      (told.faultOut g _ _).destNotices_event, out.movedOff⟩
    · rw [settle_gate, faultOut_others g _ _ u x hx, gate, if_neg hx]
    · rw [settle_gate, faultOut_self, self, hu]
      rfl

end Sys2Proof.Machine
end

section
/-! SUPPORT. The extended switches and the actuator checks (R66, R67, R107, R110, R114, R129, R131, R135, R150 to R153). -/

namespace Sys2Proof.Machine

/-! ### A switch's level -/

section
variable (g : GateId) (side : Side) (b : Bool) (s : State)

theorem setSwitch_frame : SameExcept [.pins] s (setSwitch g side b s) :=
  sameExcept_of_front rfl (by simp [frontBlocks, Block.same, SameDests, setSwitch])

theorem setSwitch_self : (setSwitch g side b s).switchExtended g side = b := by
  cases side <;> simp [setSwitch, State.modPins, State.switchExtended]

variable {g side}

theorem setSwitch_other {x : GateId} {y : Side} (h : x ≠ g ∨ y ≠ side) :
    (setSwitch g side b s).switchExtended x y = s.switchExtended x y := by
  have index : x ≠ g → g.val ≠ x.val := fun k e => k (Fin.ext e.symm)
  cases side <;> cases y <;> simp_all [setSwitch, State.modPins, State.switchExtended]

end

theorem settle_switchExtended (s : State) (x : GateId) (y : Side) :
    (settle s).switchExtended x y = s.switchExtended x y := by
  cases y <;> simp only [State.switchExtended, settle_pins]

/-- A switch that goes back moves its level alone. -/
theorem exec_switchBack {s : State} {g : GateId} {side : Side} (hr : s.inReset = false)
    (on : s.switchExtended g side = true) :
    exec (.extendedSwitchChange g side false) s = .next (settle (setSwitch g side false s)) := by
  rw [exec_input (c := .extendedSwitchChange g side false) rfl hr, if_neg (by simp [on]), if_neg Bool.false_ne_true]
  rfl

theorem exec_switchGoes {s : State} {g : GateId} {side : Side} (hr : s.inReset = false)
    (off : s.switchExtended g side = false) : exec (.extendedSwitchChange g side true) s
      = .next (settle (switchGoesExtended g side (setSwitch g side true s))) := by
  rw [exec_input (c := .extendedSwitchChange g side true) rfl hr, if_neg (by simp [off]), if_pos rfl]

/-! ### A token that leaves behind a check (R135, R150) -/

/-- A token in the map leaves it alone, with the result and the latch (R135). -/
theorem endToken_leaves (x : TestResult) {s : State} (names : (s.map.map Entry.ref).Nodup) (there : s.find .token ≠ none) :
    (endToken x s).find .token = none ∧ (endToken x s).map.length + 1 = s.map.length
      ∧ SameOtherEntries s (endToken x s) .token ∧ (endToken x s).test = { s.test with result := x }
      ∧ (endToken x s).bank.latches.getLsbD 12 = true := by
  obtain ⟨test, latch, length, gone⟩ := endToken_ends x s (Option.isSome_iff_ne_none.mpr there)
  exact ⟨gone names, length, endToken_others x s, test, latch⟩

/-- The token leaves where a check has been for it. -/
def endWaiting (b : Bool) (x : TestResult) (s : State) : State := if b then endToken x s else s

section
variable (b : Bool) (x : TestResult) (s : State)

theorem endWaiting_frame : SameExcept [.map, .gates, .test] s (endWaiting b x s) := by
  cases b
  · exact sameExcept_refl _ s
  · exact endToken_frame x s

theorem endWaiting_dests : (endWaiting b x s).dests = s.dests := by
  cases b
  · rfl
  · rw [endWaiting, if_pos rfl, endToken_eq]

theorem endWaiting_kept : (endWaiting b x s).kept = s.kept := by
  cases b
  · rfl
  · exact endToken_kept x s

theorem endWaiting_gate (g : GateId) :
    (endWaiting b x s).gate g = { s.gate g with queue := ((endWaiting b x s).gate g).queue } := by
  cases b
  · rfl
  · exact endToken_gate x s g

/-- No item leaves, and no entry joins. -/
theorem endWaiting_map : (endWaiting b x s).map.Sublist s.map
    ∧ ∀ e ∈ s.map, e.isTest = false → e ∈ (endWaiting b x s).map := by
  cases b
  · exact ⟨.refl _, fun _ he _ => he⟩
  · have map := endToken_map x s
    refine ⟨by rw [endWaiting, if_pos rfl, map]; exact eraseEntry_sublist _ _, fun e he item => ?_⟩
    have mem : e ∈ (eraseEntry .token s.map).filter fun e => !e.isTest := by
      rw [eraseEntry_token_items, List.mem_filter]
      exact ⟨he, by simp [item]⟩
    rw [endWaiting, if_pos rfl, map]
    exact List.mem_of_mem_filter mem

end

theorem Told.endWaiting {s u : State} (h : Told s u) (b : Bool) (x : TestResult) : Told s (endWaiting b x u) := by
  cases b
  · exact h
  · exact h.endToken x

/-! ### A check that is seen (R150) -/

/-- A gate that cycles ends the check with no watch (R150, R151). -/
theorem switchGoesExtended_seen {s : State} {g : GateId} {side : Side} {cy : Cycle} {ms : Nat} {b : Bool}
    (cycle : (s.gate g).cycle = some cy) (checks : (s.gate g).checks = [{ side := side, leftMs := ms, forToken := b }]) :
    switchGoesExtended g side s = endWaiting b .pass (s.modGate g fun x => { x with checks := [] }) := by
  have mine : sideChecks side (s.gate g) = [{ side := side, leftMs := ms, forToken := b }] := by
    simp [sideChecks, checks]
  have none : (s.modGate g fun x => { x with checks := x.checks.filter fun c => c.side != side })
      = s.modGate g fun x => { x with checks := [] } := by
    simp [State.modGate, checks]
  have seen : switchGoesExtended g side s
      = beginWatch g (endWaiting b .pass (s.modGate g fun x => { x with checks := [] })) := by
    simp only [switchGoesExtended, checkSeen, mine, none, List.any_cons, List.any_nil, Bool.or_false]
    rfl
  rw [seen, beginWatch_unwatched]
  refine eq_false_of_ne_true fun on => ?_
  obtain ⟨-, -, -, idle, -⟩ := watched_iff.mp on
  rw [endWaiting_gate, modGate_gate_self, cycle] at idle
  cases idle

/-! ### An extension that no fire asked for (R151) -/

/-- The extension is recorded at a watched gate, and on the side not fired during a cycle. -/
theorem switchGoesExtended_stray {s : State} {g : GateId} {side : Side} (belt : s.belt.state ≠ .unconfigured)
    (on : (s.gate g).configured = true) (service : (s.gate g).service = .inService)
    (h : (s.gate g).cycle = none ∧ (s.gate g).checks = []
      ∨ (∃ cy, (s.gate g).cycle = some cy ∧ cy.side ≠ side) ∧ sideChecks side (s.gate g) = []) :
    switchGoesExtended g side s = faultOut g .extendUncommanded (some side) s := by
  rw [← uncommanded_out side service]
  rcases h with ⟨idle, checks⟩ | ⟨⟨cy, cycle, other⟩, checks⟩
  · have watch : watched g s = true := watched_iff.mpr ⟨belt, on, service, idle, checks⟩
    have none : sideChecks side (s.gate g) = [] := by rw [sideChecks, checks, List.filter_nil]
    simp only [switchGoesExtended, none, strayExtension, idle]
    exact if_pos watch
  · simp only [switchGoesExtended, checks, strayExtension, cycle]
    exact if_pos ⟨other, commissioned_iff s |>.mpr belt, on, service⟩

/-! ### A check that fails (R131, R150) -/

/-- The fault of a failed check is recorded, and the check is over. -/
def checkRecorded (g : GateId) (c : ActuatorCheck) (s : State) : State :=
  recordFault g .actuatorNoExtend (some c.side) (s.modGate g fun x => { x with checks := x.checks.erase c })

theorem checkFails_eq (g : GateId) (c : ActuatorCheck) (s : State) :
    checkFails g c s = handFault g (endWaiting c.forToken .actuatorFault (checkRecorded g c s)) := rfl

theorem checkRecorded_gate (g : GateId) (c : ActuatorCheck) (s : State) (x : GateId) : (checkRecorded g c s).gate x
    = if x = g then { s.gate g with
        checks := (s.gate g).checks.erase c
        fault := (s.gate g).fault.next .actuatorNoExtend (some c.side) s.belt.p }
      else s.gate x := by
  rw [checkRecorded, recordFault_gate, modGate_gate, modGate_gate]
  split <;> simp_all

theorem handFault_in {g : GateId} {s : State} (h : (s.gate g).service = .inService) : handFault g s = gateOut g s :=
  if_pos h

theorem handFault_out {g : GateId} {s : State} (h : (s.gate g).service = .outOfService) : handFault g s = s :=
  if_neg (by rw [h]; simp)

theorem Told.handFault {s u : State} (h : Told s u) (g : GateId) : Told s (handFault g u) := by
  unfold Machine.handFault
  split
  · exact h.gateOut g
  · exact h

/-- A gate is out once a fault has been handed over for it, and nothing else of its record has moved but the queue. -/
theorem handFault_self (g : GateId) (s : State) : (handFault g s).gate g
    = { s.gate g with service := .outOfService, queue := ((handFault g s).gate g).queue } := by
  cases h : (s.gate g).service with
  | inService => rw [handFault_in h, gateOut_gate, if_pos rfl]
  | outOfService => rw [handFault_out h, ← h]

theorem handFault_others (g : GateId) (s : State) : SameOtherGates s (handFault g s) g := fun x hx => by
  unfold handFault
  split
  · rw [gateOut_gate, if_neg hx]
  · rfl

theorem handFault_frame (g : GateId) (s : State) :
    SameExcept [.counters, .gates, .dests, .map, .test, .notices] s (handFault g s) := by
  unfold handFault
  split
  · exact gateOut_frame g s
  · exact sameExcept_refl _ s

/-- A map without a token stays without one, and the latch stays set. -/
theorem handFault_noToken {g : GateId} {s : State} (gone : s.find .token = none)
    (latch : s.bank.latches.getLsbD 12 = true) :
    tokenView (handFault g s) = tokenView s ∧ (handFault g s).bank.latches.getLsbD 12 = true := by
  unfold handFault
  split
  · have ends := tokenEnds_gateOut g s
    exact ⟨(ends.other fun e he => by rw [gone] at he; cases he).1, ends.latch latch⟩
  · exact ⟨rfl, latch⟩

theorem exec_checkDeadline {s : State} {g : GateId} {c : ActuatorCheck} (hr : s.inReset = false)
    (checks : (s.gate g).checks = [c]) (left : c.leftMs = 0) : exec (.actuatorCheckDeadline g) s
      = .next (settle (handFault g (endWaiting c.forToken .actuatorFault (checkRecorded g c s)))) := by
  have due : dueCheck (s.gate g) = some c := by simp [dueCheck, checks, left]
  rw [exec_event (c := .actuatorCheckDeadline g) rfl hr, due, ← checkFails_eq]

end Sys2Proof.Machine
end

section
/-! SUPPORT. The events of the extended switches and of the actuator checks (R66, R67, R107, R110, R114, R129, R131, R135, R150 to R153). -/

namespace Sys2Proof.Machine

section
variable {s : State} {g : GateId} {side : Side}

/-- A switch that goes back moves its level and nothing else. -/
theorem switchBack_moves (hr : s.inReset = false) (on : s.switchExtended g side = true) :
    ∃ t, exec (.extendedSwitchChange g side false) s = .next t ∧ SameExcept [.pins] s t
      ∧ t.pins = (setSwitch g side false s).pins ∧ t.switchExtended g side = false
      ∧ ∀ (x : GateId) (y : Side), x ≠ g ∨ y ≠ side → t.switchExtended x y = s.switchExtended x y := by
  refine ⟨_, exec_switchBack hr on, (setSwitch_frame g side false s).settled, settle_pins _, ?_, fun x y h => ?_⟩
  · rw [settle_switchExtended, setSwitch_self]
  · rw [settle_switchExtended, setSwitch_other false s h]

/-- The switch of the side fired ends the check as seen, and the token that waits on it leaves with PASS. -/
theorem switchGoes_seen {cy : Cycle} {ms : Nat} {b : Bool} (hr : s.inReset = false)
    (off : s.switchExtended g side = false) (cycle : (s.gate g).cycle = some cy)
    (checks : (s.gate g).checks = [{ side := side, leftMs := ms, forToken := b }]) :
    ∃ t, exec (.extendedSwitchChange g side true) s = .next t
      ∧ t.switchExtended g side = true ∧ (t.gate g).checks = [] ∧ t.pins = (setSwitch g side true s).pins
      ∧ (b = false → SameExcept [.pins, .gates] s t
          ∧ t.gate g = { s.gate g with checks := [] } ∧ SameOtherGates s t g)
      ∧ (b = true → SameExcept [.pins, .gates, .map, .test] s t)
      ∧ (b = true → MapLaw s → s.find .token ≠ none → t.find .token = none
          ∧ t.map.length + 1 = s.map.length ∧ SameOtherEntries s t .token
          ∧ t.test = { s.test with result := .pass } ∧ t.bank.latches.getLsbD 12 = true) := by
  obtain ⟨u, hu⟩ : ∃ u, u = (setSwitch g side true s).modGate g fun x => { x with checks := [] } := ⟨_, rfl⟩
  have he := exec_switchGoes hr off
  rw [switchGoesExtended_seen (s := setSwitch g side true s) cycle checks, ← hu] at he
  have pins : (settle (endWaiting b .pass u)).pins = (setSwitch g side true s).pins := by
    rw [settle_pins, pins_of_kept (endWaiting_kept b .pass u), hu, modGate_pins]
  have self : u.gate g = { s.gate g with checks := [] } := by rw [hu, modGate_gate_self]; rfl
  have frame : SameExcept [.pins, .gates] s u := hu ▸
    ((setSwitch_frame g side true s).mono (by simp)).trans ((sameExcept_modGate g _ _).mono (by simp))
  have ended : SameExcept [.map, .gates, .test] u (endWaiting b .pass u) := endWaiting_frame b .pass u
  refine ⟨_, he, ?_, ?_, pins, fun hb => ?_, fun _ => ?_, fun hb law there => ?_⟩
  · rw [← setSwitch_self g side true s]
    simp only [State.switchExtended, pins]
  · rw [settle_gate, endWaiting_gate, self]
  · subst hb
    refine ⟨frame.settled, (settle_gate u g).trans self, fun x hx => ?_⟩
    exact (settle_gate u x).trans (by rw [hu, modGate_gate_ne _ _ _ _ hx]; rfl)
  · exact ((frame.mono (by simp)).trans (ended.mono (by simp))).settled
  · subst hb
    have map : u.map = s.map := hu ▸ rfl
    obtain ⟨gone, length, others, test, latch⟩ := endToken_leaves (s := u) .pass (map ▸ law.2)
      (by rwa [hu, modGate_find])
    refine ⟨?_, ?_, fun y hy => ?_, ?_, settle_latch latch⟩
    · rw [settle_find]; exact gone
    · rw [settle_map, ← map]; exact length
    · rw [settle_find]; exact (others y hy).trans (by rw [hu, modGate_find]; rfl)
    · rw [settle_test]; exact test.trans (by rw [hu]; rfl)

/-- An extension that no fire asked for takes its gate out. -/
theorem switchGoes_stray (hr : s.inReset = false) (off : s.switchExtended g side = false)
    (belt : s.belt.state ≠ .unconfigured) (on : (s.gate g).configured = true)
    (service : (s.gate g).service = .inService)
    (h : (s.gate g).cycle = none ∧ (s.gate g).checks = []
      ∨ (∃ cy, (s.gate g).cycle = some cy ∧ cy.side ≠ side) ∧ sideChecks side (s.gate g) = []) :
    ∃ t, exec (.extendedSwitchChange g side true) s = .next t
      ∧ SameExcept [.pins, .gates, .dests, .map, .test, .counters, .notices] s t
      ∧ t.switchExtended g side = true ∧ t.pins = (setSwitch g side true s).pins
      ∧ t.gate g = { s.gate g with
          service := .outOfService, queue := []
          fault := { cause := .extendUncommanded, side := some side
                     count := min ((s.gate g).fault.count + 1) 255, p := some s.belt.p } }
      ∧ SameOtherGates s t g ∧ (∀ y : Side, (t.dest (gateDest g y)).holds.gateOut = true)
      ∧ t.bank.levels.getLsbD 7 = true ∧ TokenAborted (fun x => x = g) s t ∧ DestNotices none s t
      ∧ (RouteLaw s → (∀ x : Side, (s.dest (gateDest g x)).holds.gateOut = false) →
          MovedOff [gateDest g .left, gateDest g .right] s t) := by
  obtain ⟨u, hu⟩ : ∃ u, u = setSwitch g side true s := ⟨_, rfl⟩
  have he := exec_switchGoes hr off
  rw [← hu, switchGoesExtended_stray (s := u) (hu ▸ belt) (hu ▸ on) (hu ▸ service) (hu ▸ h)] at he
  have frame := faultOut_frame g .extendUncommanded (some side) u
  have self := faultOut_self g .extendUncommanded (some side) u
  have pins : (settle (faultOut g .extendUncommanded (some side) u)).pins = u.pins :=
    frame.settled .pins (by simp)
  have out := ((faultOut_takesOut g .extendUncommanded (some side) u).since (s := s) (hu ▸ rfl) (hu ▸ rfl) (hu ▸ rfl)
    (latchStands_of_marks (hu ▸ rfl)) fun x => by rw [hu]; rfl).settled
  have told : Told s u := hu ▸ (told_refl s).elsewhere rfl rfl rfl
  have moved : SameExcept [.pins] s u := hu ▸ setSwitch_frame g side true s
  refine ⟨_, he, ((moved.mono (by simp)).trans (frame.mono (by simp))).settled, ?_, hu ▸ pins, ?_, fun x hx => ?_,
    out.held, settle_level_out (g := g) (by rw [self]), out.token.aborted,
    (told.faultOut g _ _).destNotices_event, out.movedOff⟩
  · rw [← setSwitch_self g side true s, ← hu]
    simp only [State.switchExtended, pins]
  · rw [settle_gate, self, hu]
    rfl
  · rw [settle_gate, faultOut_others g _ _ u x hx, hu]
    rfl

/-! ### A check at its deadline (R131, R150) -/

/-- A check that fails, with the token that waits on it. -/
def checkEnded (g : GateId) (c : ActuatorCheck) (s : State) : State :=
  endWaiting c.forToken .actuatorFault (checkRecorded g c s)

theorem checkRecorded_frame (g : GateId) (c : ActuatorCheck) (s : State) : SameExcept [.gates] s (checkRecorded g c s) := by
  have recorded : ∀ u, SameExcept [.gates] u (recordFault g .actuatorNoExtend (some c.side) u) := fun u =>
    sameExcept_modGate g _ u
  exact (sameExcept_modGate g _ s).trans (recorded _)

theorem checkEnded_self {c : ActuatorCheck} (checks : (s.gate g).checks = [c]) : (checkEnded g c s).gate g
    = { s.gate g with
        checks := [], queue := ((checkEnded g c s).gate g).queue
        fault := (s.gate g).fault.next .actuatorNoExtend (some c.side) s.belt.p } := by
  have waited := endWaiting_gate c.forToken .actuatorFault (checkRecorded g c s) g
  rw [checkRecorded_gate, if_pos rfl, checks, List.erase_cons_head] at waited
  exact waited

theorem checkEnded_service {c : ActuatorCheck} (checks : (s.gate g).checks = [c]) :
    ((checkEnded g c s).gate g).service = (s.gate g).service := by rw [checkEnded_self checks]

/-- A check that no token waits on ends at its gate alone. -/
theorem checkEnded_alone {c : ActuatorCheck} (h : c.forToken = false) (s : State) :
    checkEnded g c s = checkRecorded g c s := by
  rw [checkEnded, h]; rfl

theorem checkEnded_frame (g : GateId) (c : ActuatorCheck) (s : State) :
    SameExcept [.gates, .map, .test] s (checkEnded g c s) :=
  ((checkRecorded_frame g c s).mono (by simp)).trans ((endWaiting_frame _ _ _).mono (by simp))

theorem checkEnded_told (g : GateId) (c : ActuatorCheck) (s : State) : Told s (checkEnded g c s) :=
  (((told_refl s).modGate g _).modGate g _).endWaiting _ _

/-- The gate of a check that fails goes out with the entries bound for it. -/
theorem checkEnded_movedOff (c : ActuatorCheck) (law : RouteLaw s)
    (free : ∀ y : Side, (s.dest (gateDest g y)).holds.gateOut = false) :
    MovedOff [gateDest g .left, gateDest g .right] s (gateOut g (checkEnded g c s)) := by
  obtain ⟨⟨-, names⟩, shape, -⟩ := law
  obtain ⟨fewer, items⟩ := endWaiting_map c.forToken .actuatorFault (checkRecorded g c s)
  have dests : (checkEnded g c s).dests = s.dests := endWaiting_dests ..
  have still : ∀ y : Side, ((checkEnded g c s).dest (gateDest g y)).holds.gateOut = false := fun y => by
    rw [← free y]; simp only [State.dest, dests]
  exact (gateOut_movedOff (names.sublist (fewer.map _)) (fun e he => shape e (fewer.subset he)) still).of_items items dests

/-- Alone, the check does to the token what its gate going out does. -/
theorem checkRecorded_takesOut (g : GateId) (c : ActuatorCheck) (s : State) :
    TakesOut g s (gateOut g (checkRecorded g c s)) :=
  (takesOut_gateOut g (checkRecorded g c s)).since rfl rfl rfl (latchStands_of_marks rfl) fun x => by
    rw [checkRecorded_gate]
    split
    · next h => rw [h]
    · rfl

/-- The token that waits on the check leaves with ACTUATOR_FAULT, and none follows it. -/
theorem checkEnded_token {c : ActuatorCheck} (waits : c.forToken = true) (names : (s.map.map Entry.ref).Nodup)
    (there : s.find .token ≠ none) :
    let t := handFault g (checkEnded g c s)
    t.find .token = none ∧ t.map.length + 1 = s.map.length ∧ t.test = { s.test with result := .actuatorFault }
      ∧ t.bank.latches.getLsbD 12 = true := by
  have ended : checkEnded g c s = endToken .actuatorFault (checkRecorded g c s) := by rw [checkEnded, waits]; rfl
  obtain ⟨gone, length, -, test, latch⟩ := endToken_leaves (s := checkRecorded g c s) .actuatorFault names there
  rw [← ended] at gone length test latch
  obtain ⟨view, latch⟩ := handFault_noToken (g := g) gone latch
  simp only [tokenView, Prod.mk.injEq] at view
  obtain ⟨found, same, record, -⟩ := view
  exact ⟨found.trans gone, by rw [same]; exact length, record.trans test, latch⟩

/-- A check at its deadline, of the side it was begun for. -/
theorem checkDeadline_fails {b : Bool} (hr : s.inReset = false)
    (checks : (s.gate g).checks = [{ side := side, leftMs := 0, forToken := b }]) :
    ∃ t, exec (.actuatorCheckDeadline g) s = .next t
      ∧ SameExcept [.gates, .dests, .map, .test, .counters, .notices] s t
      ∧ (t.gate g).checks = [] ∧ (t.gate g).cycle = (s.gate g).cycle ∧ (t.gate g).service = .outOfService
      ∧ (t.gate g).fault = { cause := .actuatorNoExtend, side := some side
                             count := min ((s.gate g).fault.count + 1) 255, p := some s.belt.p }
      ∧ (b = false → SameOtherGates s t g) ∧ t.bank.levels.getLsbD 7 = true
      ∧ ((s.gate g).service = .inService → (t.gate g).queue = []
          ∧ (t.dest (gateDest g .left)).holds.gateOut = true ∧ (t.dest (gateDest g .right)).holds.gateOut = true)
      ∧ ((s.gate g).service = .inService → RouteLaw s →
          (∀ x : Side, (s.dest (gateDest g x)).holds.gateOut = false) →
          MovedOff [gateDest g .left, gateDest g .right] s t)
      ∧ (b = false → (s.gate g).service = .inService → TokenAborted (fun x => x = g) s t)
      ∧ (b = false → (s.gate g).service = .outOfService → SameExcept [.gates] s t)
      ∧ (b = true → (s.gate g).service = .outOfService → SameExcept [.gates, .map, .test] s t)
      ∧ DestNotices none s t
      ∧ (b = true → MapLaw s → s.find .token ≠ none → t.find .token = none ∧ t.map.length + 1 = s.map.length
          ∧ t.test = { s.test with result := .actuatorFault } ∧ t.bank.latches.getLsbD 12 = true) := by
  obtain ⟨c, hc⟩ : ∃ c : ActuatorCheck, c = { side := side, leftMs := 0, forToken := b } := ⟨_, rfl⟩
  have waits : c.forToken = b := by rw [hc]
  rw [← hc] at checks
  have he : exec (.actuatorCheckDeadline g) s = .next (settle (handFault g (checkEnded g c s))) :=
    exec_checkDeadline hr checks (by rw [hc])
  have service := checkEnded_service checks
  have out := fun k : (s.gate g).service = .inService => handFault_in (service.trans k)
  have stays := fun k : (s.gate g).service = .outOfService => handFault_out (service.trans k)
  have self := handFault_self g (checkEnded g c s)
  rw [checkEnded_self checks] at self
  have gate : ∀ x, (settle (handFault g (checkEnded g c s))).gate x = (handFault g (checkEnded g c s)).gate x :=
    settle_gate _
  refine ⟨_, he, ?_, by rw [gate, self], by rw [gate, self], by rw [gate, self], by rw [gate, self, hc]; rfl,
    fun hb x hx => ?_, settle_level_out (g := g) (by rw [self]), fun k => ⟨?_, ?_, ?_⟩, fun k law free => ?_,
    fun hb k => ?_, fun hb k => ?_, fun _ k => ?_, ((checkEnded_told g c s).handFault g).destNotices_event,
    fun hb law there => ?_⟩
  · exact (((checkEnded_frame g c s).mono (by simp)).trans ((handFault_frame g _).mono (by simp))).settled
  · rw [gate, handFault_others g _ x hx, checkEnded_alone (waits.trans hb), checkRecorded_gate, if_neg hx]
  · rw [gate, out k, gateOut_gate, if_pos rfl]
  · rw [settle_dest, out k, gateOut_gateOut]
  · rw [settle_dest, out k, gateOut_gateOut]
  · rw [out k]
    exact (checkEnded_movedOff c law free).map_eq (settle_map _)
  · rw [out k, checkEnded_alone (waits.trans hb)]
    exact (checkRecorded_takesOut g c s).settled.token.aborted
  · rw [stays k, checkEnded_alone (waits.trans hb)]
    exact (checkRecorded_frame g c s).settled
  · rw [stays k]
    exact (checkEnded_frame g c s).settled
  · obtain ⟨gone, length, test, latch⟩ := checkEnded_token (g := g) (waits.trans hb) law.2 there
    exact ⟨(settle_find _ _).trans gone, by rw [settle_map]; exact length, (settle_test _).trans test,
      settle_latch latch⟩

end

/-- Settles O25: a switch that goes back, one that goes on by its check and by its watch, and a check at its deadline. -/
theorem actuatorChecksAndFaults : Obligations.ActuatorChecksAndFaults := by
  intro s g side hr
  have pins : ∀ b, (setSwitch g side b s).pins = (match side with
      | .left => { s.pins with extLeft := s.pins.extLeft.set g b }
      | .right => { s.pins with extRight := s.pins.extRight.set g b }) := fun _ => rfl
  refine ⟨fun on => ?_, fun off => ⟨fun cy ms b cycle checks => ?_, fun belt on service h => ?_⟩, fun b checks => ?_⟩
  · have back := switchBack_moves hr on
    rwa [pins] at back
  · have seen := switchGoes_seen hr off cycle checks
    rwa [pins] at seen
  · obtain ⟨t, he, frame, level, moved, self, others, held, rest⟩ := switchGoes_stray hr off belt on service h
    exact ⟨t, he, frame, level, moved.trans (pins true), self, others, held .left, held .right, rest⟩
  · exact checkDeadline_fails hr checks

end Sys2Proof.Machine
end

section
/-! SUPPORT. TAKE-GATE-OUT and RETURN-GATE (R66, R67, R92, R107, R110, R114, R129, R130, R132, R135). -/

namespace Sys2Proof.Machine

/-- What a request's gate that goes out brings, as the request is seen from its start. -/
theorem TakesOut.answered {g : GateId} {q : Sender} {s u : State} (h : TakesOut g (greeted q s) u) (tag kind : Byte)
    (status : Status) (result : List Byte) :
    TakesOut g s (settle (queueReply q tag kind ⟨u, status, result⟩)) := by
  have seen : TakesOut g s u := h.since (greeted_map q s) (greeted_dests q s) (greeted_test q s)
    (greeted_latchStands q s) fun x => by rw [greeted_gate]
  refine (seen.behind (t := queueReply q tag kind ⟨u, status, result⟩) (queueReply_map ..) (queueReply_dests ..)
    (queueReply_test ..) (latchStands_of_marks ?_)).settled
  simp only [State.marks, queueReply_bank]

section
variable {s : State} {tag x : Byte}

/-! ### TAKE-GATE-OUT (R130) -/

theorem exec_takeGateOut (hs : ServedCommissioned s .site) : exec (.takeGateOut (.sender .site) tag [x]) s
    = .next (settle (queueReply .site tag (Kind.code .takeGateOut) (handleTakeGateOut .site [x] (greeted .site s)))) :=
  exec_served (k := .takeGateOut) hs.1 (admissible_commissioned .takeGateOut .site [x] s hs rfl rfl) (by decide)

/-- A gate that TAKE-GATE-OUT has taken out: its record, its holds, the token, the entries, the notices and the reply. -/
def TakenOut (tag : Byte) (g : GateId) (s t : State) : Prop :=
  TookCounting .site [.gates, .dests, .map, .test, .notices] s t
    ∧ t.gate g = { s.gate g with
        service := .outOfService, queue := []
        fault := { cause := .takenOut, side := none
                   count := min ((s.gate g).fault.count + 1) 255, p := some s.belt.p } }
    ∧ SameOtherGates s t g
    ∧ (t.dest (gateDest g .left)).holds.gateOut = true ∧ (t.dest (gateDest g .right)).holds.gateOut = true
    ∧ t.bank.levels.getLsbD 7 = true ∧ TokenAborted (fun x => x = g) s t ∧ DestNotices (some .site) s t
    ∧ (RouteLaw s → (∀ x : Side, (s.dest (gateDest g x)).holds.gateOut = false) →
        MovedOff [gateDest g .left, gateDest g .right] s t)
    ∧ Replied s t .site tag .takeGateOut .done []

theorem takenOut_settled (tag : Byte) (g : GateId) (s : State) : TakenOut tag g s
    (settle (queueReply .site tag (Kind.code .takeGateOut) ⟨faultOut g .takenOut none (greeted .site s), .done, []⟩)) := by
  have told := (told_refl (greeted .site s)).faultOut g .takenOut none
  have out := (faultOut_takesOut g .takenOut none (greeted .site s)).answered tag (Kind.code .takeGateOut) .done []
  have self := faultOut_self g .takenOut none (greeted .site s)
  obtain ⟨order, marked⟩ := id told
  obtain ⟨took, -, -, replied⟩ := counting_settled tag .takeGateOut
    (a := ⟨faultOut g .takenOut none (greeted .site s), .done, []⟩) (faultOut_frame g .takenOut none _) marked.links
    (gateOut_frames g _ _ _)
  refine ⟨took, ?_, fun y hy => ?_, out.held .left, out.held .right,
    settle_level_out (g := g) (by rw [queueReply_gate, self]), out.token.aborted, told.destNotices tag _ _ _,
    out.movedOff, replied⟩
  · rw [settle_gate, queueReply_gate, self, greeted_gate, greeted_belt]
    rfl
  · rw [settle_gate, queueReply_gate, faultOut_others g _ _ _ y hy, greeted_gate]

/-- TAKE-GATE-OUT, its checks in order. -/
theorem takeGateOut_serves (hs : ServedCommissioned s .site) :
    ∃ t, exec (.takeGateOut (.sender .site) tag [x]) s = .next t
      ∧ (inRange? 12 x.toNat = none → Took .site [] s t ∧ Replied s t .site tag .takeGateOut .argument [])
      ∧ ∀ g, inRange? 12 x.toNat = some g →
        if (s.gate g).configured = false then
          Took .site [] s t ∧ Replied s t .site tag .takeGateOut .badConfig []
        else if (s.gate g).service = .outOfService then
          Took .site [] s t ∧ Replied s t .site tag .takeGateOut .done []
        else TakenOut tag g s t := by
  have unchanged := fun status => unchanged_settled .site tag .takeGateOut s status []
  refine ⟨_, exec_takeGateOut hs, fun none => ?_, fun g found => ?_⟩
  · have answer : handleTakeGateOut .site [x] (greeted .site s) = ⟨greeted .site s, .argument, []⟩ := by
      rw [handleTakeGateOut, show byteAt [x] 0 = x.toNat from rfl, none]; rfl
    obtain ⟨took, -, -, replied⟩ := unchanged .argument
    rw [answer]
    exact ⟨took, replied⟩
  · have answer : handleTakeGateOut .site [x] (greeted .site s)
        = if !(s.gate g).configured then ⟨greeted .site s, .badConfig, []⟩
          else if (s.gate g).service = .inService then ⟨faultOut g .takenOut none (greeted .site s), .done, []⟩
          else ⟨greeted .site s, .done, []⟩ := by
      rw [handleTakeGateOut, show byteAt [x] 0 = x.toNat from rfl, found, ← greeted_gate .site s g]; rfl
    rw [answer]
    cases (s.gate g).configured with
    | false =>
      obtain ⟨took, -, -, replied⟩ := unchanged .badConfig
      exact ⟨took, replied⟩
    | true =>
      cases (s.gate g).service with
      | inService =>
        simp only [Bool.not_true, Bool.false_eq_true, reduceCtorEq, if_true, if_false]
        exact takenOut_settled tag g s
      | outOfService =>
        simp only [Bool.not_true, Bool.false_eq_true, reduceCtorEq, if_true, if_false]
        obtain ⟨took, -, -, replied⟩ := unchanged .done
        exact ⟨took, replied⟩

/-! ### RETURN-GATE (R132) -/

theorem exec_returnGate (hs : ServedCommissioned s .site) : exec (.returnGate (.sender .site) tag [x]) s
    = .next (settle (queueReply .site tag (Kind.code .returnGate) (handleReturnGate .site [x] (greeted .site s)))) :=
  exec_served (k := .returnGate) hs.1 (admissible_commissioned .returnGate .site [x] s hs rfl rfl) (by decide)

theorem gateDest_left_ne_right (g : GateId) : gateDest g .left ≠ gateDest g .right := fun h => by
  simp [gateDest] at h

theorem gateBack_frame (g : GateId) (s : State) : SameExcept [.gates, .dests, .notices] s (gateBack g s) := by
  have cleared : ∀ d u, SameExcept [.gates, .dests, .notices] u (changeDest d loseGateOut u) := fun d u =>
    (changeDest_frame d loseGateOut u).1.mono (by simp)
  exact (((sameExcept_modGate g _ s).mono (by simp)).trans (cleared _ _)).trans (cleared _ _)

/-- GATE_OUT is cleared from the two destinations of the gate, and from no other. -/
theorem gateBack_record (g : GateId) (s : State) (d : DestId) :
    (gateBack g s).dest d = if destGate d = g then loseGateOut (s.dest d) else s.dest d := by
  have mine := mem_gateDests (g := g) (d := d)
  simp only [List.mem_cons, List.not_mem_nil, or_false] at mine
  rw [gateBack, changeDest_dest]
  by_cases right : d = gateDest g .right
  · rw [if_pos right, if_pos (mine.mp (.inr right)), changeDest_dest, if_neg (gateDest_left_ne_right g).symm,
      modGate_dest, right]
  · rw [if_neg right, changeDest_dest, modGate_dest]
    by_cases left : d = gateDest g .left
    · rw [if_pos left, if_pos (mine.mp (.inl left)), left]
    · rw [if_neg left, if_neg fun h => (mine.mpr h).elim left right, modGate_dest]

/-- Both destinations are told of to their owners. -/
theorem gateBack_offered (g : GateId) (s : State) :
    Offered s (gateBack g s) [gateDest g .left, gateDest g .right] := by
  have back : Offered s (s.modGate g fun x => { x with service := .inService }) [] :=
    offered_nil rfl rfl fun _ => sameVisible_refl _
  exact (back.tell (by simp) (tells_changeDest (gateDest g .left) loseGateOut _ rfl)).tell
    (by simpa using (gateDest_left_ne_right g).symm) (tells_changeDest (gateDest g .right) loseGateOut _ rfl)

/-- A gate that RETURN-GATE has brought back: its service, its holds, the notices and the reply. -/
def BroughtBack (tag : Byte) (g : GateId) (s t : State) : Prop :=
  Took .site [.gates, .dests, .notices] s t ∧ DestNotices (some .site) s t
    ∧ t.gate g = { s.gate g with service := .inService } ∧ SameOtherGates s t g
    ∧ (∀ d : DestId, t.dest d = if destGate d = g then
        { s.dest d with holds := { (s.dest d).holds with gateOut := false } } else s.dest d)
    ∧ Replied s t .site tag .returnGate .done []

theorem broughtBack_settled (tag : Byte) (g : GateId) (s : State) : BroughtBack tag g s
    (settle (queueReply .site tag (Kind.code .returnGate) ⟨gateBack g (greeted .site s), .done, []⟩)) := by
  have offered := gateBack_offered g (greeted .site s)
  obtain ⟨took, -, -, replied⟩ := answer_settled tag .returnGate (a := ⟨gateBack g (greeted .site s), .done, []⟩)
    (gateBack_frame g _) offered.links
  refine ⟨took, offered.destNotices tag _ _ _, ?_, fun y hy => ?_, fun d => ?_, replied⟩
  · rw [settle_gate, queueReply_gate, gateBack_gate, if_pos rfl, greeted_gate]
  · rw [settle_gate, queueReply_gate, gateBack_gate, if_neg hy, greeted_gate]
  · rw [settle_dest, queueReply_dest, gateBack_record, greeted_dest]
    rfl

/-- RETURN-GATE, its checks in order. -/
theorem returnGate_serves (hs : ServedCommissioned s .site) :
    ∃ t, exec (.returnGate (.sender .site) tag [x]) s = .next t
      ∧ (inRange? 12 x.toNat = none → Took .site [] s t ∧ Replied s t .site tag .returnGate .argument [])
      ∧ ∀ g, inRange? 12 x.toNat = some g →
        if (s.gate g).configured = false then
          Took .site [] s t ∧ Replied s t .site tag .returnGate .badConfig []
        else if (s.gate g).service = .inService then
          Took .site [] s t ∧ Replied s t .site tag .returnGate .done []
        else if (s.gate g).cycle ≠ none ∨ s.switchExtended g .left = true ∨ s.switchExtended g .right = true then
          Took .site [] s t ∧ Replied s t .site tag .returnGate .state []
        else BroughtBack tag g s t := by
  have unchanged := fun status => unchanged_settled .site tag .returnGate s status []
  refine ⟨_, exec_returnGate hs, fun none => ?_, fun g found => ?_⟩
  · have answer : handleReturnGate .site [x] (greeted .site s) = ⟨greeted .site s, .argument, []⟩ := by
      rw [handleReturnGate, show byteAt [x] 0 = x.toNat from rfl, none]; rfl
    obtain ⟨took, -, -, replied⟩ := unchanged .argument
    rw [answer]
    exact ⟨took, replied⟩
  · have answer : handleReturnGate .site [x] (greeted .site s)
        = if !(s.gate g).configured then ⟨greeted .site s, .badConfig, []⟩
          else if (s.gate g).service = .inService then ⟨greeted .site s, .done, []⟩
          else if (s.gate g).cycle.isSome || s.switchExtended g .left || s.switchExtended g .right then
            ⟨greeted .site s, .state, []⟩
          else ⟨gateBack g (greeted .site s), .done, []⟩ := by
      rw [handleReturnGate, show byteAt [x] 0 = x.toNat from rfl, found, ← greeted_gate .site s g,
        ← greeted_switchExtended .site s g, ← greeted_switchExtended .site s g]
      rfl
    rw [answer]
    cases (s.gate g).configured with
    | false =>
      obtain ⟨took, -, -, replied⟩ := unchanged .badConfig
      exact ⟨took, replied⟩
    | true =>
      cases (s.gate g).service with
      | inService =>
        simp only [Bool.not_true, Bool.false_eq_true, reduceCtorEq, if_true, if_false]
        obtain ⟨took, -, -, replied⟩ := unchanged .done
        exact ⟨took, replied⟩
      | outOfService =>
        have busy : ((s.gate g).cycle.isSome || s.switchExtended g .left || s.switchExtended g .right) = true
            ↔ (s.gate g).cycle ≠ Option.none ∨ s.switchExtended g .left = true ∨ s.switchExtended g .right = true := by
          simp only [Bool.or_eq_true, Option.isSome_iff_ne_none, or_assoc]
        simp only [Bool.not_true, Bool.false_eq_true, reduceCtorEq, if_false, busy]
        split
        · obtain ⟨took, -, -, replied⟩ := unchanged .state
          exact ⟨took, replied⟩
        · exact broughtBack_settled tag g s

end

/-- Settles O28: the two requests, each by its checks in order. -/
theorem gateServiceRequests : Obligations.GateServiceRequests := by
  intro s tag x hs
  obtain ⟨t, taken, outside, served⟩ := takeGateOut_serves (tag := tag) (x := x) hs
  obtain ⟨u, returned, outside', served'⟩ := returnGate_serves (tag := tag) (x := x) hs
  refine ⟨⟨t, taken, ?_⟩, u, returned, ?_⟩
  · cases found : inRange? 12 x.toNat with
    | none => exact outside found
    | some g => exact served g found
  · cases found : inRange? 12 x.toNat with
    | none => exact outside' found
    | some g => exact served' g found

end Sys2Proof.Machine
end

section
/-! SUPPORT. COMMISSION, and the watch of every gate that it begins (R66, R67, R110, R114, R129, R135, R151, R153, R183, R184). -/

namespace Sys2Proof.Machine

/-! ### The watch of one gate (R151) -/

/-- An extension that a watch finds is recorded, of a side that reads extended, and takes the gate out. -/
theorem beginWatch_finds {g : GateId} {s : State} (found : findsExtended g s) :
    ∃ side n, s.switchExtended g side = true
      ∧ beginWatch g s = faultOut g .extendUncommanded (some side) (s.drew n) := by
  obtain ⟨on, extended⟩ := found
  obtain ⟨-, -, service, -⟩ := watched_iff.mp on
  cases left : s.switchExtended g .left <;> cases right : s.switchExtended g .right
  · simp [left, right] at extended
  · exact ⟨.right, 0, right, (beginWatch_one (side := .right) on left right).trans (uncommanded_out .right service)⟩
  · exact ⟨.left, 0, left, (beginWatch_one (side := .left) on left right).trans (uncommanded_out .left service)⟩
  · obtain ⟨clear, -⟩ | ⟨-, side, n, out⟩ := beginWatch_cases g s
    · exact absurd ⟨on, .inl left⟩ clear
    · refine ⟨side, n, ?_, out.trans (uncommanded_out side service)⟩
      cases side
      · exact left
      · exact right

/-- What a watch reads of a gate. -/
theorem findsExtended_congr {g : GateId} {s t : State} (gate : t.gate g = s.gate g) (belt : t.belt = s.belt)
    (pins : t.pins = s.pins) : findsExtended g t ↔ findsExtended g s := by
  have level : ∀ y, t.switchExtended g y = s.switchExtended g y := fun y => by
    cases y <;> simp only [State.switchExtended, pins]
  simp only [findsExtended, watched_iff, gate, belt, level]

/-! ### The watches of several gates -/

/-- The watches of the gates of a list have begun, from s to t: those that read extended are out, and nothing else has moved. -/
structure Watches (l : List GateId) (s t : State) : Prop where
  frame : SameExcept [.counters, .gates, .dests, .map, .test, .notices] s t
  frames : ∀ p c, t.counter (.ofPort p c) = s.counter (.ofPort p c)
  belt : t.belt = s.belt
  told : ∀ r, Told r s → Told r t
  others : ∀ x, ¬(x ∈ l ∧ findsExtended x s) → t.gate x = s.gate x
  found : ∀ x ∈ l, findsExtended x s → ∃ side, s.switchExtended x side = true
    ∧ t.gate x = { s.gate x with
        service := .outOfService, queue := []
        fault := (s.gate x).fault.next .extendUncommanded (some side) s.belt.p }
    ∧ ∀ y : Side, (t.dest (gateDest x y)).holds.gateOut = true
  token : TokenEnds (fun x => x ∈ l ∧ findsExtended x s) s t

namespace Watches
variable {l : List GateId} {g : GateId} {s t u : State}

theorem refl_of_none (h : ∀ x ∈ l, ¬findsExtended x s) : Watches l s s where
  frame := sameExcept_refl _ s
  frames _ _ := rfl
  belt := rfl
  told _ k := k
  others _ _ := rfl
  found x hx found := absurd found (h x hx)
  token := (TokenEnds.none rfl (latchStands_of_marks rfl)).congr fun x =>
    ⟨False.elim, fun ⟨hx, found⟩ => h x hx found⟩

theorem single (g : GateId) (s : State) : Watches [g] s (beginWatch g s) := by
  by_cases found : findsExtended g s
  · obtain ⟨side, n, extended, out⟩ := beginWatch_finds found
    have takes := (faultOut_takesOut g .extendUncommanded (some side) (s.drew n)).since (s := s) rfl rfl rfl
      (latchStands_of_marks rfl) fun _ => rfl
    refine ⟨?_, fun p c => ?_, beginWatch_belt g s, fun r k => k.beginWatch g, fun x hx => ?_, fun x hx _ => ?_, ?_⟩
    · rw [out]
      exact (sameExcept_drew _ n s).trans (faultOut_frame g _ _ _)
    · rw [out]
      exact gateOut_frames g _ p c
    · rw [out]
      refine faultOut_others g _ _ (s.drew n) x fun e => hx ?_
      rw [e]
      exact ⟨List.mem_singleton_self g, found⟩
    · rw [List.mem_singleton.mp hx, out]
      exact ⟨side, extended, faultOut_self g _ _ _, takes.held⟩
    · rw [out]
      refine takes.token.congr fun x => ⟨fun e => ?_, fun ⟨hx, _⟩ => List.mem_singleton.mp hx⟩
      rw [e]
      exact ⟨List.mem_singleton_self g, found⟩
  · obtain ⟨-, same⟩ | ⟨extended, -⟩ := beginWatch_cases g s
    · rw [same]
      exact refl_of_none fun x hx => List.mem_singleton.mp hx ▸ found
    · exact absurd extended found

/-- The watch of one gate, and then those of gates behind it. -/
theorem cons (h : Watches [g] s u) (k : Watches l u t) (fresh : g ∉ l) : Watches (g :: l) s t := by
  have pins : u.pins = s.pins := h.frame .pins (by simp)
  have apart : ∀ x ∈ l, x ≠ g := fun x hx e => fresh (e ▸ hx)
  have still : ∀ x ∈ l, u.gate x = s.gate x := fun x hx =>
    h.others x fun ⟨first, _⟩ => apart x hx (List.mem_singleton.mp first)
  have later : ∀ x ∈ l, (findsExtended x u ↔ findsExtended x s) := fun x hx =>
    findsExtended_congr (still x hx) h.belt pins
  refine ⟨h.frame.trans k.frame, fun p c => (k.frames p c).trans (h.frames p c), k.belt.trans h.belt,
    fun r told => k.told r (h.told r told), fun x hx => ?_, fun x hx found => ?_, ?_⟩
  · rw [k.others x fun ⟨mem, found⟩ => hx ⟨List.mem_cons_of_mem g mem, (later x mem).mp found⟩,
      h.others x fun ⟨mem, found⟩ => hx ⟨List.mem_singleton.mp mem ▸ List.mem_cons_self, found⟩]
  · rcases List.mem_cons.mp hx with rfl | mem
    · obtain ⟨side, extended, gate, held⟩ := h.found x (List.mem_singleton_self x) found
      refine ⟨side, extended, ?_, fun y => ?_⟩
      · rw [k.others x fun ⟨mem, _⟩ => fresh mem, gate]
      · have forward := ((k.told u (told_refl u)).dest_advances (gateDest x y)).holds.gateOut
        exact forward (held y)
    · obtain ⟨side, extended, gate, held⟩ := k.found x mem ((later x mem).mpr found)
      refine ⟨side, ?_, ?_, held⟩
      · rw [← extended]
        cases side <;> simp only [State.switchExtended, pins]
      · rw [gate, still x mem, h.belt]
  · refine (h.token.trans k.token fun x hx => by rw [still x hx.1]).congr fun x => ?_
    simp only [List.mem_cons, List.not_mem_nil, or_false]
    constructor
    · rintro (⟨mem, found⟩ | ⟨mem, found⟩)
      · exact ⟨.inl mem, found⟩
      · exact ⟨.inr mem, (later x mem).mp found⟩
    · rintro ⟨mem | mem, found⟩
      · exact .inl ⟨mem, found⟩
      · exact .inr ⟨mem, (later x mem).mpr found⟩

end Watches

theorem forEach_beginWatch {l : List GateId} (once : l.Nodup) : ∀ s, Watches l s (forEach l beginWatch s) := by
  induction l with
  | nil => exact fun s => .refl_of_none fun x hx => absurd hx List.not_mem_nil
  | cons g l ih =>
    obtain ⟨fresh, rest⟩ := List.nodup_cons.mp once
    exact fun s => (Watches.single g s).cons (ih rest (beginWatch g s)) fresh

/-! ### COMMISSION (R183) -/

/-- The belt of a COMMISSION that passes: STOPPED, its tail timer at 0. -/
def stoppedBelt (s : State) : State := (standStill .stopped s).modBelt fun b => { b with tailMs := 0 }

theorem stoppedBelt_frame (s : State) : SameExcept [.belt] s (stoppedBelt s) :=
  (sameExcept_standStill .stopped s).trans (sameExcept_modBelt _ _)

theorem commissionBelt_watches (s : State) : Watches allGates (stoppedBelt s) (commissionBelt s) :=
  forEach_beginWatch (List.nodup_finRange 12) _

/-- Every gate that is configured, IN_SERVICE, IDLE and without a check is watched from here. -/
theorem findsExtended_stoppedBelt (g : GateId) (s : State) : findsExtended g (stoppedBelt (greeted .site s))
    ↔ (s.gate g).configured = true ∧ (s.gate g).service = .inService ∧ (s.gate g).cycle = none
      ∧ (s.gate g).checks = [] ∧ (s.switchExtended g .left = true ∨ s.switchExtended g .right = true) := by
  have gate : (stoppedBelt (greeted .site s)).gate g = s.gate g := greeted_gate .site s g
  have level : ∀ y, (stoppedBelt (greeted .site s)).switchExtended g y = s.switchExtended g y :=
    greeted_switchExtended .site s g
  have belt : (stoppedBelt (greeted .site s)).belt.state = .stopped := rfl
  simp only [findsExtended, watched_iff, gate, level, belt, and_assoc, ne_eq, reduceCtorEq, not_false_eq_true, true_and]

/-- A belt that COMMISSION has put in STOPPED, with its watches: what the statement says of it. -/
def Commissioned (tag : Byte) (s t : State) : Prop :=
  TookCounting .site [.belt, .gates, .dests, .map, .test, .notices] s t
    ∧ t.belt.still = { s.belt.still with state := .stopped, motor := false, runGuard := none, tailMs := 0 }
    ∧ (∀ g : GateId, s.switchExtended g .left = false → s.switchExtended g .right = false → t.gate g = s.gate g)
    ∧ (∀ (g : GateId) (side : Side), (s.gate g).configured = true →
        (s.gate g).service = .inService → (s.gate g).cycle = none → (s.gate g).checks = [] →
        s.switchExtended g side = true →
        t.gate g = { s.gate g with service := .outOfService, queue := [], fault := (t.gate g).fault }
          ∧ (t.gate g).fault.cause = .extendUncommanded
          ∧ (t.gate g).fault.count = min ((s.gate g).fault.count + 1) 255
          ∧ (t.gate g).fault.p = some s.belt.p
          ∧ ((∀ y : Side, s.switchExtended g y = true → y = side) → (t.gate g).fault.side = some side)
          ∧ (∀ x : Side, (t.dest (gateDest g x)).holds.gateOut = true)
          ∧ t.bank.levels.getLsbD 7 = true)
    ∧ TokenAborted (fun g => (s.gate g).configured = true ∧ (s.gate g).service = .inService
        ∧ (s.gate g).cycle = none ∧ (s.gate g).checks = []
        ∧ (s.switchExtended g .left = true ∨ s.switchExtended g .right = true)) s t
    ∧ DestNotices (some .site) s t
    ∧ Replied s t .site tag .commission .done []

theorem commissioned_settled (tag : Byte) (s : State) : Commissioned tag s
    (settle (queueReply .site tag (Kind.code .commission) ⟨commissionBelt (greeted .site s), .done, []⟩)) := by
  obtain ⟨w, hw⟩ : ∃ w, w = commissionBelt (greeted .site s) := ⟨_, rfl⟩
  have watches : Watches allGates (stoppedBelt (greeted .site s)) w := hw ▸ commissionBelt_watches _
  have told : Told (greeted .site s) w := watches.told _ ((told_refl _).elsewhere rfl rfl rfl)
  obtain ⟨order, marked⟩ := id told
  obtain ⟨took, belt, -, replied⟩ := counting_settled tag .commission (a := ⟨w, .done, []⟩)
    (l := [.belt, .gates, .dests, .map, .test, .notices])
    (((stoppedBelt_frame _).mono (by simp)).trans (watches.frame.mono (by simp))) marked.links (watches.frames _ _)
  have gate : ∀ x, (stoppedBelt (greeted .site s)).gate x = s.gate x := greeted_gate .site s
  have level : ∀ x y, (stoppedBelt (greeted .site s)).switchExtended x y = s.switchExtended x y :=
    greeted_switchExtended .site s
  have finds := fun g => findsExtended_stoppedBelt g s
  rw [← hw]
  refine ⟨took, ?_, fun g left right => ?_, fun g side on service idle checks extended => ?_, ?_,
    told.destNotices tag _ _ _, replied⟩
  · rw [belt, watches.belt, ← greeted_belt .site s]
    rfl
  · rw [settle_gate, queueReply_gate, watches.others g fun ⟨_, found⟩ => ?_, gate]
    obtain ⟨-, -, -, -, extended⟩ := (finds g).mp found
    simp [left, right] at extended
  · have found : findsExtended g (stoppedBelt (greeted .site s)) := (finds g).mpr
      ⟨on, service, idle, checks, by cases side <;> simp [extended]⟩
    obtain ⟨seen, reads, out, held⟩ := watches.found g (mem_allGates g) found
    have p : (stoppedBelt (greeted .site s)).belt.p = s.belt.p := by
      rw [← greeted_belt .site s]; rfl
    rw [gate, p] at out
    rw [level] at reads
    refine ⟨?_, ?_, ?_, ?_, fun only => ?_, fun x => ?_,
      settle_level_out (g := g) (by rw [queueReply_gate]; exact congrArg Gate.service out)⟩
    all_goals simp only [settle_gate, queueReply_gate, settle_dest, queueReply_dest, out]
    · rfl
    · rfl
    · rfl
    · rw [← only seen reads]; rfl
    · exact held x
  · have seen : TokenEnds (fun x => x ∈ allGates ∧ findsExtended x (stoppedBelt (greeted .site s))) s w :=
      watches.token.since
        (by simp only [tokenView, State.find, stoppedBelt, standStill, modBelt_map, modBelt_test, greeted_map, greeted_test])
        ((greeted_latchStands .site s).trans (latchStands_of_marks rfl)) fun x => by rw [gate]
    have view : tokenView (settle (queueReply .site tag (Kind.code .commission) ⟨w, .done, []⟩)) = tokenView w := by
      simp only [tokenView, State.find, settle_map, settle_test, queueReply_map, queueReply_test]
    have stands : LatchStands w (settle (queueReply .site tag (Kind.code .commission) ⟨w, .done, []⟩)) :=
      (latchStands_of_marks (by simp only [State.marks, queueReply_bank])).trans (latchStands_settle _)
    refine ((seen.behind view stands).congr fun g => ?_).aborted
    rw [finds]
    simp [mem_allGates]

theorem handleCommission_eq (s : State) : handlerOf .commission .site [] (greeted .site s)
    = if s.commissioned then ⟨greeted .site s, .state, []⟩
      else match firstFailed (geometryChecks s.gates s.settings s.routes) with
        | some n => ⟨greeted .site s, .badConfig, [byteOf n]⟩
        | none => ⟨commissionBelt (greeted .site s), .done, []⟩ := by
  rw [← greeted_commissioned .site s, ← greeted_gates .site s, ← greeted_settings .site s, ← greeted_routes .site s]
  rfl

/-- COMMISSION, its checks in order. -/
theorem commission_serves {s : State} (tag : Byte) (hs : Served s .site) :
    ∃ t, exec (.commission (.sender .site) tag []) s = .next t
      ∧ (s.belt.state ≠ .unconfigured → Took .site [] s t ∧ Replied s t .site tag .commission .state [])
      ∧ (s.belt.state = .unconfigured → ∀ n, firstFailed (geometryChecks s.gates s.settings s.routes) = some n →
          Took .site [] s t ∧ Replied s t .site tag .commission .badConfig [byteOf n])
      ∧ (s.belt.state = .unconfigured → firstFailed (geometryChecks s.gates s.settings s.routes) = none →
          Commissioned tag s t) := by
  have unchanged := unchanged_settled .site tag .commission s
  have answered := handleCommission_eq s
  refine ⟨_, exec_served (k := .commission) (tag := tag) hs (admissible_site .commission [] s hs rfl rfl rfl)
    (by decide), fun up => ?_, fun down n failed => ?_, fun down passed => ?_⟩
  · obtain ⟨took, -, -, replied⟩ := unchanged .state []
    rw [if_pos ((commissioned_iff s).mpr up)] at answered
    rw [answered]
    exact ⟨took, replied⟩
  · obtain ⟨took, -, -, replied⟩ := unchanged .badConfig [byteOf n]
    rw [if_neg fun up => (commissioned_iff s).mp up down, failed] at answered
    rw [answered]
    exact ⟨took, replied⟩
  · rw [if_neg fun up => (commissioned_iff s).mp up down, passed] at answered
    rw [answered]
    exact commissioned_settled tag s

/-- Settles O52: the refusals in order, and the belt that all checks let pass. -/
theorem commissionChecksGeometry : Obligations.CommissionChecksGeometry := by
  intro s tag hs
  obtain ⟨t, served, up, refused, passed⟩ := commission_serves tag hs
  refine ⟨t, served, ?_⟩
  split
  · next h => exact up h
  · next h =>
    rw [not_not] at h
    cases failed : firstFailed (geometryChecks s.gates s.settings s.routes) with
    | some n => exact refused h n failed
    | none => exact passed h failed

end Sys2Proof.Machine
end

section
/-! SUPPORT. The head of a fire queue at its fire target: the gate that fires, the check that begins, a token that fires, and a missed fire (R58, R65, R91, R125 to R127, R135, R150). -/

namespace Sys2Proof.Machine

/-! ### Which of the two comes (R125) -/

theorem headDue_eq {s : State} {g : GateId} {r : EntryRef} {rest : List EntryRef} {e : Entry} {d : DestId} {f : Pos}
    (queue : (s.gate g).queue = r :: rest) (found : s.find r = some e) (bound : e.dest = some (.gateDest d))
    (fireAt : e.fireAt = some f) (due : reached s.belt.p f = true) : headDue s g = some (e, d, f) := by
  simp [headDue, queue, found, bound, fireAt, due]

section
variable {s : State} {g : GateId} {e : Entry} {d : DestId} {f : Pos}

theorem exec_fires (hr : s.inReset = false) (head : headDue s g = some (e, d, f)) (idle : (s.gate g).cycle = none) :
    exec (.fireTarget g) s = .next (settle (fire g e d f s)) := by
  rw [exec_event (c := .fireTarget g) rfl hr, head]
  dsimp only
  rw [idle]

theorem exec_misses {cy : Cycle} (hr : s.inReset = false) (head : headDue s g = some (e, d, f))
    (busy : (s.gate g).cycle = some cy) : exec (.fireTarget g) s = .next (settle (missedFire g e.ref d s)) := by
  rw [exec_event (c := .fireTarget g) rfl hr, head]
  dsimp only
  rw [busy]

end

theorem switchExtended_of_pins {s t : State} (h : t.pins = s.pins) (g : GateId) (y : Side) :
    t.switchExtended g y = s.switchExtended g y := by
  cases y <;> simp only [State.switchExtended, h]

theorem gate?_of_bound {e : Entry} {d : DestId} (bound : e.dest = some (.gateDest d)) : e.gate? = some (destGate d) := by
  rw [Entry.gate?, bound]

/-! ### The gate that fires (R126) -/

/-- The gate fires for d at f: the head is gone, the cycle and the drive are on, and the fire is counted. -/
def gateFires (g : GateId) (d : DestId) (f : Pos) (late : Bool) (s : State) : State :=
  countFire g late (s.modGate g (firedGate (destSide d) f))

/-- A gate that has fired from s, as u has it before its check begins: its queue may have lost more. -/
structure Fired (g : GateId) (d : DestId) (f : Pos) (late : Bool) (s u : State) : Prop where
  self : u.gate g = { firedGate (destSide d) f (s.gate g) with queue := (u.gate g).queue }
  others : SameOtherGates s u g
  fires : u.counter (.ofGate g .fires) = min (s.counter (.ofGate g .fires) + 1) 65535
  lateFires : u.counter (.ofGate g .lateFires)
    = if late = true then min (s.counter (.ofGate g .lateFires) + 1) 65535 else s.counter (.ofGate g .lateFires)
  pins : u.pins = s.pins

theorem firedGate_eq (side : Side) (f : Pos) (x : Gate) : firedGate side f x = { x with
    queue := x.queue.tail
    cycle := some { side := side, endIn := x.t, offIn := x.t / 2 }
    lastFired := some f
    driveLeft := side == .left
    driveRight := side == .right } := by
  cases side <;> rfl

section
variable (g : GateId) (d : DestId) (f : Pos) (late : Bool) (s : State)

/-- It is counted, and its record written, and nothing else moves. -/
theorem gateFires_eq : ∃ bank, gateFires g d f late s = { s.modGate g (firedGate (destSide d) f) with bank := bank } := by
  unfold gateFires countFire
  cases late
  · exact ⟨_, rfl⟩
  · exact ⟨_, rfl⟩

theorem gateFires_gate (x : GateId) : (gateFires g d f late s).gate x
    = if x = g then firedGate (destSide d) f (s.gate g) else s.gate x := by
  rw [gateFires, countFire_gate, modGate_gate]

theorem gateFires_frame : SameExcept [.gates, .counters] s (gateFires g d f late s) := by
  have raised : ∀ c u, SameExcept [.gates, .counters] u (State.raise u c) := fun c u =>
    (sameExcept_raise c u).mono (by simp)
  have wrote := (sameExcept_modGate g (firedGate (destSide d) f) s).mono (m := [.gates, .counters]) (by simp)
  unfold gateFires countFire
  cases late
  · exact wrote.trans (raised _ _)
  · exact (wrote.trans (raised _ _)).trans (raised _ _)

theorem gateFires_map : (gateFires g d f late s).map = s.map := by
  obtain ⟨bank, h⟩ := gateFires_eq g d f late s
  rw [h]; rfl

theorem gateFires_dests : (gateFires g d f late s).dests = s.dests := by
  obtain ⟨bank, h⟩ := gateFires_eq g d f late s
  rw [h]; rfl

theorem gateFires_links : (gateFires g d f late s).links = s.links := by
  obtain ⟨bank, h⟩ := gateFires_eq g d f late s
  rw [h]; rfl

theorem gateFires_notices : (gateFires g d f late s).notices = s.notices := by
  obtain ⟨bank, h⟩ := gateFires_eq g d f late s
  rw [h]; rfl

theorem gateFires_counter {c : Counter} (fires : c ≠ .ofGate g .fires) (lateFires : c ≠ .ofGate g .lateFires) :
    (gateFires g d f late s).counter c = s.counter c := by
  unfold gateFires countFire
  cases late
  · exact (raise_counter _ _ c).trans (if_neg fires)
  · exact (raise_counter _ _ c).trans ((if_neg lateFires).trans ((raise_counter _ _ c).trans (if_neg fires)))

theorem gateFires_fired : Fired g d f late s (gateFires g d f late s) where
  self := by rw [gateFires_gate, if_pos rfl]
  others x hx := by rw [gateFires_gate, if_neg hx]
  fires := by
    unfold gateFires countFire
    cases late
    · exact raise_counter_self _ _
    · exact ((raise_counter _ _ _).trans (if_neg (by simp))).trans (raise_counter_self _ _)
  lateFires := by
    unfold gateFires countFire
    cases late
    · exact (raise_counter _ _ _).trans (if_neg (by simp))
    · refine (raise_counter_self _ _).trans ?_
      have once : ((s.modGate g (firedGate (destSide d) f)).raiseGate g .fires).counter (.ofGate g .lateFires)
          = s.counter (.ofGate g .lateFires) := (raise_counter _ _ _).trans (if_neg (by simp))
      rw [once, if_pos rfl]
  pins := by
    obtain ⟨bank, h⟩ := gateFires_eq g d f late s
    rw [h]; rfl

end

/-- A change behind the fire that moves no gate but for entries that leave this one's queue. -/
theorem Fired.behind {g : GateId} {d : DestId} {f : Pos} {late : Bool} {s u v : State} (h : Fired g d f late s u)
    (self : v.gate g = { u.gate g with queue := (v.gate g).queue }) (others : SameOtherGates u v g)
    (counter : ∀ c, v.counter (.ofGate g c) = u.counter (.ofGate g c)) (pins : v.pins = u.pins) :
    Fired g d f late s v where
  self := by rw [self, h.self]
  others x hx := (others x hx).trans (h.others x hx)
  fires := (counter _).trans h.fires
  lateFires := (counter _).trans h.lateFires
  pins := pins.trans h.pins

/-! ### The check that begins (R150) -/

/-- The checks in progress once a fire of a side has begun its own, where the switch does not read extended. -/
def checksBegun (extended : Bool) (side : Side) (forToken : Bool) (x : Gate) : List ActuatorCheck :=
  if extended = true then x.checks else x.checks ++ [{ side := side, leftMs := 2 * x.l, forToken := forToken }]

/-- For an item, a check is begun or there is nothing to do. -/
theorem startCheck_item (g : GateId) (side : Side) (s : State) :
    startCheck g side false s = s ∨ ∃ f, startCheck g side false s = s.modGate g f := by
  unfold startCheck
  split
  · exact .inl rfl
  · exact .inr ⟨_, rfl⟩

section
variable {g : GateId} {side : Side} {b : Bool} {s : State}

theorem startCheck_gate (still : b = true → s.switchExtended g side = true → ∀ x, (endToken .pass s).gate x = s.gate x)
    (x : GateId) : (startCheck g side b s).gate x
      = if x = g then { s.gate g with checks := checksBegun (s.switchExtended g side) side b (s.gate g) }
        else s.gate x := by
  unfold startCheck checksBegun
  cases extended : s.switchExtended g side with
  | true =>
    have same : (if b = true then endToken .pass s else s).gate x = s.gate x := by
      cases b
      · rfl
      · exact still rfl extended x
    rw [if_pos rfl, if_pos rfl, same]
    split
    · next h => rw [h]
    · rfl
  | false => rw [if_neg Bool.false_ne_true, if_neg Bool.false_ne_true, modGate_gate]

theorem startCheck_counter (c : Counter) : (startCheck g side b s).counter c = s.counter c := by
  unfold startCheck
  split
  · cases b
    · rfl
    · exact endToken_counter .pass s c
  · rfl

end

/-- What a fire leaves of its gate and counts of it, over the whole event (R126, R150). -/
def CycleBegun (g : GateId) (d : DestId) (f : Pos) (late forToken : Bool) (s t : State) : Prop :=
  t.gate g = { s.gate g with
      queue := (t.gate g).queue
      cycle := some { side := destSide d, endIn := (s.gate g).t, offIn := (s.gate g).t / 2 }
      lastFired := some f
      driveLeft := destSide d == .left
      driveRight := destSide d == .right
      checks := if s.switchExtended g (destSide d) = true then (s.gate g).checks
        else (s.gate g).checks ++ [{ side := destSide d, leftMs := 2 * (s.gate g).l, forToken := forToken }] }
    ∧ SameOtherGates s t g
    ∧ t.counter (.ofGate g .fires) = min (s.counter (.ofGate g .fires) + 1) 65535
    ∧ t.counter (.ofGate g .lateFires)
        = if late = true then min (s.counter (.ofGate g .lateFires) + 1) 65535 else s.counter (.ofGate g .lateFires)

/-- The check begins, and the event ends. -/
theorem Fired.cycleBegun {g : GateId} {d : DestId} {f : Pos} {late b : Bool} {s u : State} (h : Fired g d f late s u)
    (still : b = true → u.switchExtended g (destSide d) = true → ∀ x, (endToken .pass u).gate x = u.gate x) :
    CycleBegun g d f late b s (settle (startCheck g (destSide d) b u)) := by
  have gate := startCheck_gate still
  have level := switchExtended_of_pins h.pins g (destSide d)
  refine ⟨?_, fun x hx => ?_, ?_, ?_⟩
  · rw [settle_gate, gate, if_pos rfl, h.self, firedGate_eq, level]
    rfl
  · rw [settle_gate, gate, if_neg hx, h.others x hx]
  · rw [settle_counter, startCheck_counter, h.fires]
  · rw [settle_counter, startCheck_counter, h.lateFires]

/-! ### A token that fires (R66, R135) -/

section
variable {s : State} {g : GateId} {rest : List EntryRef} {e : Entry} {d : DestId} {f : Pos}

theorem tag_of_token (h : e.ref = .token) : e.tag = none := Option.isNone_iff_eq_none.mp ((isTest_iff_token e).mpr h)

theorem tag_of_ref {x : Tag} (h : e.ref = .tag x) : e.tag = some x := by
  unfold Entry.ref at h
  split at h
  · next y hy => rw [hy, EntryRef.tag.inj h]
  · cases h

theorem fire_token (token : e.ref = .token) :
    fire g e d f s = startCheck g (destSide d) true (gateFires g d f e.late s) := by
  simp only [fire, tag_of_token token]
  rfl

/-- A token fires like an item, and its pass moves no gate. -/
theorem fire_token_begins (at_gate : destGate d = g) (queue : (s.gate g).queue = .token :: rest)
    (once : EntryRef.token ∉ rest) (found : s.find .token = some e) (bound : e.dest = some (.gateDest d)) :
    CycleBegun g d f e.late true s (settle (fire g e d f s))
      ∧ ((settle (fire g e d f s)).gate g).queue = rest := by
  have there : (gateFires g d f e.late s).find .token = some e := by
    simpa only [State.find, gateFires_map] using found
  have left : ((gateFires g d f e.late s).gate g).queue = rest := by
    rw [gateFires_gate, if_pos rfl, (firedGate_queue _ f _).1, queue, List.tail_cons]
  have still : ∀ x, (endToken .pass (gateFires g d f e.late s)).gate x = (gateFires g d f e.late s).gate x :=
    endToken_unqueued .pass there (at_gate ▸ gate?_of_bound bound) (by rw [left]; exact once)
  rw [fire_token (find_ref found)]
  refine ⟨(gateFires_fired g d f e.late s).cycleBegun fun _ _ => still, ?_⟩
  rw [settle_gate, startCheck_gate (fun _ _ => still), if_pos rfl]
  exact left

/-- Where the switch does not read extended, it stays in the map, and its check begins. -/
theorem fire_token_waits (found : s.find .token = some e) (clear : s.switchExtended g (destSide d) = false) :
    SameExcept [.gates, .counters] s (settle (fire g e d f s)) := by
  have level : (gateFires g d f e.late s).switchExtended g (destSide d) = false :=
    (switchExtended_of_pins (gateFires_fired g d f e.late s).pins _ _).trans clear
  rw [fire_token (find_ref found), startCheck, level, if_neg Bool.false_ne_true]
  exact ((gateFires_frame g d f e.late s).trans ((sameExcept_modGate g _ _).mono (by simp))).settled

/-- Where it reads extended, the token passes at once. -/
theorem fire_token_passes (names : (s.map.map Entry.ref).Nodup) (found : s.find .token = some e)
    (extended : s.switchExtended g (destSide d) = true) :
    let t := settle (fire g e d f s)
    SameExcept [.map, .test, .gates, .counters] s t ∧ t.find .token = none
      ∧ t.test = { s.test with result := .pass } ∧ t.bank.latches.getLsbD 12 = true := by
  obtain ⟨u, hu⟩ : ∃ u, u = gateFires g d f e.late s := ⟨_, rfl⟩
  have frame : SameExcept [.gates, .counters] s u := hu ▸ gateFires_frame g d f e.late s
  have map : u.map = s.map := hu ▸ gateFires_map g d f e.late s
  have level : u.switchExtended g (destSide d) = true :=
    (switchExtended_of_pins (frame .pins (by simp)) _ _).trans extended
  have passed : fire g e d f s = endToken .pass u := by
    rw [fire_token (find_ref found), ← hu, startCheck, level, if_pos rfl, if_pos rfl]
  obtain ⟨gone, -, -, test, latch⟩ := endToken_leaves (s := u) .pass (map ▸ names)
    (by simp only [State.find, map]; rw [← State.find, found]; simp)
  rw [passed]
  refine ⟨((frame.mono (by simp)).trans ((endToken_frame .pass u).mono (by simp))).settled, ?_, ?_, settle_latch latch⟩
  · rw [settle_find]; exact gone
  · rw [settle_test, test, frame .test (by simp)]

end

/-! ### A missed fire (R58, R65, R91, R127) -/

/-- The head has left the queue, and the missed fire is counted. -/
def headMissed (g : GateId) (s : State) : State :=
  (s.modGate g fun x => { x with queue := x.queue.tail }).raiseGate g .missedFires

theorem missedFire_eq (g : GateId) (r : EntryRef) (d : DestId) (s : State) : missedFire g r d s
    = if r = .token then endToken .conflict (headMissed g s) else reroute d r (headMissed g s) := rfl

section
variable {s : State} {g : GateId} {r : EntryRef} {rest : List EntryRef} {e : Entry} {d : DestId}

theorem headMissed_frame (g : GateId) (s : State) : SameExcept [.gates, .counters] s (headMissed g s) :=
  ((sameExcept_modGate g _ s).mono (by simp)).trans ((sameExcept_raise _ _).mono (by simp))

theorem headMissed_counted (g : GateId) (s : State) : Raised [.ofGate g .missedFires] s (headMissed g s) :=
  raised_raise (s.modGate g fun x => { x with queue := x.queue.tail }) _

theorem headMissed_self (queue : (s.gate g).queue = r :: rest) :
    (headMissed g s).gate g = { s.gate g with queue := rest } := by
  rw [headMissed, raiseGate_eq, raise_gate, modGate_gate_self, queue, List.tail_cons]

theorem headMissed_others (g : GateId) (s : State) : SameOtherGates s (headMissed g s) g := fun x hx => by
  rw [headMissed, raiseGate_eq, raise_gate, modGate_gate_ne _ _ _ _ hx]

/-- An item that misses its fire is withdrawn and assigned elsewhere. -/
theorem missedFire_item {x : Tag} (queue : (s.gate (destGate d)).queue = .tag x :: rest) (once : EntryRef.tag x ∉ rest)
    (found : s.find (.tag x) = some e) (bound : e.dest = some (.gateDest d)) (armed : e.state = .armed) :
    let u := missedFire (destGate d) (.tag x) d s
    Rerouted d (.tag x) e (headMissed (destGate d) s) u
      ∧ SameExcept [.map, .dests, .gates, .counters, .notices] s u
      ∧ u.gate (destGate d) = { s.gate (destGate d) with queue := rest } ∧ SameOtherGates s u (destGate d)
      ∧ u.counter (.ofGate (destGate d) .missedFires)
          = min (s.counter (.ofGate (destGate d) .missedFires) + 1) 65535 := by
  have self := headMissed_self queue
  dsimp only
  rw [missedFire_eq, if_neg (by simp)]
  refine ⟨rerouted_of_underway (s := headMissed (destGate d) s) found bound (isTest_of_tag (find_ref found)) (.inr armed),
    ((headMissed_frame _ s).mono (by simp)).trans (reroute_frame _ _ _), ?_, fun y hy => ?_, ?_⟩
  · rw [reroute_gate_same (.inr (by rw [self]; exact once)), self]
  · rw [reroute_gate_same (.inl hy), headMissed_others _ s y hy]
  · rw [reroute_counter (by simp) (by simp), headMissed_counted _ s, if_pos (by simp)]

/-- A token that misses its fire ends with CONFLICT. -/
theorem missedFire_token (names : (s.map.map Entry.ref).Nodup) (queue : (s.gate (destGate d)).queue = .token :: rest)
    (once : EntryRef.token ∉ rest) (found : s.find .token = some e) (bound : e.dest = some (.gateDest d)) :
    let u := missedFire (destGate d) .token d s
    SameExcept [.map, .test, .gates, .counters] s u ∧ Raised [.ofGate (destGate d) .missedFires] s u
      ∧ (u.find .token = none ∧ u.map.length + 1 = s.map.length ∧ SameOtherEntries s u .token
        ∧ u.test = { s.test with result := .conflict } ∧ u.bank.latches.getLsbD 12 = true)
      ∧ u.gate (destGate d) = { s.gate (destGate d) with queue := rest } ∧ SameOtherGates s u (destGate d) := by
  have self := headMissed_self queue
  have still := endToken_unqueued .conflict (s := headMissed (destGate d) s) found (gate?_of_bound bound)
    (by rw [self]; exact once)
  have there : (headMissed (destGate d) s).find .token ≠ none := by
    rw [show (headMissed (destGate d) s).find .token = some e from found]
    simp
  dsimp only
  rw [missedFire_eq, if_pos rfl]
  refine ⟨((headMissed_frame _ s).mono (by simp)).trans ((endToken_frame _ _).mono (by simp)), fun c => ?_,
    endToken_leaves (s := headMissed (destGate d) s) .conflict names there,
    ?_, fun y hy => ?_⟩
  · rw [endToken_counter, headMissed_counted]
  · rw [still, self]
  · rw [still, headMissed_others _ s y hy]

end

end Sys2Proof.Machine
end

section
/-! SUPPORT. An item that fires: its record joins the awaiting-confirm queue, behind the forced miss of the oldest where four wait (R59, R102, R107, R114, R125 to R127, R139, R140, R144 to R146). -/

namespace Sys2Proof.Machine

/-! ### Told of, as seen from a state before (R114, R174) -/

/-- The same as seen from a state with the links, the records and the notices before. -/
theorem Told.since {s u v : State} (h : Told u v) (links : u.links = s.links) (dests : u.dests = s.dests)
    (notices : u.notices = s.notices) : Told s v := by
  obtain ⟨order, h⟩ := h
  have dest : ∀ d, u.dest d = s.dest d := fun d => by simp only [State.dest, dests]
  have queue : ∀ st, u.noticeQueue st = s.noticeQueue st := fun st => by simp only [State.noticeQueue, notices]
  refine ⟨order, h.nodup, h.links.trans links, fun d => ?_, fun d => ?_, fun st => ?_⟩
  · rw [← dest]; exact h.advances d
  · rw [← dest]; exact h.shown d
  · have told := h.queue st
    simp only [queue, dest, hears_of_links links] at told
    exact told

/-! ### What a miss leaves of the gates, the map and the counters -/

section
variable (d : DestId) (place : Nat) (s : State)

theorem missTaken_gates : (missTaken d place s).gates = s.gates := unreserve_gates d _

theorem missTaken_tokenView : tokenView (missTaken d place s) = tokenView s := by
  have test : (missTaken d place s).test = s.test := (missTaken_frame d place s) .test (by simp)
  simp only [tokenView, State.find, missTaken_map, test]

theorem missCounted_tokenView : tokenView (missCounted d place s) = tokenView s := by
  rw [missCounted_eq]
  split
  · rw [gainRerouting_tokenView, missTaken_tokenView]
  · exact missTaken_tokenView d place s

theorem missCounted_gate (x : GateId) :
    (missCounted d place s).gate x = { s.gate x with queue := ((missCounted d place s).gate x).queue } := by
  have taken : (missTaken d place s).gate x = s.gate x := by simp only [State.gate, missTaken_gates]
  rw [missCounted_eq]
  split
  · have moved := gainRerouting_gate Holds.silent setSilent [d] (missTaken d place s) x
    rwa [taken] at moved
  · rw [taken]

theorem missCounted_gate_same {x : GateId} (hx : x ≠ destGate d) : (missCounted d place s).gate x = s.gate x := by
  have taken : (missTaken d place s).gate x = s.gate x := by simp only [State.gate, missTaken_gates]
  rw [missCounted_eq]
  split
  · rw [gainRerouting_gate_same _ _ (by simpa using hx.symm), taken]
  · exact taken

theorem missCounted_counter_gate (g : GateId) (c : GateCounter) :
    (missCounted d place s).counter (.ofGate g c) = s.counter (.ofGate g c) := by
  have taken : (missTaken d place s).counter (.ofGate g c) = s.counter (.ofGate g c) := by
    have before : (missTaken d place s).counter (.ofGate g c) = (takeMissed d place s).counter (.ofGate g c) := rfl
    rw [before, takeMissed, raiseDest_eq, raise_counter, if_neg (by simp), unreserve_counter]
    rfl
  rw [missCounted_eq]
  split
  · rw [gainRerouting_counter (by simp) (by simp), taken]
  · exact taken

end

/-! ### The record joins (R139, R140) -/

section
variable {d : DestId} {a : Awaiting} {s : State}

theorem joinAwaiting_room (room : (s.dest d).awaiting.length < 4) (a : Awaiting) :
    joinAwaiting d a s = s.modDest d fun r => { r with awaiting := r.awaiting ++ [a] } := by
  rw [joinAwaiting, if_neg (by omega)]

/-- The queue that a forced miss of the oldest leaves. -/
theorem missCounted_awaiting (d : DestId) (s : State) :
    ((missCounted d 0 s).dest d).awaiting = (s.dest d).awaiting.tail := by
  rw [(missCounted_self (s := s) (d := d) 0).awaiting]
  exact List.eraseIdx_zero ..

/-- Behind four records the oldest is missed first; its release waits for the others. -/
theorem joinAwaiting_full {oldest : Awaiting} {newer : List Awaiting} (full : 4 ≤ (s.dest d).awaiting.length)
    (queue : (s.dest d).awaiting = oldest :: newer) (a : Awaiting) : joinAwaiting d a s
      = (offerArrival d oldest false (missCounted d 0 s)).modDest d fun r => { r with awaiting := r.awaiting ++ [a] } := by
  have missed : miss d 0 s = settleEmptied d (offerArrival d oldest false (missCounted d 0 s)) :=
    miss_resolves (place := 0) (by simp [queue])
  have wait : ((offerArrival d oldest false (missCounted d 0 s)).dest d).awaiting ≠ [] := by
    simp only [State.dest, offerArrival_dests]
    rw [← State.dest, missCounted_awaiting, queue]
    rintro rfl
    simp [queue] at full
  rw [joinAwaiting, if_pos full, missed, settleEmptied, if_neg fun k => wait k.1]

end

/-! ### The item that fires (R59, R126) -/

/-- The gate has fired for an item of a tag, and the item has left the map. -/
def itemFired (g : GateId) (d : DestId) (f : Pos) (late : Bool) (x : Tag) (s : State) : State :=
  (gateFires g d f late s).dropEntry (.tag x)

theorem fire_item {e : Entry} {x : Tag} (tag : e.tag = some x) (g : GateId) (d : DestId) (f : Pos) (s : State) :
    fire g e d f s = startCheck g (destSide d) false
      (joinAwaiting d (e.awaiting x (s.gate g).c) (itemFired g d f e.late x s)) := by
  simp only [fire, tag]
  rfl

section
variable {g : GateId} {d : DestId} {f : Pos} {late : Bool} {x : Tag} {s : State}

theorem itemFired_fired : Fired g d f late s (itemFired g d f late x s) :=
  (gateFires_fired g d f late s).behind rfl (fun _ _ => rfl) (fun _ => rfl) rfl

theorem itemFired_frame : SameExcept [.map, .gates, .counters] s (itemFired g d f late x s) :=
  ((gateFires_frame g d f late s).mono (by simp)).trans ((sameExcept_withMap _ _).mono (by simp))

theorem itemFired_dests : (itemFired g d f late x s).dests = s.dests := gateFires_dests g d f late s

theorem itemFired_dest (y : DestId) : (itemFired g d f late x s).dest y = s.dest y := by
  simp only [State.dest, itemFired_dests]

theorem itemFired_queue {rest : List EntryRef} (queue : (s.gate g).queue = .tag x :: rest) :
    ((itemFired g d f late x s).gate g).queue = rest := by
  have gate : (itemFired g d f late x s).gate g = (gateFires g d f late s).gate g := rfl
  rw [gate, gateFires_gate, if_pos rfl, (firedGate_queue _ f _).1, queue, List.tail_cons]

theorem itemFired_leaves {e : Entry} (names : (s.map.map Entry.ref).Nodup) (found : s.find (.tag x) = some e) :
    (itemFired g d f late x s).find (.tag x) = none ∧ (itemFired g d f late x s).map.length + 1 = s.map.length
      ∧ SameOtherEntries s (itemFired g d f late x s) (.tag x) := by
  have map : (itemFired g d f late x s).map = (s.dropEntry (.tag x)).map := by
    rw [itemFired, dropEntry_eq, dropEntry_eq, withMap_map, withMap_map, gateFires_map]
  have left := dropEntry_leaves names found
  simpa only [SameOtherEntries, State.find, map] using left

end

/-- A check that an item's fire begins moves a gate's record alone. -/
theorem startCheck_item_keeps (g : GateId) (side : Side) (s : State) :
    SameExcept [.gates] s (startCheck g side false s) ∧ (startCheck g side false s).map = s.map
      ∧ (startCheck g side false s).dests = s.dests ∧ (startCheck g side false s).links = s.links
      ∧ (startCheck g side false s).notices = s.notices := by
  obtain h | ⟨f, h⟩ := startCheck_item g side s <;> rw [h]
  · exact ⟨sameExcept_refl _ s, rfl, rfl, rfl, rfl⟩
  · exact ⟨sameExcept_modGate g f s, rfl, rfl, rfl, rfl⟩

section
variable {g : GateId} {d : DestId} {f : Pos} {late : Bool} {x : Tag} {s : State} {a : Awaiting}

/-! ### With room in the queue (R59, R140) -/

theorem fired_room (room : (s.dest d).awaiting.length < 4) :
    Fired g d f late s (joinAwaiting d a (itemFired g d f late x s)) := by
  rw [joinAwaiting_room (by rwa [itemFired_dest])]
  exact (itemFired_fired (x := x)).behind rfl (fun _ _ => rfl) (fun _ => rfl) rfl

/-- The record joins with its window, and no other destination and no other entry moves. -/
theorem item_joins {rest : List EntryRef} {e : Entry} (queue : (s.gate g).queue = .tag x :: rest)
    (names : (s.map.map Entry.ref).Nodup) (found : s.find (.tag x) = some e)
    (room : (s.dest d).awaiting.length < 4) :
    let t := settle (startCheck g (destSide d) false (joinAwaiting d a (itemFired g d f late x s)))
    (t.find (.tag x) = none ∧ t.map.length + 1 = s.map.length) ∧ SameExcept [.map, .dests, .gates, .counters] s t
      ∧ (t.gate g).queue = rest ∧ SameOtherEntries s t (.tag x)
      ∧ t.dest d = { s.dest d with awaiting := (s.dest d).awaiting ++ [a] } ∧ SameOtherDests s t d := by
  obtain ⟨u, hu⟩ : ∃ u, u = joinAwaiting d a (itemFired g d f late x s) := ⟨_, rfl⟩
  have joined : u = (itemFired g d f late x s).modDest d fun r => { r with awaiting := r.awaiting ++ [a] } :=
    hu.trans (joinAwaiting_room (by rwa [itemFired_dest]) a)
  obtain ⟨frame, map, dests, -, -⟩ := startCheck_item_keeps g (destSide d) u
  have dest : ∀ y, (startCheck g (destSide d) false u).dest y
      = if y = d then { s.dest d with awaiting := (s.dest d).awaiting ++ [a] } else s.dest y := fun y => by
    simp only [State.dest, dests]
    rw [← State.dest, joined, modDest_dest, itemFired_dest, itemFired_dest]
    rfl
  obtain ⟨gone, length, others⟩ := itemFired_leaves (g := g) (d := d) (f := f) (late := late) names found
  have same : (settle (startCheck g (destSide d) false u)).map = (itemFired g d f late x s).map := by
    rw [settle_map, map, joined, modDest_map]
  rw [← hu]
  dsimp only
  refine ⟨⟨?_, by rw [same, length]⟩, ?_, ?_, fun y hy => ?_, ?_, fun y hy => ?_⟩
  · rw [State.find, same]; exact gone
  · have before : SameExcept [.map, .dests, .gates, .counters] s u := by
      rw [joined]
      exact (itemFired_frame.mono (by simp)).trans ((modDest_frame d _ _).mono (by simp))
    exact (before.trans (frame.mono (by simp))).settled
  · rw [settle_gate, startCheck_gate (by simp), if_pos rfl, joined]
    exact itemFired_queue queue
  · rw [State.find, same]; exact others y hy
  · rw [settle_dest, dest, if_pos rfl]
  · rw [settle_dest, dest, if_neg hy]

/-! ### Behind the forced miss of the oldest (R139, R144, R146) -/

/-- The state in which the missed record is resolved, and the item's own record has not joined. -/
def oldestMissed (g : GateId) (d : DestId) (f : Pos) (late : Bool) (x : Tag) (s : State) : State :=
  missCounted d 0 (itemFired g d f late x s)

theorem oldestMissed_told : Told s (oldestMissed g d f late x s) :=
  (told_missCounted d 0 (itemFired g d f late x s)).since (gateFires_links g d f late s) itemFired_dests
    (gateFires_notices g d f late s)

theorem oldestMissed_frame :
    SameExcept [.map, .dests, .gates, .counters, .notices] s (oldestMissed g d f late x s) :=
  (itemFired_frame.mono (by simp)).trans ((missCounted_frame d 0 _).mono (by simp))

theorem oldestMissed_awaiting : ((oldestMissed g d f late x s).dest d).awaiting = (s.dest d).awaiting.tail := by
  rw [oldestMissed, missCounted_awaiting, itemFired_dest]

theorem oldestMissed_fired (at_gate : destGate d = g) : Fired g d f late s (oldestMissed g d f late x s) :=
  itemFired_fired.behind (missCounted_gate d 0 _ g)
    (fun y hy => missCounted_gate_same d 0 _ (by rw [at_gate]; exact hy)) (missCounted_counter_gate d 0 _ g)
    ((missCounted_frame d 0 _) .pins (by simp))

theorem oldestMissed_leaves {e : Entry} (names : (s.map.map Entry.ref).Nodup) (found : s.find (.tag x) = some e) :
    (oldestMissed g d f late x s).find (.tag x) = none ∧ (oldestMissed g d f late x s).map.length + 1 = s.map.length := by
  obtain ⟨gone, length, -⟩ := itemFired_leaves (g := g) (d := d) (f := f) (late := late) names found
  have view := missCounted_tokenView d 0 (itemFired g d f late x s)
  simp only [tokenView, Prod.mk.injEq] at view
  obtain ⟨-, same, -, refs⟩ := view
  refine ⟨?_, by rw [oldestMissed, same, length]⟩
  have absent : ∀ u : State, u.find (.tag x) = none ↔ EntryRef.tag x ∉ u.map.map Entry.ref := fun u => by
    simp [State.find]
  rw [absent] at gone ⊢
  rw [oldestMissed, refs]
  exact gone

theorem oldestMissed_misses : (oldestMissed g d f late x s).counter (.ofDest d .misses)
    = min (s.counter (.ofDest d .misses) + 1) 65535 := by
  have before : (itemFired g d f late x s).counter (.ofDest d .misses) = s.counter (.ofDest d .misses) :=
    gateFires_counter g d f late s (by simp) (by simp)
  rw [oldestMissed, missCounted_misses, before]

theorem offerArrival_gates (d : DestId) (a : Awaiting) (b : Bool) (s : State) : (offerArrival d a b s).gates = s.gates :=
  offerArrival_frame d a b s .gates (by simp)

theorem fired_full (at_gate : destGate d = g) {oldest : Awaiting} {newer : List Awaiting}
    (full : 4 ≤ (s.dest d).awaiting.length) (queue : (s.dest d).awaiting = oldest :: newer) :
    Fired g d f late s (joinAwaiting d a (itemFired g d f late x s)) := by
  obtain ⟨w, hw⟩ : ∃ w, w = oldestMissed g d f late x s := ⟨_, rfl⟩
  have missed : Fired g d f late s w := hw ▸ oldestMissed_fired at_gate
  have gate : ∀ y, (offerArrival d oldest false w).gate y = w.gate y := fun y => by
    simp only [State.gate, offerArrival_gates]
  have arrived : Fired g d f late s (offerArrival d oldest false w) := missed.behind (by rw [gate])
    (fun y _ => gate y) (fun c => offerArrival_counter d oldest false w (by simp))
    (offerArrival_frame d oldest false w .pins (by simp))
  rw [joinAwaiting_full (by rwa [itemFired_dest]) (by rwa [itemFired_dest]), ← oldestMissed, ← hw]
  exact arrived.behind rfl (fun _ _ => rfl) (fun _ => rfl) rfl

/-- The notices of the event: what the miss shows, and the ARRIVAL of the missed record. -/
theorem oldestMissed_notices {v : State} {oldest : Awaiting}
    (links : v.links = (oldestMissed g d f late x s).links)
    (dests : v.dests = ((oldestMissed g d f late x s).modDest d fun r => { r with awaiting := r.awaiting ++ [a] }).dests)
    (notices : v.notices = (offerArrival d oldest false (oldestMissed g d f late x s)).notices) :
    ArrivalNotices d oldest false s (settle v) := by
  obtain ⟨w, hw⟩ : ∃ w, w = oldestMissed g d f late x s := ⟨_, rfl⟩
  have told : Told s w := hw ▸ oldestMissed_told
  rw [← hw] at links dests notices
  obtain ⟨_, offered, -⟩ := told.offered
  obtain ⟨_, joined, -⟩ := (told.invisible (v := w.modDest d fun r => { r with awaiting := r.awaiting ++ [a] }) rfl rfl
    (modDest_invisible fun r => sameVisible_refl r)).offered
  have hearing : ∀ st, hears (settle v) st = hears s st := fun st => by
    rw [hears_settle, hears_of_links (links.trans offered.links)]
  have owner : (w.dest d).owner = (s.dest d).owner := (told.dest_advances d).owner
  have places : ∀ st, (w.noticeQueue st).places = (s.noticeQueue st).places := fun st => by rw [offered.queue]
  have offers := joined.noticesOffered (v := v) (places := arrivalPlaces d oldest false w) links dests fun st => by
    have same : v.noticeQueue st = (offerArrival d oldest false w).noticeQueue st := by
      simp only [State.noticeQueue, notices]
    rw [same, offerArrival_noticeQueue]
    rfl
  unfold ArrivalNotices
  simp only [hearing]
  have same : arrivalPlaces d oldest false w = fun st =>
      if (s.dest d).owner = some (.station st) ∧ hears s st = true ∧ (s.noticeQueue st).places.length < 16 then
        (s.noticeQueue st).places ++ [.arrival d oldest.tag oldest.cls oldest.owner false]
      else (s.noticeQueue st).places := funext fun st => by
    unfold arrivalPlaces
    rw [owner, hears_of_links offered.links, places]
  rw [← same]
  exact offers

/-- The oldest record is missed and told of, and the item's joins behind the others. -/
theorem item_misses_oldest {oldest : Awaiting} {newer : List Awaiting} {e : Entry}
    (names : (s.map.map Entry.ref).Nodup) (found : s.find (.tag x) = some e)
    (full : 4 ≤ (s.dest d).awaiting.length) (queue : (s.dest d).awaiting = oldest :: newer) :
    let t := settle (startCheck g (destSide d) false (joinAwaiting d a (itemFired g d f late x s)))
    (t.find (.tag x) = none ∧ t.map.length + 1 = s.map.length)
      ∧ SameExcept [.map, .dests, .gates, .counters, .notices] s t ∧ ArrivalNotices d oldest false s t
      ∧ (t.dest d).awaiting = (s.dest d).awaiting.tail ++ [a]
      ∧ t.counter (.ofDest d .misses) = min (s.counter (.ofDest d .misses) + 1) 65535 := by
  obtain ⟨w, hw⟩ : ∃ w, w = oldestMissed g d f late x s := ⟨_, rfl⟩
  obtain ⟨u, hu⟩ : ∃ u, u = joinAwaiting d a (itemFired g d f late x s) := ⟨_, rfl⟩
  have joined : u = (offerArrival d oldest false w).modDest d fun r => { r with awaiting := r.awaiting ++ [a] } := by
    rw [hu, hw]
    exact joinAwaiting_full (by rwa [itemFired_dest]) (by rwa [itemFired_dest]) a
  have arrived := offerArrival_dests d oldest false w
  obtain ⟨frame, map, dests, links, notices⟩ := startCheck_item_keeps g (destSide d) u
  obtain ⟨gone, length⟩ := oldestMissed_leaves (g := g) (d := d) (f := f) (late := late) names found
  have same : (settle (startCheck g (destSide d) false u)).map = w.map := by
    rw [settle_map, map, joined, modDest_map, offerArrival_map]
  have before : SameExcept [.map, .dests, .gates, .counters, .notices] s u := by
    have first : SameExcept [.map, .dests, .gates, .counters, .notices] s w := hw ▸ oldestMissed_frame
    rw [joined]
    exact (first.trans ((offerArrival_frame d oldest false w).mono (by simp))).trans ((modDest_frame d _ _).mono (by simp))
  rw [← hw] at gone length
  rw [← hu]
  dsimp only
  refine ⟨⟨?_, by rw [same, length]⟩, (before.trans (frame.mono (by simp))).settled, ?_, ?_, ?_⟩
  · rw [State.find, same]; exact gone
  · refine oldestMissed_notices (g := g) (f := f) (late := late) (x := x) (a := a) (links.trans ?_) (dests.trans ?_) (notices.trans ?_) <;> rw [joined, ← hw]
    · exact links_of_kept (offerArrival_kept d oldest false w)
    · simp only [State.modDest, State.dest, arrived]
    · rfl
  · rw [settle_dest]
    simp only [State.dest, dests]
    rw [← State.dest, joined, modDest_dest_self]
    simp only [State.dest, arrived]
    rw [← State.dest, hw, oldestMissed_awaiting]
    rfl
  · rw [settle_counter, startCheck_counter, joined, modDest_counter, offerArrival_counter d oldest false _ (by simp), hw,
      oldestMissed_misses]

end

/-! ### The whole event (R125) -/

theorem ref_tag_of_find {s : State} {e : Entry} {x : Tag} (found : s.find (.tag x) = some e) : e.tag = some x :=
  tag_of_ref (find_ref found)

/-- An item's cycle begins whatever waits at its destination. -/
theorem fire_item_begins {s : State} {g : GateId} {d : DestId} {f : Pos} {e : Entry} {x : Tag} (at_gate : destGate d = g)
    (found : s.find (.tag x) = some e) : CycleBegun g d f e.late false s (settle (fire g e d f s)) := by
  rw [fire_item (ref_tag_of_find found)]
  refine Fired.cycleBegun ?_ (by simp)
  by_cases full : 4 ≤ (s.dest d).awaiting.length
  · cases queue : (s.dest d).awaiting with
    | nil => simp [queue] at full
    | cons oldest newer => exact fired_full at_gate full queue
  · exact fired_room (by omega)

/-- Settles O23: the fire of an item and of the token with the gate IDLE, and the missed fire of each with it CYCLING. -/
theorem fireTargetFiresOrMisses : Obligations.FireTargetFiresOrMisses := by
  intro s g r rest e d f hr law queue found at_gate bound fireAt due once
  have head := headDue_eq queue found bound fireAt due
  refine ⟨fun idle => ?_, fun cy busy => ⟨?_, ?_⟩⟩
  · have fires := exec_fires hr head idle
    cases r with
    | tag x =>
      obtain ⟨self, others, counted, late⟩ := fire_item_begins (f := f) at_gate found
      refine ⟨_, fires, self, others, counted, late, ?_, nofun⟩
      rintro x' c o ⟨⟩ cls owner
      have record : e.awaiting x (s.gate g).c = { tag := x, cls := c, owner := o, leftMs := (s.gate g).c } := by
        rw [Entry.awaiting, cls, owner]; rfl
      have leaves : (settle (fire g e d f s)).find (.tag x) = none
          ∧ (settle (fire g e d f s)).map.length + 1 = s.map.length := by
        rw [fire_item (ref_tag_of_find found)]
        by_cases full : 4 ≤ (s.dest d).awaiting.length
        · cases waiting : (s.dest d).awaiting with
          | nil => simp [waiting] at full
          | cons oldest newer => exact (item_misses_oldest law.2 found full waiting).1
        · exact (item_joins queue law.2 found (by omega)).1
      rw [fire_item (ref_tag_of_find found), record] at leaves ⊢
      refine ⟨leaves.1, leaves.2, fun room => (item_joins queue law.2 found room).2, fun full => ?_⟩
      have misses := fun oldest newer waiting => (item_misses_oldest (g := g) (f := f) (late := e.late)
        (a := { tag := x, cls := c, owner := o, leftMs := (s.gate g).c }) (oldest := oldest) (newer := newer)
        law.2 found full waiting).2
      cases waiting : (s.dest d).awaiting with
      | nil => simp [waiting] at full
      | cons oldest newer =>
        obtain ⟨frame, -, joined, missed⟩ := misses oldest newer waiting
        rw [waiting] at joined
        exact ⟨frame, fun a l h => (misses a l (waiting.trans h)).2.1, joined, missed⟩
    | token =>
      obtain ⟨⟨self, others, counted, late⟩, left⟩ := fire_token_begins (f := f) at_gate queue once found bound
      exact ⟨_, fires, self, others, counted, late, nofun, fun _ =>
        ⟨left, fire_token_waits found, fire_token_passes law.2 found⟩⟩
  · rintro x rfl armed
    have misses := exec_misses hr head busy
    rw [find_ref found] at misses
    subst at_gate
    obtain ⟨moved, frame, self, others, counted⟩ := missedFire_item queue once found bound armed
    obtain ⟨e', found', away, attempts, unfired, late, state⟩ := moved.entry
    refine ⟨_, e', misses, frame.settled, ?_, ?_, ?_, fun y hy => ?_, away, unfired, late, attempts, state, ?_,
      fun y hy => ?_, ?_, ?_⟩
    · exact (moved.told (((told_refl s).modGate (destGate d) _).raise _)).destNotices_event
    · rw [settle_find]; exact found'
    · rw [settle_map]; exact moved.length
    · rw [settle_find]; exact moved.others y hy
    · rw [settle_gate]; exact self
    · rw [settle_gate]; exact others y hy
    · rw [settle_counter]; exact counted
    · rw [settle_counter, moved.reroutes, headMissed_counted, if_neg (by simp)]
  · rintro rfl
    have misses := exec_misses hr head busy
    rw [find_ref found] at misses
    subst at_gate
    obtain ⟨frame, counted, ⟨gone, length, entries, test, latch⟩, self, others⟩ :=
      missedFire_token law.2 queue once found bound
    refine ⟨_, misses, frame.settled, counted.settled, ?_, ?_, fun y hy => ?_, ?_, fun y hy => ?_, ?_,
      settle_latch latch⟩
    · rw [settle_find]; exact gone
    · rw [settle_map]; exact length
    · rw [settle_find]; exact entries y hy
    · rw [settle_gate]; exact self
    · rw [settle_gate]; exact others y hy
    · rw [settle_test]; exact test

end Sys2Proof.Machine
end
